-- ==== Sys2Proof/Word.lean ====
section
/-!
DEFINITION. The plainest types of the model: octets, 32-bit register words, times. Nothing here gives a command a meaning.
-/
namespace Sys2Proof

/-- One octet of a frame, a descriptor or a memory. -/
abbrev Byte := BitVec 8

/-- A register word of BAR0 (R13): 32 bits, little-endian in memory. -/
abbrev Word := BitVec 32

/-- A string of octets, the first one first on the wire or at the lowest address. -/
abbrev Bytes := List Byte

/-- A raw time in units of 2.5 ps: the value of bits [72:0] of the layout of R10 (cycle count times 512, plus the tap). -/
abbrev Raw := Nat

/-- A ZTIME value (R11) as one number in units of 2^-16 ns since the TAI epoch. -/
abbrev ZTime := Nat

/-- Units of 2^-16 ns in one second. -/
abbrev ztPerSec : Nat := 65536000000000

/-- Taps in one SCLK cycle (R10). -/
abbrev tapsPerCycle : Nat := 512

end Sys2Proof
end

