-- ==== Sys2Proof/Syntax.lean ====
section
/-!
DEFINITION. The commands of the block: the ONE inductive `Instr`, one constructor per row of spec/opcode_table.json, and the
types of its operands. A command is a write or read of a register, a ring or sideband command, or an event on a pin, a clock,
a timer or a sensor. The spec's table gives the rows no bits, so every operand is a value that the sender of the command
supplies; which operands a row carries is the model's choice from the row's rule (assumption 1).
-/
namespace Sys2Proof

/-- Who writes a register or holds a claim (R223): agent 0 to 3. -/
inductive Agent where
  | profile | host | sideband | psm
  deriving DecidableEq, Repr

/-- The two sides of a port. -/
inductive Side where
  | line | host
  deriving DecidableEq, Repr

/-- Where a run-time command comes from: a command ring CR0 to CR31, or the sideband executor (R359, R373). -/
inductive Src where
  | ring (r : Fin 32)
  | sideband
  deriving DecidableEq, Repr

/-- A command descriptor after its opcode byte (R358): FLAGS, TAG, A, B and C, with its source, and what the transfers that
the command makes bring: the octets read from host memory at the address in B, or an error of the transfer. The sideband's
octets come from the mailbox of the state, so `data` is read for ring commands only. `clash` says that a word of what a sideband
command writes to the mailbox meets a write of port A (R392): its place among the words written, and what port A leaves in it; `part`
that port A's write was of fewer than 16 octets (R385). -/
structure Cmd where
  src : Src
  flags : Byte
  tag : BitVec 16
  a : BitVec 32
  b : BitVec 64
  c : BitVec 128
  data : Bytes
  dmaErr : Bool
  clash : Option (Nat × Bytes) := none
  part : Bool := false
  deriving DecidableEq, Repr

/-- One content of a direction's block stream outside frames (R73); `d` is the three octets of an ordered set. -/
inductive Control where
  | idle (columns : Nat)                  -- a gap of whole idle columns of four octets (R77)
  | sequenceOs (d : BitVec 24)            -- O code 0x0
  | signalOs (d : BitVec 24)              -- O code 0xF
  | spxOs (tail : Bool)                   -- O code 0xA; on the line side only blocks outside the layout matter here (R131)
  | otherOs (code : BitVec 4) (d : BitVec 24)   -- any other O code
  | error                                 -- an /E/ in a gap
  | lpi                                   -- low-power idle column
  | shortGap                              -- a gap of fewer than 5 octets between two frames (R149, V4)
  deriving DecidableEq, Repr

/-- Where a timestamp point lies in its reference unit (R103, R105): in the 66-bit block after a start block whose start
character is in lane 0 or 4, or at its nominal position in a codeword: slot j, block k, octet lane; `age` is the number of codewords since the
last one with an alignment marker, 0 for that codeword itself, in which slot 0 is the marker's (R72, R105). -/
inductive Pos where
  | block (lane4 : Bool)
  | codeword (age j k lane : Nat)
  deriving DecidableEq, Repr

/-- A capture of a wire word (R104): SCLK cycle and tap of the first word of the reference unit, as the phase meter reads it,
before calibration, and the place of the timestamp point. -/
structure Stamp where
  w : Raw
  pos : Pos
  deriving DecidableEq, Repr

/-- A 66-bit block of the line, bit 0 first on the wire, and the capture of its first word; `slot` is its place in the codeword
with RS-FEC, 257-bit slot and block (R105). -/
structure SpxBlock where
  block : BitVec 66
  w : Raw
  slot : Nat × Nat
  deriving DecidableEq, Repr

/-- Octets of a frame that one RS-FEC codeword carries: the first, how many, and the symbols received in error (R72). -/
structure Codeword where
  first : Nat
  octets : Nat
  wrong : Nat
  deriving DecidableEq, Repr

/-- A received frame: octets from destination address to FCS, the offsets at which an /E/ stands, with RS-FEC its codewords in
error, its capture, the fill of the elastic stage when its first octet comes to the stage's head (R77), and the octet at which the
stage overflows while it passes (R79). -/
structure RxFrame where
  data : Bytes
  errs : List Nat
  codewords : List Codeword
  stamp : Stamp
  fill : Nat
  overflow : Option Nat
  deriving DecidableEq, Repr

/-- What a receiver hands to the port: a frame; control content of the stream, with the fill of the elastic stage when it comes to
the stage's head and, with RS-FEC, the symbols received in error in its codeword (R72); or, in TRAINING, the retimed bits. -/
inductive Ingress where
  | frame (f : RxFrame)
  | control (c : Control) (fill : Nat) (wrong : Nat := 0)
  | training (bits : List Bool)
  deriving DecidableEq, Repr

/-- What ends the liveness of a direction (R83): block lock or alignment-marker lock lost, the input below the loss-of-signal
threshold, or the high bit-error-rate state. -/
inductive LossCause where
  | blockLock | markerLock | signal | highBer
  deriving DecidableEq, Repr

/-- What the calibration engine measured on one unit of one step (R329): the step code, the unit (SENSE: sensor; DLL_LIN: line
0 to 90; PORT_LB: port; REF_ALIGN: port n, 32 + n for ball TIOn, 48 + i for capture line 88 + i), whether its precondition held
throughout, and two blocks of numbers. SENSE: the trims, as written. DLL_LIN: `a` the 512 corrections, `b` the residual peak INL
and DNL in fs. PORT_LB and REF_ALIGN (R333): `a` and `b` the sums over the 4,096 samples of each block, in taps, per side for
PORT_LB. -/
structure CalUnit where
  step : Nat
  unit : Nat
  pre : Bool
  a : List Int
  b : List Int
  deriving DecidableEq, Repr

/-- How many of a block's samples (0 the first, 1 the second) a tap of a line made (R327): of a unit of a step, on a side (0 line, 1
host); negative where the measurement subtracts the sample. -/
structure CalHits where
  step : Nat
  unit : Nat
  block : Nat
  side : Nat
  line : Nat
  tap : Nat
  count : Int
  deriving DecidableEq, Repr

/-- The commands of the block: one constructor per row of the opcode table. -/
inductive Instr where
  /-- VSTBY_RISE (R29): VSTBY rises through 3.0 V, which starts the 4 MHz oscillator and the held standby power-on reset. -/
  | vstbyRise
  /-- STANDBY_RESET_RELEASE (R29): After the 1 ms hold, the standby reset is released, PROFSEL is sampled and the standby NVM is read and checked. -/
  | standbyResetRelease (profsel : Fin 4) (nvm : List (Nat × Nat) := [])
  /-- SEQ_CI_LOW_DETECT (R268): SEQ_CI stays low for 100 µs after reset release, so the device takes cascade position 0. -/
  | seqCiLowDetect
  /-- CASCADE_TRAIN_SEND (R268): Every 1 ms a device that knows p sends a train of p + 1 low pulses on SEQ_CO. -/
  | cascadeTrainSend
  /-- CASCADE_TRAIN_END (R268): A train on SEQ_CI ends after 20 µs high and is counted toward learning the position. -/
  | cascadeTrainEnd (pulses : Nat)
  /-- VSTBY_BELOW_2V8 (R233): VSTBY falls below 2.8 V and the Atoll switches to VBAT, or stays on VSTBY and logs NO_CELL. -/
  | vstbyBelow2v8 (vbatQualified : Bool)
  /-- VSTBY_ABOVE_2V9 (R233): VSTBY rises above 2.9 V and the Atoll switches back to VSTBY with a TO_VSTBY log entry. -/
  | vstbyAbove2v9
  /-- VSTBY_COLLAPSE (R277): VSTBY falls below 2.7 V, which releases every EN and SEQSYNC and puts the sequencer in COLLAPSED. -/
  | vstbyCollapse
  /-- COLLAPSED_END (R273): VSTBY has stayed above 2.9 V for t_OFFMIN, so the sequencer leaves COLLAPSED for OFF, with auto-on as an on request. -/
  | collapsedEnd
  /-- STANDBY_POR (R33): VSTBY falls below 2.5 V, which clears the standby and main domains. -/
  | standbyPor
  /-- ATOLL_POR (R233): VAON rises above 1.8 V after brown-out, which causes the Atoll power-on reset, sets APOR and CELL_LOSS, and sets every sticky flag. -/
  | atollPor (vstby29 : Bool)
  /-- ATOLL_BROWN_OUT (R233): VAON falls below the brown-out level, and counting and retention stop. -/
  | atollBrownOut
  /-- VBAT_LOW (R234): A VBAT reading below 2.2 V sets VBAT_LOW and writes one SUPPLY entry, and a reading above 2.3 V clears it. -/
  | vbatLow (mv : Nat)
  /-- CELL_DETECTION (R288): VBAT below 1.0 V for more than 100 µs is an MS2 detection, confirmed at once. -/
  | cellDetection (us : Nat)
  /-- MANUAL_RESET (R280): MR_N low for 1 ms is a manual reset, which is a main reset while the main domain is powered. -/
  | manualReset
  /-- MR_N_RISE (R280): MR_N rises, which releases the main domain from a held manual reset and restarts t_RST. -/
  | mrNRise
  /-- MAIN_RESET (R34): A main reset clears the main domain, loses RAWCT, epochs, claims and staged records, and asserts RST_OUT_N. -/
  | mainReset
  /-- HOST_INTERFACE_RESET (R35): PERST_N, hot reset, FLR or link down resets the HIF block only, discarding pending commands and ring state. -/
  | hostInterfaceReset
  /-- SYN0_START_LOCK (R179): At step 6 SYN0 and every DLL reach lock from REFIN, which completes the step. -/
  | syn0StartLock (late : Bool)
  /-- MAIN_RESET_RELEASE (R278): With every CORE rail GOOD and step 6 done, the main reset is released and RAWCT starts from 0. -/
  | mainResetRelease (nvm : List (Nat × Nat) := [])
  /-- POWER_UP_CAL_START (R335): At T4 every port enters CAL, loopback is engaged and REF_QUAL is sampled. -/
  | powerUpCalStart
  /-- POWER_UP_CAL_END (R335): At T5 the power-up run ends, the sets switch, the state is decided and the ports are released. -/
  | powerUpCalEnd (units : List CalUnit) (edge : Raw) (cycles : Nat) (hits : List CalHits := []) (sw : Raw := 0)
  /-- RST_OUT_RELEASE (R279): After t_RST in RUN with no reset cause, RST_OUT_N is released. -/
  | rstOutRelease
  /-- SQ_COMMAND_PULSE (R269): A command pulse on SEQSYNC starts power-up from state 0 or power-down from RUN. -/
  | sqCommandPulse
  /-- SQ_STATE_END (R269): SEQSYNC goes high at the end of a state, and after the gap sample the cascade enters the next or the reversed state. -/
  | sqStateEnd (low : Bool)
  /-- RAIL_GOOD (R264): The good comparator has been high for t_PGSTAB, so the rail enters GOOD. -/
  | railGood (n : Nat)
  /-- RAIL_PGTO_TIMEOUT (R264): t_PGTO elapses without GOOD, so the rail fails with TIMEOUT and EN is released. -/
  | railPgtoTimeout (n : Nat)
  /-- GOOD_COMPARATOR_CHANGE (R264): The good comparator output of a rail changes, which counts a transition or starts a drop timer. -/
  | goodComparatorChange (n : Nat) (good : Bool) (off : Bool := good)
  /-- RAIL_DROP (R264): The good comparator stays low longer than t_PGDROP in GOOD, so the rail fails with DROP. -/
  | railDrop (n : Nat)
  /-- RAIL_OFF (R264): The off comparator goes low in FALLING, so the rail enters OFF. -/
  | railOff (n : Nat)
  /-- RAIL_OFF_TIMEOUT (R264): t_OFFTO elapses in FALLING, so the rail is taken as OFF with OFF_TO. -/
  | railOffTimeout (n : Nat)
  /-- OFFMIN_END (R273): t_OFFMIN ends, and the sequencer enters FAULT_OFF or OFF and sends a latched on request. -/
  | offminEnd
  /-- RETRY_CLEAR (R275): After 60 s continuously in RUN, RETRY returns to 0. -/
  | retryClear
  /-- PWRBTN_PRESS (R281): A debounced PWRBTN_N press is an on request, or clears FAULT_OFF, depending on the state. -/
  | pwrbtnPress
  /-- PWRBTN_RELEASE (R281): A debounced release before t_LONG is a short press. -/
  | pwrbtnRelease
  /-- BTN_LONG (R281): The button is still pressed at t_LONG, which gives BTN_LONG and, where BTN_OFF allows, an off request. -/
  | btnLong
  /-- ACK_TIMEOUT (R282): t_ACK elapses with ACK_RUN set, which is an off request. -/
  | ackTimeout
  /-- ATOLL_SECOND (R236): The prescaler wraps and the TAI seconds counter advances. -/
  | atollSecond (cycles : Nat) (edge : Raw)
  /-- HEARTBEAT (R235): The running main domain sends the Atoll one heartbeat per Atoll second, which keeps the MAIN operating state. -/
  | heartbeat
  /-- HEARTBEAT_TIMEOUT (R235): The last heartbeat is more than 2 s old, so the Atoll leaves MAIN for STANDBY or BATTERY. -/
  | heartbeatTimeout
  /-- TRIM_INTERVAL (R240): Every 8 s the Atoll reads ATEMP and sets AT_TRIM from the learned or factory table. -/
  | trimInterval (cycles : Nat) (atemp : BitVec 12) (us : Nat) (lost : List Nat := [])
  /-- LEARNING_MEASUREMENT (R241): At the end of a qualifying 8 s window a learned table point is updated. -/
  | learningMeasurement (start stop : Raw) (mean : BitVec 12) (first : BitVec 12 := mean) (last : BitVec 12 := mean)
  /-- MIRROR_WRITE (R243): Once per hour of LOCKED operation with changed points, the table is written to the alternate mirror sector. -/
  | mirrorWrite
  /-- WAKE_PULSE_END (R253): With WAKE_PULSE = 1, WAKE_N is released after 1,024 cycles. -/
  | wakePulseEnd
  /-- WAKE_RELEASE (R253): Software writes 1 to AT_STAT.WAKE, which releases WAKE_N. -/
  | wakeRelease (ag : Agent) (v : Word)
  /-- ENCL_SAMPLE (R287): The 1 ms sample of ENCL_N finds the enclosure open, which is an MS0 detection. -/
  | enclSample (high : Bool) (us : Nat)
  /-- MESH_SAMPLE (R287): A mesh sample whose read-back differs from the driven bit is an MS1 detection. -/
  | meshSample (differs : Bool) (us : Nat)
  /-- AOSC_DETECTION (R288): No crystal edge for 122 µs is an MS4 detection, and confirmation sets CAL_INV and RC_RUN. -/
  | aoscDetection (us : Nat)
  /-- RC_RUN_CLEAR (R288): Crystal edges have run for 8 s without a detection, so RC_RUN clears. -/
  | rcRunClear
  /-- VGLT_DETECTION (R287): A glitch on VDD_CORE or VDD_IO beyond ±8 % is an MS5 detection. -/
  | vgltDetection (us : Nat)
  /-- JTEMP_SAMPLE (R298): The 1 ms JTEMP sample is compared with the thermal levels, and at 135 °C it is an MS7 detection. -/
  | jtempSample (readings : List Int) (us : Nat)
  /-- SOURCE_INACTIVE (R289): An active source goes a full W without a detection and becomes inactive. -/
  | sourceInactive (k : Nat)
  /-- UNION_CLOSE (R291): At the 32 kHz edge the collected confirmations, firings and raises form a union whose responses are resolved and executed. -/
  | unionClose
  /-- MATRIX_LOG_WAIT_END (R293): After the union's record is committed, or after 2 ms, RESET or SHUTDOWN is executed. -/
  | matrixLogWaitEnd
  /-- MON_UNLOCK (R296): A write to MON_UNLOCK advances or fails the two-value unlock sequence. -/
  | monUnlock (ag : Agent) (v : Word) (us : Nat)
  /-- UNLOCK_WINDOW_EXPIRY (R296): The 10 ms unlock window closes without a sticky write. -/
  | unlockWindowExpiry
  /-- UNLOCK_HOLDOFF_END (R296): The 1 s refusal after a failed unlock ends. -/
  | unlockHoldoffEnd
  /-- MON_STICKY_CLEAR (R296): A W1C write to MON_STICKY in a window clears the flags of inactive sources and closes the window. -/
  | monStickyClear (ag : Agent) (v : Word)
  /-- SELFTEST_WINDOW_END (R297): The 1 ms blind window ends, the result is recorded and the stimulus is removed. -/
  | selftestWindowEnd (k : Nat) (hit cond : Bool) (us : Nat)
  /-- GOV_EVALUATION (R299): Every 1 ms the governor computes P and adds the excess energy to the current bucket. -/
  | govEvaluation (readings : List Nat) (us : Nat)
  /-- GOV_BUCKET_ADVANCE (R299): A 10 s bucket closes and the oldest leaves the 600 s window. -/
  | govBucketAdvance
  /-- GOV_SHED_STEP (R300): At a 10 ms evaluation with USED at SHED_AT, or in thermal SHED, the next shedding step is taken. -/
  | govShedStep
  /-- GOV_RESTORE_STEP (R301): Once per second with USED at or below RESTORE_AT, one shedding step is undone. -/
  | govRestoreStep
  /-- RECORD_WRITE_START (R318): The head image with a credit available begins its four-step write into the next slot. -/
  | recordWriteStart
  /-- RECORD_COMMIT (R318): The final verification passes and the record is committed. -/
  | recordCommit (failed : Option Bool) (mapOk : Bool)
  /-- PERIODIC (R311): Every REC_PERIOD of REC_OPSEC a PERIODIC record is staged and the interval ends. -/
  | periodic
  /-- WRITE_CREDIT_ADD (R314): Every CREDIT_INT seconds one write credit is added. -/
  | writeCreditAdd
  /-- OPSEC_TICK (R307): REC_OPSEC advances every 781,250,000 SCLK cycles. -/
  | opsecTick
  /-- QUANTITY_SAMPLE (R309): A quantity sample updates its extremes and the per-second histogram maximum. -/
  | quantitySample (q : Nat) (v : Int)
  /-- COMPACTION_PASS (R322): Every COMPACT_INT hours a pass reads the circulating records and refreshes those needing two-bit correction. -/
  | compactionPass (two bad verifyFails : List Nat) (count : Nat := 2048) (mapFails : List Nat := []) (words : List (Nat × Nat) := [])
  /-- REF_QUALIFIED (R331): CALREF_CLK and CALREF_PPS have held their limits for 2 s, so REF_QUAL is set. -/
  | refQualified (clkErr ppsErr : Int)
  /-- REF_LOSS_CAL (R331): A bad PPS period, a missing PPS or a missing clock edge clears REF_QUAL. -/
  | refLossCal (clkErr ppsErr : Int)
  /-- CAL_PERIODIC_RUN (R337): Every CAL_CTRL.PERIOD minutes a run of SENSE and DLL_LIN starts. -/
  | calPeriodicRun
  /-- AUTO_TRACE_RUN (R337): With AUTO_TRACE, REF_QUAL set while UNTRACED starts one REF_ALIGN run. -/
  | autoTraceRun
  /-- CAL_RUN_END (R328): A run's validation ends and all its results switch in at one CAL epoch, or at CAL_SWRAW in COLD. -/
  | calRunEnd (units : List CalUnit) (hits : List CalHits := [])
  /-- CAL_STORE_DONE (R342): A calibration copy store finishes with its commit word verified, or fails. -/
  | calStoreDone (ok : Bool)
  /-- PUBLICATION_INSTANT (R166): At each publication instant the servo forms an update and publishes a RATE epoch. -/
  | publicationInstant (raw : Raw)
  /-- REBASE (R47): r - raw0 reaches 2^40 units and a REBASE epoch begins. -/
  | rebase
  /-- SLEW_END (R65): After D cycles a SLEW_END epoch removes the slew rate. -/
  | slewEnd
  /-- SOURCE_LOSS (R60): No valid measurement arrives for TB_LOSS_TO and the timebase goes to HOLDOVER. -/
  | sourceLoss (raw : Raw)
  /-- REVISION_COMPLETE (R58): The last record is rewritten, REVISING clears and TB_REVISED is posted. -/
  | revisionComplete
  /-- LINE_LIVE (R83): A direction gains block lock, and alignment-marker lock with RS-FEC, and becomes live. -/
  | lineLive (n : Nat) (sd : Side) (raw : Raw)
  /-- LINE_LIVENESS_LOSS (R83): Block lock or marker lock is lost, or loss of signal persists 200 ns, and the direction stops being live. -/
  | lineLivenessLoss (n : Nat) (sd : Side) (raw : Raw) (cause : LossCause := .blockLock)
  /-- TRAINING_ENTRY (R82): Three frame markers with LT_PASS put the port in TRAINING. -/
  | trainingEntry (n : Nat) (sd : Side := .line)
  /-- LT_TIMEOUT (R82): LT_TO expires in TRAINING and the port returns to ACQUIRE. -/
  | ltTimeout (n : Nat)
  /-- FRAME_INGRESS (R88): A received frame is classified, timestamped, rewritten by SUB and passed, copied or consumed. -/
  | frameIngress (n : Nat) (sd : Side) (x : Ingress) (tx : Stamp)
  /-- EGRESS_FRAME_START (R91): At a frame boundary the egress starts the first ready frame that passes the launch guard. -/
  | egressFrameStart (n : Nat) (sd : Side) (st : Stamp)
  /-- PTP_MESSAGE_RX (R153): A terminated PTP message is matched, checked and used for measurement, qualification or response. -/
  | ptpMessageRx (n : Nat) (f : RxFrame)
  /-- PTP_MESSAGE_DUE (R155): A Sync, Announce, Delay_Req or Pdelay_Req interval elapses and the message is originated. -/
  | ptpMessageDue (n msgType : Nat)
  /-- ANNOUNCE_EXPIRY (R163): No qualifying Announce within three intervals makes PTP candidate `k` ineligible. -/
  | announceExpiry (k : Nat)
  /-- CANDIDATE_QUALIFY (R163): A candidate eligible for QUAL_T becomes qualified. -/
  | candidateQualify (k : Nat)
  /-- WTR_EXPIRY (R164): A better candidate has stayed best for WTR and is selected. -/
  | wtrExpiry
  /-- DISCOVERY_FRAME_RX (R128): A received SPX discovery HELLO or BYE drives the session state. -/
  | discoveryFrameRx (n : Nat) (f : RxFrame)
  /-- HELLO_TIMER (R128): Every 1 ms in PROBE a HELLO is sent, and after 8 the session goes to WAIT. -/
  | helloTimer (n : Nat)
  /-- CAPS_SEND_TIMER (R128): Every 100 µs in CAPS the capability words are sent. -/
  | capsSendTimer (n : Nat)
  /-- CAPS_TIMEOUT (R128): 10 ms in CAPS without success ends in WAIT with CAPS_FAIL. -/
  | capsTimeout (n : Nat)
  /-- CAPS_RX (R130): A received CAPS word is checked and may complete the move to RUN. `wrong` is the number of symbols received in
  error in the block's codeword (R72), here and in the rows below. -/
  | capsRx (n : Nat) (b : SpxBlock) (wrong : Nat := 0)
  /-- SPX_MARK_DUE (R134): The exchange period elapses and a new MARK exchange is sent in idle blocks. -/
  | spxMarkDue (n : Nat) (st : Stamp)
  /-- SPX_EXCHANGE_RX (R135): An assembled exchange is resolved and yields a measurement or a violation. -/
  | spxExchangeRx (n : Nat) (bs : List SpxBlock) (wrong : List Nat := [])
  /-- RR_FAIL (R145): No agreement within 100 ms sets RR_FAIL and clears ROUTE_PEND. -/
  | rrFail (n : Nat)
  /-- SPX_STATUS_WORD_RX (R135): A STATUS word is collected, and 16 in order make the partner record held. -/
  | spxStatusWordRx (n : Nat) (b : SpxBlock) (wrong : Nat := 0)
  /-- SPX_NACK_RX (R149): A received NACK marks the named MARK history entries unreported. -/
  | spxNackRx (n : Nat) (b : SpxBlock) (wrong : Nat := 0)
  /-- MARK_SILENCE (R128): No valid MARK for 8 ms in RUN returns the session to PROBE. -/
  | markSilence (n : Nat)
  /-- WAIT_EXPIRY (R128): 1 s in WAIT returns the session to PROBE. -/
  | waitExpiry (n : Nat)
  /-- FALLBACK_EXPIRY (R128): 1 s in FALLBACK returns the session to PROBE. -/
  | fallbackExpiry (n : Nat)
  /-- SPX_STARVED (R143): More than 250 µs between complete exchanges in RUN sets STARVED. -/
  | spxStarved (n : Nat)
  /-- PHASE_AVERAGE (R139): Each 2^AVG wire words the receive phase is averaged and unwrapped, and a step makes a MARK due at once. -/
  | phaseAverage (n : Nat) (raw : Raw) (avg : Int)
  /-- REF_LOSS (R179): No REFIN edge for 8 reference cycles sets REF_LOSS. -/
  | refLoss
  /-- REF_RESTORE (R179): 1,024 consecutive reference cycles with edges clear REF_LOSS. -/
  | refRestore (cycles : Nat := 0)
  /-- SYN0_UNLOCK (R187): SYN0 loses lock, the VCO is frozen, SYN_UNLOCK is set and the timebase enters DEGRADED. -/
  | syn0Unlock (errs : List Int := [])
  /-- CHECKER_WINDOW_END (R188): A frequency checker window ends, which updates CK_FERR and may halt or release ports and outputs. -/
  | checkerWindowEnd (err : Int) (refErr : Option Int) (us : Nat)
  /-- SYN0_RELOCK_START (R189): RELOCK_T after the loss and after REF_LOSS clears, SYN0 closes its loop again. -/
  | syn0RelockStart
  /-- SYN_RELOCK (R189): SYN0 meets the lock criterion again, SYN_UNLOCK clears and the timebase leaves DEGRADED. -/
  | synRelock (errs : List Int := [])
  /-- DPLL_UPDATE (R182): Every 1 ms the DPLL computes a new target y and changes state. -/
  | dpllUpdate (ferr : Int) (measured : List Int)
  /-- FSRC_QUALIFY (R181): A frequency candidate eligible for QUAL_T becomes qualified. -/
  | fsrcQualify (k : Nat)
  /-- FSRC_WTR_EXPIRY (R181): A better frequency candidate has stayed best for WTR and replaces the selected one. -/
  | fsrcWtrExpiry
  /-- GUARD_STRETCH (R184): The period guard stretches a short SYN0 cycle and counts it. -/
  | guardStretch
  /-- DLL_UNLOCK (R192): A DLL loses lock and places or measures at tap 0 until it relocks. -/
  | dllUnlock (d : Nat)
  /-- DLL_RELOCK (R192): An unlocked DLL relocks within 200 µs. -/
  | dllRelock (d : Nat)
  /-- CKO_START (R195): An enabled CKO output rises at the first grid instant at least 2 µs after the enable. -/
  | ckoStart (n : Nat)
  /-- TA_COMMIT (R204): An occurrence enters the firing stage LEAD before its target and its parts are converted to raw time. -/
  | taCommit (raw : Raw)
  /-- TA_EXECUTE (R207): An occurrence reaches its raw time and is tested, then executed or skipped. -/
  | taExecute (raw : Raw) (tx : List Stamp)
  /-- PG_START (R217): An enabled period generator rises at the first grid instant at least 2 µs later. -/
  | pgStart (k : Nat)
  /-- CAPTURE_EDGE (R219): An edge on a TIO ball is captured at tap resolution into a unit's FIFO, or lost. -/
  | captureEdge (ball : Nat) (rising : Bool) (w : Raw)
  /-- CAPTURE_DELIVERY (R221): A FIFO record is delivered to its event ring in round-robin turn. -/
  | captureDelivery
  /-- DOORBELL_WRITE (R352): A doorbell write moves a ring pointer, or is ignored as bad. -/
  | doorbellWrite (r : Nat) (v : Word)
  /-- DESCRIPTOR_FETCH (R353): The device fetches descriptors from a command ring in round-robin order. -/
  | descriptorFetch (d : Bytes) (err : Bool)
  /-- HELD_COMPLETION_WRITE (R351): A completion held by a full CP is written once an entry is freed. -/
  | heldCompletionWrite (r : Nat)
  /-- MSIX_MODERATION_TIMER (R368): MOD_US expires after a ring's first unsignalled entry and the vector fires. -/
  | msixModerationTimer (r : Nat)
  /-- RING_ENABLE (R349): Setting a ring's EN resets its pointers to 0 and its phase to 1. -/
  | ringEnable (ag : Agent) (i : Nat) (v : Word)
  /-- MT_WINDOW_BORROW (R387): After MT_GAP the memory test engine borrows the next window and copies it to the shadow. -/
  | mtWindowBorrow
  /-- MT_COPY_DONE (R387): 256 words have been copied to the shadow and the test begins. -/
  | mtCopyDone
  /-- MT_TEST_DONE (R389): March C- completes and failing words are recorded. -/
  | mtTestDone (fails : List Nat)
  /-- MT_RETURN_DONE (R387): The window is copied back, spare rows repair failures and the window is released. -/
  | mtReturnDone
  /-- SCRUB (R390): The scrub reads SRAM words and writes back corrected ones over SCRUB_PERIOD. -/
  | scrub (first count : Nat) (upsets beats : List (Nat × Nat) := [])
  /-- RETENTION_ENTER (R383): A pool group all free for RET_IDLE enters retention. -/
  | retentionEnter (g : Nat)
  /-- GROUP_WAKE_DONE (R383): A waking group completes its wake and its cells can be granted. -/
  | groupWakeDone (g : Nat)
  /-- NOP (R359): Command NOP completes OK. -/
  | nop (c : Cmd)
  /-- RESET (R360): Command RESET completes OK and then applies a main reset 2 µs later. -/
  | reset (c : Cmd)
  /-- PROF_SELECT (R400): Command PROF_SELECT checks a profile and sets GLB_PROF.NEXT. -/
  | profSelect (c : Cmd)
  /-- TB_READ (R53): Command TB_READ converts RAWCT at execution into one conversion entry. -/
  | tbRead (c : Cmd)
  /-- CONVERT (R54): Command CONVERT converts 1 to 1,024 raw times using the history. -/
  | convert (c : Cmd)
  /-- ACCEPT_STEP (R64): Command ACCEPT_STEP applies the pending step whose ID matches. -/
  | acceptStep (c : Cmd)
  /-- SEND_FRAME (R90): Command SEND_FRAME injects a host frame into a port egress. -/
  | sendFrame (c : Cmd)
  /-- SPX_SET_ASYM (R146): Command SPX_SET_ASYM sets a port's FIX and UNC and may clear U_route. -/
  | spxSetAsym (c : Cmd)
  /-- SPX_ACCEPT_ROUTE (R146): Command SPX_ACCEPT_ROUTE clears RRT_HOLD so the route resolves at the next agreement. -/
  | spxAcceptRoute (c : Cmd)
  /-- SRV_SELECT (R165): Command SRV_SELECT forces or releases a source candidate. -/
  | srvSelect (c : Cmd)
  /-- SRV_PROPOSE (R169): Command SRV_PROPOSE supplies a software proposal and rate. -/
  | srvPropose (c : Cmd)
  /-- SRV_CLR_TAINT (R173): Command SRV_CLR_TAINT clears TAINT when no relevant sticky flag is set. -/
  | srvClrTaint (c : Cmd)
  /-- PTP_SET_ANNOUNCE (R175): Command PTP_SET_ANNOUNCE replaces the Announce template. -/
  | ptpSetAnnounce (c : Cmd)
  /-- TA_ARM (R202): Command TA_ARM writes and arms 1 to 256 action-table entries. -/
  | taArm (c : Cmd)
  /-- TA_DISARM (R226): Command TA_DISARM clears VALID of a range of entries. -/
  | taDisarm (c : Cmd)
  /-- TA_QUERY (R226): Command TA_QUERY copies entry images to host memory. -/
  | taQuery (c : Cmd)
  /-- LQ_ENQUEUE (R210): Command LQ_ENQUEUE copies a frame to the tail of a launch queue. -/
  | lqEnqueue (c : Cmd)
  /-- LQ_FLUSH (R214): Command LQ_FLUSH discards every uncommitted frame of a queue. -/
  | lqFlush (c : Cmd)
  /-- TA_CLAIM_BREAK (R225): Command TA_CLAIM_BREAK frees a resource whatever its owner and disables its feature. -/
  | taClaimBreak (c : Cmd)
  /-- AT_SET_TIME (R246): Command AT_SET_TIME writes the Atoll counter and sets TIME_VALID. -/
  | atSetTime (c : Cmd)
  /-- AT_SET_UTC (R247): Command AT_SET_UTC sets or schedules the UTC offset. -/
  | atSetUtc (c : Cmd)
  /-- AT_KEY_WRITE (R256): Command AT_KEY_WRITE writes a key slot and returns its KCV. -/
  | atKeyWrite (c : Cmd)
  /-- AT_ZEROIZE (R256): Command AT_ZEROIZE clears all four key slots. -/
  | atZeroize (c : Cmd)
  /-- AT_TBL_CLEAR (R243): Command AT_TBL_CLEAR clears every learned point and marks the mirror for rewrite. -/
  | atTblClear (c : Cmd)
  /-- SQ_POWER_ON (R284): Command SQ_POWER_ON makes an on request. -/
  | sqPowerOn (c : Cmd)
  /-- SQ_POWER_OFF (R284): Command SQ_POWER_OFF makes an off request. -/
  | sqPowerOff (c : Cmd)
  /-- SQ_BTN_ACK (R282): Command SQ_BTN_ACK acknowledges a short press and stops t_ACK. -/
  | sqBtnAck (c : Cmd)
  /-- SQ_CLEAR_FAULT (R284): Command SQ_CLEAR_FAULT takes FAULT_OFF to OFF and clears RETRY. -/
  | sqClearFault (c : Cmd)
  /-- SQ_RAIL_ON (R276): Command SQ_RAIL_ON re-enables a held class P rail and its dependants. -/
  | sqRailOn (c : Cmd)
  /-- MON_SELFTEST (R297): Command MON_SELFTEST applies a stimulus to a source and opens the blind window. -/
  | monSelftest (c : Cmd)
  /-- MON_RAISE (R295): Command MON_RAISE joins a software response mask to the next union. -/
  | monRaise (c : Cmd)
  /-- REC_READ (R323): Command REC_READ copies records from an area to host memory or the mailbox. -/
  | recRead (c : Cmd)
  /-- REC_MARK (R323): Command REC_MARK stages a HOST record with a value. -/
  | recMark (c : Cmd)
  /-- REC_SNAP (R323): Command REC_SNAP composes a LIVE image of the accumulators. -/
  | recSnap (c : Cmd)
  /-- CAL_RUN (R338): Command CAL_RUN starts a calibration run of the named steps and ports. -/
  | calRun (c : Cmd)
  /-- SB_REGISTER_WRITE (R374): Sideband code 0x01 writes a register in the SQ, MON, AT or HIF_SB blocks. `code` is the command code of
  the transaction: one that R372 does not list is refused. -/
  | sbRegisterWrite (addr : Nat) (v : Word) (pec : Bool) (code : Nat := 1)
  /-- SB_SET_READ_ADDRESS (R372): Sideband code 0x02 sets the register read address. -/
  | sbSetReadAddress (addr : Nat) (pec : Bool)
  /-- SB_REGISTER_READ (R372): Sideband code 0x03 reads the register at the read address and advances it by 4. -/
  | sbRegisterRead
  /-- SB_READ_STATUS (R372): Sideband code 0x04 returns the last sideband status. -/
  | sbReadStatus
  /-- SB_SET_MAILBOX_POINTER (R372): Sideband code 0x10 sets the mailbox pointer. -/
  | sbSetMailboxPointer (off : Nat) (pec : Bool)
  /-- SB_MAILBOX_WRITE (R392): Sideband code 0x11 writes mailbox port B, and may collide with port A. -/
  | sbMailboxWrite (data : Bytes) (collides : Option (Nat × Bytes)) (pec : Bool) (part : Bool := false)
  /-- SB_MAILBOX_READ (R372): Sideband code 0x12 reads mailbox port B and advances the pointer. -/
  | sbMailboxRead
  /-- SB_SUBMIT_COMMAND (R373): Sideband code 0x20 submits one command to the sideband executor. -/
  | sbSubmitCommand (d : Bytes) (pec : Bool) (clash : Option (Nat × Bytes) := none) (part : Bool := false)
  /-- SB_READ_COMPLETION (R372): Sideband code 0x21 reads HIF_SB_CMD. -/
  | sbReadCompletion
  /-- SB_READ_ALERT (R372): Sideband code 0x30 reads the pending alert sources. -/
  | sbReadAlert
  /-- ALERT_RESPONSE_READ (R375): An Alert Response Address read won by the device returns its address and releases ALERT_N. -/
  | alertResponseRead (won : Bool)
  /-- WIDE_LO_READ (R417): Reading a _LO register latches _MID and _HI for that agent. `len` is the size of a host access (R416). -/
  | wideLoRead (ag : Agent) (addr : Nat) (len : Nat := 4)
  /-- WIDE_LO_WRITE (R417): Writing _LO commits it together with that agent's staged _MID and _HI in one SCLK. -/
  | wideLoWrite (ag : Agent) (addr : Nat) (v : Word)
  /-- WIDE_UPPER_WRITE (R417): Writing _MID or _HI stages the word for that agent. -/
  | wideUpperWrite (ag : Agent) (addr : Nat) (v : Word)
  /-- REGISTER_WRITE (R15): A write to a register without behaviour of its own updates its fields per their access codes. A host access
  of another size brings the octets after the first four in `rest` and its byte enables, octet 0 in bit 0, in `en` (R391, R416). -/
  | registerWrite (ag : Agent) (addr : Nat) (v : Word) (rest : Bytes := []) (en : Option Nat := none)
  /-- STR_CTRL_EN_WRITE (R84): Writing STR_CTRL.EN enables or disables a port and claims or releases its DLLs. -/
  | strCtrlEnWrite (ag : Agent) (i : Nat) (v : Word)
  /-- STR_POOL_RESV_WRITE (R96): Writing STR_POOL.RESV changes, claims or releases a port's reservation, or is refused. -/
  | strPoolResvWrite (ag : Agent) (i : Nat) (v : Word)
  /-- CKO_EN_WRITE (R195): Writing CK_CKO_CTRL.EN claims the output's DLL and starts or stops the output. -/
  | ckoEnWrite (ag : Agent) (i : Nat) (v : Word)
  /-- TIO_MODE_WRITE (R215): Writing TA_TIO_CTRL.MODE claims or releases a ball, its DLL and a period generator. -/
  | tioModeWrite (ag : Agent) (i : Nat) (v : Word)
  /-- CU_EN_WRITE (R219): Writing TA_CU_CTRL.EN claims a capture unit and restarts its counts, or stops it. -/
  | cuEnWrite (ag : Agent) (i : Nat) (v : Word)
  /-- LQ_EN_WRITE (R209): Writing TA_LQ_CTRL.EN claims a launch queue, or discards its frames and releases it. -/
  | lqEnWrite (ag : Agent) (i : Nat) (v : Word)
  /-- PG_EN_WRITE (R217): Writing a period generator's EN arms its start or stops it. -/
  | pgEnWrite (ag : Agent) (i : Nat) (v : Word)
  /-- ALARM_EN_WRITE (R250): Setting an alarm's EN with a past match fires it or advances its match. -/
  | alarmEnWrite (ag : Agent) (i : Nat) (v : Word)
  /-- STR_CNT_CLR (R100): Writing 1 to STR_CNT_CLR clears every STR_CNT register of the port. -/
  | strCntClr (ag : Agent) (i : Nat) (v : Word)
  /-- SPX_CNT_CLR (R151): Writing 1 to SPX_CNT_CLR clears every SPX_CNT register of the port. -/
  | spxCntClr (ag : Agent) (i : Nat) (v : Word)
  /-- PTP_PCNT_CLR (R177): Writing 1 to PTP_PCNT_CLR clears the port's PTP counters. -/
  | ptpPcntClr (ag : Agent) (i : Nat) (v : Word)
  /-- CK_CNT_CLR (R197): Writing 1 to CK_CNT_CLR clears the CK counters. -/
  | ckCntClr (ag : Agent) (v : Word)
  /-- TA_CNT_CLR (R227): Writing 1 to TA_CNT_CLR clears every TA_CNT register. -/
  | taCntClr (ag : Agent) (v : Word)
  /-- MEM_CNT_CLR (R393): Writing 1 to MEM_CNT_CLR clears MEM_CONF, MEM_COLL.COUNT and the ECC counters of kinds 0 to 3. -/
  | memCntClr (ag : Agent) (v : Word)
  /-- MEM_POOL_CLR (R101): Writing 1 to CLR_MIN sets MIN_FREE to FREE. -/
  | memPoolClr (ag : Agent) (v : Word)
  /-- JMAX_CLR (R305): Writing 1 to MON_JTEMP.JMAX_CLR sets JMAX to JTEMP. -/
  | jmaxClr (ag : Agent) (v : Word)
  /-- SNVM_KEY_WRITE (R401): Writes to GLB_SNVM_KEY unlock or lock standby-NVM programming. -/
  | snvmKeyWrite (ag : Agent) (v : Word)
  /-- SNVM_PROG (R401): Writing 1 to GLB_SNVM_CMD.PROG starts programming one standby-NVM code word. -/
  | snvmProg (ag : Agent) (v : Word)
  /-- SNVM_READ (R402): Writing 1 to GLB_SNVM_CMD.READ reads the word at ADDR into DATA0 to DATA3. -/
  | snvmRead (ag : Agent) (v : Word)
  /-- SNVM_PROG_DONE (R401): A standby-NVM program and verify finishes, clearing BUSY or setting FAIL. -/
  | snvmProgDone (ok : Bool)
  /-- TST_KEY_WRITE (R404): Writes to TST_KEY unlock the test block, or lock it and clear perturbations. -/
  | tstKeyWrite (ag : Agent) (v : Word)
  /-- FORCE_UNLOCK (R405): Writing 1 to TST_SYN.FORCE_UNLOCK forces one SYN0 loss of lock. -/
  | forceUnlock (ag : Agent) (v : Word)
  /-- ECC_ARM (R405): Writing 1 to TST_ECC_CTRL.ARM arms a forced error on the next write of a word. -/
  | eccArm (ag : Agent) (v : Word)
  /-- JTAG_INSTRUCTION (R408): A boundary-scan instruction is loaded, and test instructions hold the main domain in reset. -/
  | jtagInstruction (code : Byte) (cells : List (Nat × Bool) := [])
  /-- TEST_LOGIC_RESET (R408): Entering Test-Logic-Reset releases the main domain from a scan-held reset. -/
  | testLogicReset
  /-- PSM_CTRL_WRITE (R409): Writing PSM_CTRL.EN enables or disables the PSM legacy window. -/
  | psmCtrlWrite (ag : Agent) (v : Word)
  /-- ENTER (R409): PSM command ENTER puts a partition in SERVICE, disabling its ports and moving claims to agent 3. -/
  | enter (ag : Agent) (q : Nat)
  /-- EXIT (R409): PSM command EXIT writes the legacy pages to the native registers and returns the partition to NORMAL. -/
  | exit (ag : Agent) (q : Nat)
  /-- PSM_UCODE_WORD (R411): A write to PSM_Qq_UCODE adds one word to the ZN2440 microcode image. -/
  | psmUcodeWord (ag : Agent) (q : Nat) (v : Word)
  /-- SPX_EN_WRITE (R128): Writing SPX_CTRL.EN takes the session to OFF (sending a BYE with REASON 2 from CAPS or RUN), or from OFF to PROBE when the line direction is live. -/
  | spxEnWrite (ag : Agent) (i : Nat) (v : Word)
  /-- PCIE_LINK_UP (R347): After PERST_N is high the PCI Express link completes training and reaches L0, so configuration space answers and HIF_STATUS.LINK_UP is set. -/
  | pcieLinkUp (speed width : Nat)
  /-- SMBUS_TIMEOUT (R371): An SMBus clock held low for the 25 to 35 ms timeout aborts the sideband transaction in progress and resets the target. -/
  | smbusTimeout
  deriving DecidableEq, Repr
end Sys2Proof
end

