-- ==== Sys2Proof/Decode.lean ====
section
/-!
DEFINITION. Commands from table words. spec/opcode_table.json gives no row any bits or operands: a command of this block is a value
that its sender supplies, and no word spells one.
-/
namespace Sys2Proof

/-- The command that a word spells by the table's bits: the table gives bits to no row. -/
def decodeTableWord (_nbits _w : Nat) : Option Instr := none

end Sys2Proof
end

