-- ==== Sys2Proof/Machine/Bytes.lean ====
section
/-!
DEFINITION. Octet strings: little-endian and big-endian numbers, slices and overwrites, the CRC-32 of IEEE 802.3, the internet
checksum sum, and signed readings of bit fields. Shared by every family.
-/
namespace Sys2Proof.Machine

/-- `n` octets of `v`, least significant first. -/
def le : Nat → Nat → Bytes
  | 0, _ => []
  | n + 1, v => BitVec.ofNat 8 v :: le n (v / 256)

/-- `n` octets of `v`, most significant first (wire order). -/
def be (n v : Nat) : Bytes := (le n v).reverse

/-- The number that octets spell, least significant first. -/
def leNat : Bytes → Nat
  | [] => 0
  | b :: t => b.toNat + 256 * leNat t

/-- The number that octets spell, most significant first. -/
def beNat (b : Bytes) : Nat := leNat b.reverse

/-- Octets [off, off+n) of a string. -/
def sub (b : Bytes) (off n : Nat) : Bytes := (b.drop off).take n

/-- The big-endian number at octets [off, off+n). -/
def beAt (b : Bytes) (off n : Nat) : Nat := beNat (sub b off n)

/-- The little-endian number at octets [off, off+n). -/
def leAt (b : Bytes) (off n : Nat) : Nat := leNat (sub b off n)

/-- The string with `v` in place of the octets from `off`. -/
def putAt (b : Bytes) (off : Nat) (v : Bytes) : Bytes := b.take off ++ v ++ b.drop (off + v.length)

/-- A string padded with zero octets, or cut, to `n` octets. -/
def padTo (n : Nat) (b : Bytes) : Bytes := b.take n ++ List.replicate (n - b.length) 0

/-- Bits [lo+w-1:lo] of a number. -/
def bits (v lo w : Nat) : Nat := (v / 2 ^ lo) % 2 ^ w

/-- Bit `i` of a number. -/
def bit (v i : Nat) : Bool := v.testBit i

/-- A number of `w` bits read as two's complement. -/
def signed (w v : Nat) : Int := if v % 2 ^ w < 2 ^ (w - 1) then (v % 2 ^ w : Nat) else (v % 2 ^ w : Nat) - (2 ^ w : Nat)

/-- An integer held in `w` bits, two's complement. -/
def toBits (w : Nat) (v : Int) : Nat := (v % (2 ^ w : Nat)).toNat

/-- An integer brought within limits. -/
def clampInt (lo hi v : Int) : Int := if v < lo then lo else if hi < v then hi else v

/-- A quotient rounded to nearest, an exact tie to the even value; the divisor is positive. -/
def roundEven (n d : Int) : Int :=
  let q := n / d
  let r := 2 * (n % d)
  if r < d then q else if d < r then q + 1 else if q % 2 = 0 then q else q + 1

/-- A number saturated at its largest value of `w` bits. -/
def satAdd (w v n : Nat) : Nat := min (v + n) (2 ^ w - 1)

/-- 1 for true, 0 for false. -/
def b2n (b : Bool) : Nat := if b then 1 else 0

/-- One octet into the reflected CRC-32 register of IEEE 802.3. -/
def crcStep (c : BitVec 32) (b : Byte) : BitVec 32 :=
  (List.range 8).foldl (fun c _ => if c &&& 1 = 1 then (c >>> 1) ^^^ 0xEDB88320#32 else c >>> 1) (c ^^^ b.setWidth 32)

/-- The CRC-32 register after a string, from an initial value, without a final inversion. -/
def crcRaw (init : BitVec 32) (b : Bytes) : BitVec 32 := b.foldl crcStep init

/-- The FCS octets of a frame without FCS, in the order in which they follow it. -/
def fcsOf (b : Bytes) : Bytes := le 4 ((crcRaw 0xFFFFFFFF#32 b) ^^^ 0xFFFFFFFF#32).toNat

/-- A frame, destination address to FCS, has a good FCS. -/
def fcsOk (b : Bytes) : Bool := decide (4 ≤ b.length) && decide (fcsOf (b.take (b.length - 4)) = b.drop (b.length - 4))

/-- The FCS of a rewritten frame (R121): FCS_in xor the CRC of the difference, taken without the initial and final
inversions, so that a bad FCS keeps its syndrome. Both strings run from destination address to the octet before the FCS. -/
def fcsAfter (old new fcs : Bytes) : Bytes :=
  let d := (old.zip new).map (fun p => p.1 ^^^ p.2)
  le 4 (leNat fcs ^^^ (crcRaw 0#32 d).toNat)

/-- The sum of 16-bit big-endian words, folded to 16 bits with end-around carry (one's complement). -/
def onesSum : Bytes → Nat
  | a :: b :: t => let s := a.toNat * 256 + b.toNat + onesSum t
                   if s < 65536 then s else s - 65535
  | [a] => a.toNat * 256
  | [] => 0

/-- One's complement sum of two 16-bit numbers. -/
def onesAdd (a b : Nat) : Nat := let s := a + b
                                 if s < 65536 then s else s - 65535

/-- One's complement negation of a 16-bit number. -/
def onesNeg (a : Nat) : Nat := 65535 - a

end Sys2Proof.Machine
end

