-- ==== Sys2Proof/Machine/Crypto.lean ====
section
/-!
DEFINITION. HMAC-SHA256, the function of the published standards that R162 and R256 name (assumption 4): FIPS 180-4 SHA-256
and the HMAC construction over it.
-/
namespace Sys2Proof.Machine

/-- The SHA-256 round constants, first half. -/
def shaK0 : List Word :=
  [ 0x428A2F98#32, 0x71374491#32, 0xB5C0FBCF#32, 0xE9B5DBA5#32, 0x3956C25B#32, 0x59F111F1#32, 0x923F82A4#32, 0xAB1C5ED5#32,
    0xD807AA98#32, 0x12835B01#32, 0x243185BE#32, 0x550C7DC3#32, 0x72BE5D74#32, 0x80DEB1FE#32, 0x9BDC06A7#32, 0xC19BF174#32,
    0xE49B69C1#32, 0xEFBE4786#32, 0x0FC19DC6#32, 0x240CA1CC#32, 0x2DE92C6F#32, 0x4A7484AA#32, 0x5CB0A9DC#32, 0x76F988DA#32,
    0x983E5152#32, 0xA831C66D#32, 0xB00327C8#32, 0xBF597FC7#32, 0xC6E00BF3#32, 0xD5A79147#32, 0x06CA6351#32, 0x14292967#32 ]

/-- The SHA-256 round constants, second half. -/
def shaK1 : List Word :=
  [ 0x27B70A85#32, 0x2E1B2138#32, 0x4D2C6DFC#32, 0x53380D13#32, 0x650A7354#32, 0x766A0ABB#32, 0x81C2C92E#32, 0x92722C85#32,
    0xA2BFE8A1#32, 0xA81A664B#32, 0xC24B8B70#32, 0xC76C51A3#32, 0xD192E819#32, 0xD6990624#32, 0xF40E3585#32, 0x106AA070#32,
    0x19A4C116#32, 0x1E376C08#32, 0x2748774C#32, 0x34B0BCB5#32, 0x391C0CB3#32, 0x4ED8AA4A#32, 0x5B9CCA4F#32, 0x682E6FF3#32,
    0x748F82EE#32, 0x78A5636F#32, 0x84C87814#32, 0x8CC70208#32, 0x90BEFFFA#32, 0xA4506CEB#32, 0xBEF9A3F7#32, 0xC67178F2#32 ]

/-- The eight working variables of SHA-256. -/
structure ShaReg where
  a : Word
  b : Word
  c : Word
  d : Word
  e : Word
  f : Word
  g : Word
  h : Word
  deriving DecidableEq, Repr

/-- The initial hash value. -/
def shaInit : ShaReg :=
  ⟨0x6a09e667, 0xbb67ae85, 0x3c6ef372, 0xa54ff53a, 0x510e527f, 0x9b05688c, 0x1f83d9ab, 0x5be0cd19⟩

/-- One round. -/
def shaRound (r : ShaReg) (k w : Word) : ShaReg :=
  let s1 := r.e.rotateRight 6 ^^^ r.e.rotateRight 11 ^^^ r.e.rotateRight 25
  let ch := (r.e &&& r.f) ^^^ (~~~r.e &&& r.g)
  let t1 := r.h + s1 + ch + k + w
  let s0 := r.a.rotateRight 2 ^^^ r.a.rotateRight 13 ^^^ r.a.rotateRight 22
  let mj := (r.a &&& r.b) ^^^ (r.a &&& r.c) ^^^ (r.b &&& r.c)
  ⟨t1 + (s0 + mj), r.a, r.b, r.c, r.d + t1, r.e, r.f, r.g⟩

/-- The message schedule is kept as its last 16 words, oldest first; this is the next one. -/
def shaNextW (w : List Word) : Word :=
  let x (i : Nat) : Word := w.getD i 0
  let s0 := (x 1).rotateRight 7 ^^^ (x 1).rotateRight 18 ^^^ ((x 1) >>> 3)
  let s1 := (x 14).rotateRight 17 ^^^ (x 14).rotateRight 19 ^^^ ((x 14) >>> 10)
  x 0 + s0 + x 9 + s1

/-- The rounds of one block. -/
def shaRounds : List Word → List Word → ShaReg → ShaReg
  | [], _, r => r
  | k :: ks, w, r => shaRounds ks (w.drop 1 ++ [shaNextW w]) (shaRound r k (w.getD 0 0))

/-- One block of 64 octets. -/
def shaBlock (r : ShaReg) (b : Bytes) : ShaReg :=
  let w := (List.range 16).map (fun i => BitVec.ofNat 32 (beAt b (4 * i) 4))
  let t := shaRounds (shaK0 ++ shaK1) w r
  ⟨r.a + t.a, r.b + t.b, r.c + t.c, r.d + t.d, r.e + t.e, r.f + t.f, r.g + t.g, r.h + t.h⟩

/-- `n` blocks in order. -/
def shaBlocks : Nat → Bytes → ShaReg → ShaReg
  | 0, _, r => r
  | n + 1, b, r => shaBlocks n (b.drop 64) (shaBlock r (b.take 64))

/-- SHA-256 of a string. -/
def sha256 (m : Bytes) : Bytes :=
  let z := (119 - m.length % 64) % 64
  let p := m ++ [0x80] ++ List.replicate z 0 ++ be 8 (8 * m.length)
  let r := shaBlocks (p.length / 64) p shaInit
  be 4 r.a.toNat ++ be 4 r.b.toNat ++ be 4 r.c.toNat ++ be 4 r.d.toNat
    ++ be 4 r.e.toNat ++ be 4 r.f.toNat ++ be 4 r.g.toNat ++ be 4 r.h.toNat

/-- HMAC-SHA256 under a key of at most 64 octets. -/
def hmacSha256 (key m : Bytes) : Bytes :=
  let k := padTo 64 key
  sha256 (k.map (· ^^^ 0x5c) ++ sha256 (k.map (· ^^^ 0x36) ++ m))

end Sys2Proof.Machine
end

