-- ==== Sys2Proof/Config.lean ====
section
/-!
DEFINITION. What the spec leaves open: free values (opaque constants without a body, so that nothing can be proved of what
they are). Each has a log entry.
-/
namespace Sys2Proof.Config

/-- DESIGN CHOICE (assumption 3). Free numbers: what the spec calls random or does not state. Applied to the counter
`State.fresh`, which every use advances. -/
opaque freeNat : Nat → Nat

/-- DESIGN CHOICE (assumption 4). The check bits of a 144-bit code word (R384) follow a code that the spec does not write
out; the syndrome that MEM_ECC_LAST_INFO shows for a word address and kind is free. -/
opaque syndrome : Nat → Nat → Nat

/-- DESIGN CHOICE (assumption 4). What the code makes of a word with four or more wrong bits (R384), by the word and its errors: modulo
4, right, one or two bits corrected, or uncorrectable. -/
opaque beyond : Nat → Nat → Nat

/-- DESIGN CHOICE (assumption 9). Fused delay values of the part (R326, R329, R332, R334), which the spec says exist and does not
give, in 1/16 tap: at an offset of R340 the design value of the constant there (output and CKO constants: the fused offset from
the constant they follow); at 0x10000 + 2 * port + side the loop delay D_loop. -/
opaque fusedCal : Nat → Int

/-- DESIGN CHOICE (assumption 9). The receive constant that the fused ratio of a host side gives its sum (R334): port, mode, sum. -/
opaque hostSplit : Nat → Nat → Int → Int

/-- DESIGN CHOICE (assumption 10). The millisecond of the 42 of REF_ALIGN in which the input of a TIO ball is blind (R329), which the
spec does not give. -/
opaque tioBlind : Nat → Nat

/-- DESIGN CHOICE (assumption 11). The maker's JEDEC identity in IDCODE (R407), which the spec does not give. -/
opaque jedec : BitVec 11

/-- PRESUMED (assumption 52). The Vendor ID of configuration space (R347), which the spec does not give as a number. -/
opaque vendorId : BitVec 16

end Sys2Proof.Config
end

