-- ==== Sys2Proof/Machine/Field.lean ====
section
/-!
DEFINITION. What a register field is (R13 to R18): its place in BAR0, its width, its access code, its reset domain and its
reset value. Types only; the fields themselves are in Fields.lean and the register words in RegMap.lean.
-/
namespace Sys2Proof.Machine

/-- The reset domains of R16. -/
inductive Dom where
  | main | stby | aon | sticky
  deriving DecidableEq, Repr

/-- The access codes of R15. `rwx` is "RW if XEN = 1, else RO" (R18); it names the XEN bit by register address, the stride of
the register set and the bit. -/
inductive Acc where
  | rw | ro | wo | w1c | w1s | rwi
  | rwx (xenAddr xenStride xenLo : Nat)
  deriving DecidableEq, Repr

/-- Where a field's reset value comes from: a number of the spec's table, a fused or strapped value (by its number in
`Fuses.value`), or a value that depends on the instance (R367, R377 for rings; R287, R306 for monitor sources, whose
instances start at the offset given). -/
inductive Rst where
  | val (n : Nat)
  | fuse (id : Nat)
  | ringVec | ringCpsel
  | monResp (off : Nat) | monK (off : Nat) | monW (off : Nat) | monParam (off : Nat)
  deriving DecidableEq, Repr

/-- A field: BAR0 address of its register (instance 0), stride between instances, number of instances, lowest bit, width,
reset domain, access code, reset value, and the limits outside which a value acts as the nearer limit. -/
structure Fld where
  addr : Nat
  stride : Nat
  count : Nat
  lo : Nat
  width : Nat
  dom : Dom
  acc : Acc
  rst : Rst
  lim : Option (Nat × Nat)
  deriving DecidableEq, Repr

/-- A stretch of a register word: bits [src+width-1:src] of field `fld` stand at bits [lo+width-1:lo] of the word. -/
structure Slice where
  fld : Fld
  src : Nat
  lo : Nat
  width : Nat
  deriving DecidableEq, Repr

/-- A register word: address of instance 0, stride, instances, its place among the words of a wide value (word j of k, R14),
and its slices. Bits that no slice covers are reserved (R17). -/
structure Reg where
  addr : Nat
  stride : Nat
  count : Nat
  wide : Option (Nat × Nat)
  slices : List Slice
  deriving DecidableEq, Repr

end Sys2Proof.Machine
end

