-- ==== Sys2Proof/Machine/Fields.lean ====
section
/-!
DEFINITION. Every field of the set-up register map (R413 to R434), one descriptor each. The layout, access code, reset
domain and reset value are those of the rule that the docstring names; a wide value split into _LO, _MID and _HI words
(R14) is one field with the address of its _LO word.
-/
namespace Sys2Proof.Machine.F


/-! ### Block at 0x0 -/

/-- ID_PART.PART (R403). -/
def ID_PART_PART : Fld := ⟨0x0, 0x0, 1, 0, 16, .stby, .ro, .fuse 0, none⟩
/-- ID_REV.REV (R403). -/
def ID_REV_REV : Fld := ⟨0x4, 0x0, 1, 0, 8, .stby, .ro, .fuse 1, none⟩
/-- ID_LOT.LOT (R403). -/
def ID_LOT_LOT : Fld := ⟨0x8, 0x0, 1, 0, 64, .stby, .ro, .fuse 2, none⟩
/-- ID_WAFER.WAFER (R403). -/
def ID_WAFER_WAFER : Fld := ⟨0x10, 0x0, 1, 0, 5, .stby, .ro, .fuse 3, none⟩
/-- ID_DIE.X (R403). -/
def ID_DIE_X : Fld := ⟨0x14, 0x0, 1, 0, 8, .stby, .ro, .fuse 4, none⟩
/-- ID_DIE.Y (R403). -/
def ID_DIE_Y : Fld := ⟨0x14, 0x0, 1, 8, 8, .stby, .ro, .fuse 5, none⟩
/-- ID_SERIAL.SERIAL (R403). -/
def ID_SERIAL_SERIAL : Fld := ⟨0x18, 0x0, 1, 0, 64, .stby, .ro, .fuse 6, none⟩
/-- GLB_PROF.BALLS (R402). -/
def GLB_PROF_BALLS : Fld := ⟨0x40, 0x0, 1, 0, 2, .stby, .ro, .val 0, none⟩
/-- GLB_PROF.STBY_PROF (R402). -/
def GLB_PROF_STBY_PROF : Fld := ⟨0x40, 0x0, 1, 2, 2, .stby, .ro, .val 0, none⟩
/-- GLB_PROF.LOAD_PROF (R402). -/
def GLB_PROF_LOAD_PROF : Fld := ⟨0x40, 0x0, 1, 4, 2, .stby, .ro, .val 0, none⟩
/-- GLB_PROF.NEXT (R402). -/
def GLB_PROF_NEXT : Fld := ⟨0x40, 0x0, 1, 6, 2, .stby, .ro, .val 0, none⟩
/-- GLB_PROF.FB (R402). -/
def GLB_PROF_FB : Fld := ⟨0x40, 0x0, 1, 8, 1, .stby, .ro, .val 0, none⟩
/-- GLB_PROF.NONE (R402). -/
def GLB_PROF_NONE : Fld := ⟨0x40, 0x0, 1, 9, 1, .stby, .ro, .val 0, none⟩
/-- GLB_PROF.LOAD_FB (R402). -/
def GLB_PROF_LOAD_FB : Fld := ⟨0x40, 0x0, 1, 10, 1, .stby, .ro, .val 0, none⟩
/-- GLB_PROF.LOAD_ERR (R402). -/
def GLB_PROF_LOAD_ERR : Fld := ⟨0x40, 0x0, 1, 11, 1, .stby, .ro, .val 0, none⟩
/-- GLB_SNVM_KEY.KEY (R402). -/
def GLB_SNVM_KEY_KEY : Fld := ⟨0x80, 0x0, 1, 0, 16, .main, .wo, .val 0, none⟩
/-- GLB_SNVM_ADDR.ADDR (R402). -/
def GLB_SNVM_ADDR_ADDR : Fld := ⟨0x84, 0x0, 1, 0, 10, .main, .rw, .val 0, none⟩
/-- GLB_SNVM_DATA.DATA (R402). -/
def GLB_SNVM_DATA_DATA : Fld := ⟨0x88, 0x4, 4, 0, 32, .main, .rw, .val 0, none⟩
/-- GLB_SNVM_CMD.PROG (R402). -/
def GLB_SNVM_CMD_PROG : Fld := ⟨0x98, 0x0, 1, 0, 1, .main, .w1s, .val 0, none⟩
/-- GLB_SNVM_CMD.READ (R402). -/
def GLB_SNVM_CMD_READ : Fld := ⟨0x98, 0x0, 1, 1, 1, .main, .w1s, .val 0, none⟩
/-- GLB_SNVM_CMD.BUSY (R402). -/
def GLB_SNVM_CMD_BUSY : Fld := ⟨0x98, 0x0, 1, 8, 1, .main, .ro, .val 0, none⟩
/-- GLB_SNVM_CMD.FAIL (R402). -/
def GLB_SNVM_CMD_FAIL : Fld := ⟨0x98, 0x0, 1, 9, 1, .main, .w1c, .val 0, none⟩
/-- GLB_SNVM_CMD.UNLOCKED (R402). -/
def GLB_SNVM_CMD_UNLOCKED : Fld := ⟨0x98, 0x0, 1, 10, 1, .main, .ro, .val 0, none⟩

/-! ### Block at 0x10000 -/

/-- HIF_CTRL.XEN (R376). -/
def HIF_CTRL_XEN : Fld := ⟨0x10000, 0x0, 1, 0, 1, .main, .rw, .val 0, none⟩
/-- HIF_CTRL.SUM_IRQ (R376). -/
def HIF_CTRL_SUM_IRQ : Fld := ⟨0x10000, 0x0, 1, 1, 1, .main, .rw, .val 0, none⟩
/-- HIF_CTRL.EVT_IRQ (R376). -/
def HIF_CTRL_EVT_IRQ : Fld := ⟨0x10000, 0x0, 1, 2, 1, .main, .rw, .val 1, none⟩
/-- HIF_XCTRL.INFLIGHT_MAX (R376). -/
def HIF_XCTRL_INFLIGHT_MAX : Fld := ⟨0x10004, 0x0, 1, 0, 10, .main, (.rwx 0x10000 0x0 0), .val 512, (some (1, 512))⟩
/-- HIF_XCTRL.FETCH_BURST (R376). -/
def HIF_XCTRL_FETCH_BURST : Fld := ⟨0x10004, 0x0, 1, 16, 4, .main, (.rwx 0x10000 0x0 0), .val 4, (some (1, 8))⟩
/-- HIF_STATUS.INFLIGHT (R376). -/
def HIF_STATUS_INFLIGHT : Fld := ⟨0x10008, 0x0, 1, 0, 10, .main, .ro, .val 0, none⟩
/-- HIF_STATUS.READY (R376). -/
def HIF_STATUS_READY : Fld := ⟨0x10008, 0x0, 1, 10, 1, .main, .ro, .val 0, none⟩
/-- HIF_STATUS.LINK_UP (R376). -/
def HIF_STATUS_LINK_UP : Fld := ⟨0x10008, 0x0, 1, 11, 1, .main, .ro, .val 0, none⟩
/-- HIF_STATUS.SPEED (R376). -/
def HIF_STATUS_SPEED : Fld := ⟨0x10008, 0x0, 1, 12, 3, .main, .ro, .val 0, none⟩
/-- HIF_STATUS.WIDTH (R376). -/
def HIF_STATUS_WIDTH : Fld := ⟨0x10008, 0x0, 1, 15, 3, .main, .ro, .val 0, none⟩
/-- HIF_EVT.DB_BAD (R376). -/
def HIF_EVT_DB_BAD : Fld := ⟨0x1000c, 0x0, 1, 0, 1, .main, .w1c, .val 0, none⟩
/-- HIF_EVT.DMA_ERR (R376). -/
def HIF_EVT_DMA_ERR : Fld := ⟨0x1000c, 0x0, 1, 1, 1, .main, .w1c, .val 0, none⟩
/-- HIF_EVT.WR_IGN (R376). -/
def HIF_EVT_WR_IGN : Fld := ⟨0x1000c, 0x0, 1, 2, 1, .main, .w1c, .val 0, none⟩
/-- HIF_EVT.HIF_RESET (R376). -/
def HIF_EVT_HIF_RESET : Fld := ⟨0x1000c, 0x0, 1, 3, 1, .main, .w1c, .val 0, none⟩
/-- HIF_EVT.DROP (R376). -/
def HIF_EVT_DROP : Fld := ⟨0x1000c, 0x0, 1, 4, 1, .main, .w1c, .val 0, none⟩
/-- HIF_CNT_DISC.DISC (R376). -/
def HIF_CNT_DISC_DISC : Fld := ⟨0x10010, 0x0, 1, 0, 32, .main, .ro, .val 0, none⟩
/-- HIF_CNT_LOSTCOMP.LOSTCOMP (R376). -/
def HIF_CNT_LOSTCOMP_LOSTCOMP : Fld := ⟨0x10014, 0x0, 1, 0, 32, .main, .ro, .val 0, none⟩
/-- HIF_CNT_WIGN.WIGN (R376). -/
def HIF_CNT_WIGN_WIGN : Fld := ⟨0x10018, 0x0, 1, 0, 32, .main, .ro, .val 0, none⟩
/-- HIF_CNT_DBBAD.DBBAD (R376). -/
def HIF_CNT_DBBAD_DBBAD : Fld := ⟨0x1001c, 0x0, 1, 0, 32, .main, .ro, .val 0, none⟩
/-- HIF_EVMAP.TB (R376). -/
def HIF_EVMAP_TB : Fld := ⟨0x10020, 0x0, 1, 0, 2, .main, .rw, .val 0, none⟩
/-- HIF_EVMAP.SRV (R376). -/
def HIF_EVMAP_SRV : Fld := ⟨0x10020, 0x0, 1, 2, 2, .main, .rw, .val 0, none⟩
/-- HIF_EVMAP.SPX (R376). -/
def HIF_EVMAP_SPX : Fld := ⟨0x10020, 0x0, 1, 4, 2, .main, .rw, .val 0, none⟩
/-- HIF_EVMAP.STR (R376). -/
def HIF_EVMAP_STR : Fld := ⟨0x10020, 0x0, 1, 6, 2, .main, .rw, .val 0, none⟩
/-- HIF_EVMAP.CK (R376). -/
def HIF_EVMAP_CK : Fld := ⟨0x10020, 0x0, 1, 8, 2, .main, .rw, .val 0, none⟩
/-- HIF_EVMAP.AT (R376). -/
def HIF_EVMAP_AT : Fld := ⟨0x10020, 0x0, 1, 10, 2, .main, .rw, .val 0, none⟩
/-- HIF_EVMAP.SQ (R376). -/
def HIF_EVMAP_SQ : Fld := ⟨0x10020, 0x0, 1, 12, 2, .main, .rw, .val 0, none⟩
/-- HIF_SB_CTRL.PEC_REQ (R376). -/
def HIF_SB_CTRL_PEC_REQ : Fld := ⟨0x10800, 0x0, 1, 0, 1, .stby, .rw, .val 1, none⟩
/-- HIF_SB_CTRL.AMASK (R376). -/
def HIF_SB_CTRL_AMASK : Fld := ⟨0x10800, 0x0, 1, 8, 6, .stby, .rw, .val 63, none⟩
/-- HIF_SB_STAT.LAST (R376). -/
def HIF_SB_STAT_LAST : Fld := ⟨0x10804, 0x0, 1, 0, 16, .stby, .ro, .val 0, none⟩
/-- HIF_SB_STAT.CMD_BUSY (R376). -/
def HIF_SB_STAT_CMD_BUSY : Fld := ⟨0x10804, 0x0, 1, 16, 1, .stby, .ro, .val 0, none⟩
/-- HIF_SB_ALERT.ALERT (R376). -/
def HIF_SB_ALERT_ALERT : Fld := ⟨0x10808, 0x0, 1, 0, 6, .stby, .w1c, .val 0, none⟩
/-- HIF_SB_CMD.CMD (R376). -/
def HIF_SB_CMD_CMD : Fld := ⟨0x10810, 0x0, 1, 0, 128, .stby, .ro, .val 0, none⟩
/-- HIF_RING_BASE.BASE (R377). -/
def HIF_RING_BASE_BASE : Fld := ⟨0x11000, 0x20, 132, 0, 64, .main, .rwi, .val 0, none⟩
/-- HIF_RING_CFG.EN (R377). -/
def HIF_RING_CFG_EN : Fld := ⟨0x11008, 0x20, 132, 0, 1, .main, .rw, .val 0, none⟩
/-- HIF_RING_CFG.PRIO (R377). -/
def HIF_RING_CFG_PRIO : Fld := ⟨0x11008, 0x20, 132, 1, 1, .main, .rwi, .val 0, none⟩
/-- HIF_RING_CFG.LOG2 (R377). -/
def HIF_RING_CFG_LOG2 : Fld := ⟨0x11008, 0x20, 132, 2, 4, .main, .rwi, .val 8, (some (4, 12))⟩
/-- HIF_RING_CFG.VEC (R377). -/
def HIF_RING_CFG_VEC : Fld := ⟨0x11008, 0x20, 132, 6, 7, .main, .rwi, .ringVec, none⟩
/-- HIF_RING_CFG.CPSEL (R377). -/
def HIF_RING_CFG_CPSEL : Fld := ⟨0x11008, 0x20, 132, 13, 5, .main, .rwi, .ringCpsel, none⟩
/-- HIF_RING_CFG.MOD_CNT (R377). -/
def HIF_RING_CFG_MOD_CNT : Fld := ⟨0x11008, 0x20, 132, 18, 8, .main, .rwi, .val 0, none⟩
/-- HIF_RING_PTR.DEVPTR (R377). -/
def HIF_RING_PTR_DEVPTR : Fld := ⟨0x1100c, 0x20, 132, 0, 12, .main, .ro, .val 0, none⟩
/-- HIF_RING_PTR.PHASE (R377). -/
def HIF_RING_PTR_PHASE : Fld := ⟨0x1100c, 0x20, 132, 12, 1, .main, .ro, .val 1, none⟩
/-- HIF_RING_PTR.MOD_US (R377). -/
def HIF_RING_PTR_MOD_US : Fld := ⟨0x1100c, 0x20, 132, 16, 8, .main, .rwi, .val 0, none⟩
/-- HIF_RING_BUF.BUF (R377). -/
def HIF_RING_BUF_BUF : Fld := ⟨0x11010, 0x20, 132, 0, 64, .main, .rwi, .val 0, none⟩
/-- HIF_RING_BLOG2.BLOG2 (R377). -/
def HIF_RING_BLOG2_BLOG2 : Fld := ⟨0x11018, 0x20, 132, 0, 2, .main, .rwi, .val 0, none⟩
/-- HIF_RING_STAT.DROP (R377). -/
def HIF_RING_STAT_DROP : Fld := ⟨0x1101c, 0x20, 132, 0, 32, .main, .ro, .val 0, none⟩
/-- MSIX_ADDR_LO.A (R347). -/
def MSIX_ADDR_LO_A : Fld := ⟨0x18000, 0x10, 128, 0, 32, .main, .rw, .val 0, none⟩
/-- MSIX_ADDR_HI.A (R347). -/
def MSIX_ADDR_HI_A : Fld := ⟨0x18004, 0x10, 128, 0, 32, .main, .rw, .val 0, none⟩
/-- MSIX_DATA.D (R347). -/
def MSIX_DATA_D : Fld := ⟨0x18008, 0x10, 128, 0, 32, .main, .rw, .val 0, none⟩
/-- MSIX_CTRL.MASK (R347). -/
def MSIX_CTRL_MASK : Fld := ⟨0x1800c, 0x10, 128, 0, 1, .main, .rw, .val 1, none⟩
/-- MSIX_PBA.PEND (R347). -/
def MSIX_PBA_PEND : Fld := ⟨0x19000, 0x4, 4, 0, 32, .main, .ro, .val 0, none⟩

/-! ### Block at 0x20000 -/

/-- MEM_CTRL.XEN (R393). -/
def MEM_CTRL_XEN : Fld := ⟨0x20000, 0x0, 1, 0, 1, .main, .rw, .val 0, none⟩
/-- MEM_CTRL.MT_EN (R393). -/
def MEM_CTRL_MT_EN : Fld := ⟨0x20000, 0x0, 1, 1, 1, .main, .rw, .val 1, none⟩
/-- MEM_CTRL.SCRUB_EN (R393). -/
def MEM_CTRL_SCRUB_EN : Fld := ⟨0x20000, 0x0, 1, 2, 1, .main, .rw, .val 1, none⟩
/-- MEM_CTRL.RET_EN (R393). -/
def MEM_CTRL_RET_EN : Fld := ⟨0x20000, 0x0, 1, 3, 1, .main, .rw, .val 0, none⟩
/-- MEM_CTRL.MT_REPAIR (R393). -/
def MEM_CTRL_MT_REPAIR : Fld := ⟨0x20000, 0x0, 1, 4, 1, .main, .rw, .val 1, none⟩
/-- MEM_XCTRL.MT_GAP (R393). -/
def MEM_XCTRL_MT_GAP : Fld := ⟨0x20004, 0x0, 1, 0, 16, .main, (.rwx 0x20000 0x0 0), .val 10000, none⟩
/-- MEM_XCTRL.SCRUB_PERIOD (R393). -/
def MEM_XCTRL_SCRUB_PERIOD : Fld := ⟨0x20004, 0x0, 1, 16, 8, .main, (.rwx 0x20000 0x0 0), .val 24, (some (1, 255))⟩
/-- MEM_STATUS.MT_STATE (R393). -/
def MEM_STATUS_MT_STATE : Fld := ⟨0x20008, 0x0, 1, 0, 3, .main, .ro, .val 0, none⟩
/-- MEM_STATUS.MT_PAUSED (R393). -/
def MEM_STATUS_MT_PAUSED : Fld := ⟨0x20008, 0x0, 1, 3, 1, .main, .ro, .val 0, none⟩
/-- MEM_STATUS.RET (R393). -/
def MEM_STATUS_RET : Fld := ⟨0x20008, 0x0, 1, 8, 8, .main, .ro, .val 0, none⟩
/-- MEM_STATUS.WAKING (R393). -/
def MEM_STATUS_WAKING : Fld := ⟨0x20008, 0x0, 1, 16, 8, .main, .ro, .val 0, none⟩
/-- MEM_EVT.UE (R393). -/
def MEM_EVT_UE : Fld := ⟨0x2000c, 0x0, 1, 0, 1, .main, .w1c, .val 0, none⟩
/-- MEM_EVT.CE2 (R393). -/
def MEM_EVT_CE2 : Fld := ⟨0x2000c, 0x0, 1, 1, 1, .main, .w1c, .val 0, none⟩
/-- MEM_EVT.MT_FAIL (R393). -/
def MEM_EVT_MT_FAIL : Fld := ⟨0x2000c, 0x0, 1, 2, 1, .main, .w1c, .val 0, none⟩
/-- MEM_EVT.MT_UNREP (R393). -/
def MEM_EVT_MT_UNREP : Fld := ⟨0x2000c, 0x0, 1, 3, 1, .main, .w1c, .val 0, none⟩
/-- MEM_EVT.COLL (R393). -/
def MEM_EVT_COLL : Fld := ⟨0x2000c, 0x0, 1, 4, 1, .main, .w1c, .val 0, none⟩
/-- MEM_MT_WIN.IDX (R393). -/
def MEM_MT_WIN_IDX : Fld := ⟨0x20010, 0x0, 1, 0, 12, .main, .ro, .val 0, none⟩
/-- MEM_MT_WIN.PASS (R393). -/
def MEM_MT_WIN_PASS : Fld := ⟨0x20010, 0x0, 1, 16, 16, .main, .ro, .val 0, none⟩
/-- MEM_MT_FAIL.ADDR (R393). -/
def MEM_MT_FAIL_ADDR : Fld := ⟨0x20014, 0x0, 1, 0, 20, .main, .ro, .val 0, none⟩
/-- MEM_MT_FAIL.SPARES (R393). -/
def MEM_MT_FAIL_SPARES : Fld := ⟨0x20014, 0x0, 1, 20, 4, .main, .ro, .val 8, none⟩
/-- MEM_ECC_CE.CE (R393). -/
def MEM_ECC_CE_CE : Fld := ⟨0x20040, 0x8, 4, 0, 32, .main, .ro, .val 0, none⟩
/-- MEM_ECC_UE.UE (R393). -/
def MEM_ECC_UE_UE : Fld := ⟨0x20044, 0x8, 4, 0, 32, .main, .ro, .val 0, none⟩
/-- MEM_ECC_CE4.CE (R393). -/
def MEM_ECC_CE4_CE : Fld := ⟨0x20060, 0x0, 1, 0, 32, .stby, .ro, .val 0, none⟩
/-- MEM_ECC_UE4.UE (R393). -/
def MEM_ECC_UE4_UE : Fld := ⟨0x20064, 0x0, 1, 0, 32, .stby, .ro, .val 0, none⟩
/-- MEM_ECC_LAST_ADDR.ADDR (R393). -/
def MEM_ECC_LAST_ADDR_ADDR : Fld := ⟨0x20068, 0x0, 1, 0, 32, .main, .ro, .val 0, none⟩
/-- MEM_ECC_LAST_INFO.SYND (R393). -/
def MEM_ECC_LAST_INFO_SYND : Fld := ⟨0x2006c, 0x0, 1, 0, 16, .main, .ro, .val 0, none⟩
/-- MEM_ECC_LAST_INFO.KIND (R393). -/
def MEM_ECC_LAST_INFO_KIND : Fld := ⟨0x2006c, 0x0, 1, 16, 3, .main, .ro, .val 0, none⟩
/-- MEM_CONF.CONF (R393). -/
def MEM_CONF_CONF : Fld := ⟨0x20080, 0x4, 8, 0, 32, .main, .ro, .val 0, none⟩
/-- MEM_COLL.COUNT (R393). -/
def MEM_COLL_COUNT : Fld := ⟨0x200a0, 0x0, 1, 0, 16, .main, .ro, .val 0, none⟩
/-- MEM_COLL.ADDR (R393). -/
def MEM_COLL_ADDR : Fld := ⟨0x200a0, 0x0, 1, 16, 12, .main, .ro, .val 0, none⟩
/-- MEM_RET_CFG.RET_IDLE (R393). -/
def MEM_RET_CFG_RET_IDLE : Fld := ⟨0x200b0, 0x0, 1, 0, 10, .main, (.rwx 0x20000 0x0 0), .val 1, (some (1, 1023))⟩
/-- MEM_RET_CFG.WAKE_LOW (R393). -/
def MEM_RET_CFG_WAKE_LOW : Fld := ⟨0x200b0, 0x0, 1, 16, 15, .main, (.rwx 0x20000 0x0 0), .val 8192, (some (1024, 16384))⟩
/-- MEM_CNT_CLR.CLR (R393). -/
def MEM_CNT_CLR_CLR : Fld := ⟨0x200fc, 0x0, 1, 0, 1, .main, .wo, .val 0, none⟩
/-- MEM_POOL_FREE.FREE (R101). -/
def MEM_POOL_FREE_FREE : Fld := ⟨0x20200, 0x0, 1, 0, 16, .main, .ro, .fuse 12, none⟩
/-- MEM_POOL_FREE.MIN_FREE (R101). -/
def MEM_POOL_FREE_MIN_FREE : Fld := ⟨0x20200, 0x0, 1, 16, 16, .main, .ro, .fuse 12, none⟩
/-- MEM_POOL_RESV.RESV_SUM (R101). -/
def MEM_POOL_RESV_RESV_SUM : Fld := ⟨0x20204, 0x0, 1, 0, 16, .main, .ro, .fuse 13, none⟩
/-- MEM_POOL_CLR.CLR_MIN (R101). -/
def MEM_POOL_CLR_CLR_MIN : Fld := ⟨0x20208, 0x0, 1, 0, 1, .main, .wo, .val 0, none⟩

/-! ### Block at 0x30000 -/

/-- TB_CTRL.XEN (R69). -/
def TB_CTRL_XEN : Fld := ⟨0x30000, 0x0, 1, 0, 1, .main, .rw, .val 0, none⟩
/-- TB_CTRL.MONO (R69). -/
def TB_CTRL_MONO : Fld := ⟨0x30000, 0x0, 1, 1, 1, .main, .rw, .val 1, none⟩
/-- TB_CTRL.REVISE (R69). -/
def TB_CTRL_REVISE : Fld := ⟨0x30000, 0x0, 1, 2, 1, .main, .rw, .val 1, none⟩
/-- TB_CTRL.HIST_SPAN (R69). -/
def TB_CTRL_HIST_SPAN : Fld := ⟨0x30000, 0x0, 1, 4, 4, .main, .rw, .val 4, (some (0, 6))⟩
/-- TB_JUMP_THR.JUMP_THR (R69). -/
def TB_JUMP_THR_JUMP_THR : Fld := ⟨0x30004, 0x0, 1, 0, 32, .main, .rw, .val 1000, (some (10, 4294967295))⟩
/-- TB_SLEW.SLEW_MAX (R69). -/
def TB_SLEW_SLEW_MAX : Fld := ⟨0x30008, 0x0, 1, 0, 11, .main, .rw, .val 50, (some (1, 1000))⟩
/-- TB_PUB.PUB_LOCKED (R69). -/
def TB_PUB_PUB_LOCKED : Fld := ⟨0x3000c, 0x0, 1, 0, 11, .main, (.rwx 0x30000 0x0 0), .val 16, (some (1, 64))⟩
/-- TB_PUB.PUB_ACQ (R69). -/
def TB_PUB_PUB_ACQ : Fld := ⟨0x3000c, 0x0, 1, 16, 11, .main, (.rwx 0x30000 0x0 0), .val 125, (some (16, 2000))⟩
/-- TB_LOCK.LOCK_THR (R69). -/
def TB_LOCK_LOCK_THR : Fld := ⟨0x30010, 0x0, 1, 0, 16, .main, (.rwx 0x30000 0x0 0), .val 1000, (some (10, 65535))⟩
/-- TB_LOCK.LOCK_N (R69). -/
def TB_LOCK_LOCK_N : Fld := ⟨0x30010, 0x0, 1, 16, 8, .main, (.rwx 0x30000 0x0 0), .val 8, (some (1, 255))⟩
/-- TB_LOSS.LOSS_TO (R69). -/
def TB_LOSS_LOSS_TO : Fld := ⟨0x30014, 0x0, 1, 0, 10, .main, .rw, .val 8, (some (1, 1000))⟩
/-- TB_STATUS.STATE (R69). -/
def TB_STATUS_STATE : Fld := ⟨0x30020, 0x0, 1, 0, 3, .main, .ro, .val 0, none⟩
/-- TB_STATUS.UNTRACED (R69). -/
def TB_STATUS_UNTRACED : Fld := ⟨0x30020, 0x0, 1, 3, 1, .main, .ro, .val 0, none⟩
/-- TB_STATUS.STEP_PEND (R69). -/
def TB_STATUS_STEP_PEND : Fld := ⟨0x30020, 0x0, 1, 4, 1, .main, .ro, .val 0, none⟩
/-- TB_STATUS.SLEWING (R69). -/
def TB_STATUS_SLEWING : Fld := ⟨0x30020, 0x0, 1, 5, 1, .main, .ro, .val 0, none⟩
/-- TB_STATUS.SYN_UNLOCK (R69). -/
def TB_STATUS_SYN_UNLOCK : Fld := ⟨0x30020, 0x0, 1, 6, 1, .main, .ro, .val 0, none⟩
/-- TB_STATUS.REVISING (R69). -/
def TB_STATUS_REVISING : Fld := ⟨0x30020, 0x0, 1, 7, 1, .main, .ro, .val 0, none⟩
/-- TB_EVT.STEP_REFUSED (R69). -/
def TB_EVT_STEP_REFUSED : Fld := ⟨0x30024, 0x0, 1, 0, 1, .main, .w1c, .val 0, none⟩
/-- TB_EVT.STEP_APPLIED (R69). -/
def TB_EVT_STEP_APPLIED : Fld := ⟨0x30024, 0x0, 1, 1, 1, .main, .w1c, .val 0, none⟩
/-- TB_EVT.STEP_WITHDRAWN (R69). -/
def TB_EVT_STEP_WITHDRAWN : Fld := ⟨0x30024, 0x0, 1, 2, 1, .main, .w1c, .val 0, none⟩
/-- TB_EVT.BACK_SLEW (R69). -/
def TB_EVT_BACK_SLEW : Fld := ⟨0x30024, 0x0, 1, 3, 1, .main, .w1c, .val 0, none⟩
/-- TB_EVT.REVISED (R69). -/
def TB_EVT_REVISED : Fld := ⟨0x30024, 0x0, 1, 4, 1, .main, .w1c, .val 0, none⟩
/-- TB_EVT.HIST_WRAP (R69). -/
def TB_EVT_HIST_WRAP : Fld := ⟨0x30024, 0x0, 1, 5, 1, .main, .w1c, .val 0, none⟩
/-- TB_EVT.CONV_EXPIRED (R69). -/
def TB_EVT_CONV_EXPIRED : Fld := ⟨0x30024, 0x0, 1, 6, 1, .main, .w1c, .val 0, none⟩
/-- TB_EVT.LOCK_LOST (R69). -/
def TB_EVT_LOCK_LOST : Fld := ⟨0x30024, 0x0, 1, 7, 1, .main, .w1c, .val 0, none⟩
/-- TB_GEN.GEN (R69). -/
def TB_GEN_GEN : Fld := ⟨0x30028, 0x0, 1, 0, 16, .main, .ro, .val 0, none⟩
/-- TB_GEN.EPOCH_IDX (R69). -/
def TB_GEN_EPOCH_IDX : Fld := ⟨0x30028, 0x0, 1, 16, 16, .main, .ro, .val 0, none⟩
/-- TB_PEND_OFS.PEND_OFS (R69). -/
def TB_PEND_OFS_PEND_OFS : Fld := ⟨0x30030, 0x0, 1, 0, 64, .main, .ro, .val 0, none⟩
/-- TB_PEND_ID.PEND_ID (R69). -/
def TB_PEND_ID_PEND_ID : Fld := ⟨0x30038, 0x0, 1, 0, 16, .main, .ro, .val 0, none⟩
/-- TB_RATE.RATE (R69). -/
def TB_RATE_RATE : Fld := ⟨0x30040, 0x0, 1, 0, 40, .main, .ro, .val 0, none⟩
/-- TB_RAWSNAP.RAW (R69). -/
def TB_RAWSNAP_RAW : Fld := ⟨0x30050, 0x0, 1, 0, 73, .main, .ro, .val 0, none⟩

/-! ### Block at 0x40000 -/

/-- CK_CTRL.XEN (R197). -/
def CK_CTRL_XEN : Fld := ⟨0x40000, 0x0, 1, 0, 1, .main, .rw, .val 0, none⟩
/-- CK_CTRL.REFSEL (R197). -/
def CK_CTRL_REFSEL : Fld := ⟨0x40000, 0x0, 1, 1, 2, .main, .ro, .fuse 7, none⟩
/-- CK_CTRL.RELOCK_EN (R197). -/
def CK_CTRL_RELOCK_EN : Fld := ⟨0x40000, 0x0, 1, 3, 1, .main, .rw, .val 1, none⟩
/-- CK_FSRC.EN (R197). -/
def CK_FSRC_EN : Fld := ⟨0x40010, 0x4, 4, 0, 1, .main, .rw, .val 0, none⟩
/-- CK_FSRC.TYPE (R197). -/
def CK_FSRC_TYPE : Fld := ⟨0x40010, 0x4, 4, 1, 1, .main, .rw, .val 0, none⟩
/-- CK_FSRC.PORT (R197). -/
def CK_FSRC_PORT : Fld := ⟨0x40010, 0x4, 4, 2, 5, .main, .rw, .val 0, none⟩
/-- CK_FSRC.PRIO (R197). -/
def CK_FSRC_PRIO : Fld := ⟨0x40010, 0x4, 4, 7, 4, .main, .rw, .val 15, none⟩
/-- CK_FSEL.WTR (R197). -/
def CK_FSEL_WTR : Fld := ⟨0x40020, 0x0, 1, 0, 8, .main, .rw, .val 10, none⟩
/-- CK_FSEL.QUAL_T (R197). -/
def CK_FSEL_QUAL_T : Fld := ⟨0x40020, 0x0, 1, 8, 8, .main, .rw, .val 10, none⟩
/-- CK_FSEL.PULL (R197). -/
def CK_FSEL_PULL : Fld := ⟨0x40020, 0x0, 1, 16, 8, .main, .rw, .val 12, (some (1, 100))⟩
/-- CK_FSEL.REVERT (R197). -/
def CK_FSEL_REVERT : Fld := ⟨0x40020, 0x0, 1, 24, 1, .main, .rw, .val 1, none⟩
/-- CK_DPLL.BW (R197). -/
def CK_DPLL_BW : Fld := ⟨0x40024, 0x0, 1, 0, 2, .main, (.rwx 0x40000 0x0 0), .val 1, (some (0, 2))⟩
/-- CK_DPLL.SLEW (R197). -/
def CK_DPLL_SLEW : Fld := ⟨0x40024, 0x0, 1, 4, 12, .main, (.rwx 0x40000 0x0 0), .val 2000, (some (1, 2000))⟩
/-- CK_LOCK.WIN (R197). -/
def CK_LOCK_WIN : Fld := ⟨0x40028, 0x0, 1, 0, 16, .main, .rw, .val 40, (some (10, 1000))⟩
/-- CK_LOCK.N (R197). -/
def CK_LOCK_N : Fld := ⟨0x40028, 0x0, 1, 16, 16, .main, .rw, .val 1024, (some (16, 65535))⟩
/-- CK_RELOCK.RELOCK_T (R197). -/
def CK_RELOCK_RELOCK_T : Fld := ⟨0x4002c, 0x0, 1, 0, 16, .main, .rw, .val 100, (some (1, 65535))⟩
/-- CK_STATUS.SYN_LOCK (R197). -/
def CK_STATUS_SYN_LOCK : Fld := ⟨0x40040, 0x0, 1, 0, 1, .main, .ro, .val 0, none⟩
/-- CK_STATUS.SYN_UNLOCK (R197). -/
def CK_STATUS_SYN_UNLOCK : Fld := ⟨0x40040, 0x0, 1, 1, 1, .main, .ro, .val 0, none⟩
/-- CK_STATUS.REF_LOSS (R197). -/
def CK_STATUS_REF_LOSS : Fld := ⟨0x40040, 0x0, 1, 2, 1, .main, .ro, .val 0, none⟩
/-- CK_STATUS.DPLL (R197). -/
def CK_STATUS_DPLL : Fld := ⟨0x40040, 0x0, 1, 3, 2, .main, .ro, .val 0, none⟩
/-- CK_STATUS.FSEL (R197). -/
def CK_STATUS_FSEL : Fld := ⟨0x40040, 0x0, 1, 5, 2, .main, .ro, .val 0, none⟩
/-- CK_STATUS.FSEL_VALID (R197). -/
def CK_STATUS_FSEL_VALID : Fld := ⟨0x40040, 0x0, 1, 7, 1, .main, .ro, .val 0, none⟩
/-- CK_STATUS.HALT (R197). -/
def CK_STATUS_HALT : Fld := ⟨0x40040, 0x0, 1, 8, 1, .main, .ro, .val 0, none⟩
/-- CK_STATUS.CHK_REF (R197). -/
def CK_STATUS_CHK_REF : Fld := ⟨0x40040, 0x0, 1, 9, 1, .main, .ro, .val 0, none⟩
/-- CK_STATUS.RELOCKING (R197). -/
def CK_STATUS_RELOCKING : Fld := ⟨0x40040, 0x0, 1, 10, 1, .main, .ro, .val 0, none⟩
/-- CK_EVT.SYN_UNLOCK (R197). -/
def CK_EVT_SYN_UNLOCK : Fld := ⟨0x40044, 0x0, 1, 0, 1, .main, .w1c, .val 0, none⟩
/-- CK_EVT.SYN_RELOCK (R197). -/
def CK_EVT_SYN_RELOCK : Fld := ⟨0x40044, 0x0, 1, 1, 1, .main, .w1c, .val 0, none⟩
/-- CK_EVT.REF_LOSS (R197). -/
def CK_EVT_REF_LOSS : Fld := ⟨0x40044, 0x0, 1, 2, 1, .main, .w1c, .val 0, none⟩
/-- CK_EVT.FSRC_CHANGE (R197). -/
def CK_EVT_FSRC_CHANGE : Fld := ⟨0x40044, 0x0, 1, 3, 1, .main, .w1c, .val 0, none⟩
/-- CK_EVT.DPLL_HOLDOVER (R197). -/
def CK_EVT_DPLL_HOLDOVER : Fld := ⟨0x40044, 0x0, 1, 4, 1, .main, .w1c, .val 0, none⟩
/-- CK_EVT.HALT (R197). -/
def CK_EVT_HALT : Fld := ⟨0x40044, 0x0, 1, 5, 1, .main, .w1c, .val 0, none⟩
/-- CK_EVT.HALT_RELEASE (R197). -/
def CK_EVT_HALT_RELEASE : Fld := ⟨0x40044, 0x0, 1, 6, 1, .main, .w1c, .val 0, none⟩
/-- CK_EVT.DLL_UNLOCK (R197). -/
def CK_EVT_DLL_UNLOCK : Fld := ⟨0x40044, 0x0, 1, 7, 1, .main, .w1c, .val 0, none⟩
/-- CK_EVT.GUARD (R197). -/
def CK_EVT_GUARD : Fld := ⟨0x40044, 0x0, 1, 8, 1, .main, .w1c, .val 0, none⟩
/-- CK_EVT.CLAIM_REFUSED (R197). -/
def CK_EVT_CLAIM_REFUSED : Fld := ⟨0x40044, 0x0, 1, 9, 1, .main, .w1c, .val 0, none⟩
/-- CK_SYN_ADJ.ADJ (R197). -/
def CK_SYN_ADJ_ADJ : Fld := ⟨0x40048, 0x0, 1, 0, 40, .main, .ro, .val 0, none⟩
/-- CK_FERR.FERR (R197). -/
def CK_FERR_FERR : Fld := ⟨0x40050, 0x0, 1, 0, 32, .main, .ro, .val 0, none⟩
/-- CK_PHERR_CNT.PHERR (R197). -/
def CK_PHERR_CNT_PHERR : Fld := ⟨0x40054, 0x0, 1, 0, 32, .main, .ro, .val 0, none⟩
/-- CK_GUARD_CNT.GUARD (R197). -/
def CK_GUARD_CNT_GUARD : Fld := ⟨0x40058, 0x0, 1, 0, 32, .main, .ro, .val 0, none⟩
/-- CK_DLL_UNL_CNT.DLL_UNL (R197). -/
def CK_DLL_UNL_CNT_DLL_UNL : Fld := ⟨0x4005c, 0x0, 1, 0, 32, .main, .ro, .val 0, none⟩
/-- CK_DLL_LOCK.LOCK (R197). -/
def CK_DLL_LOCK_LOCK : Fld := ⟨0x40060, 0x0, 1, 0, 88, .main, .ro, .val 0, none⟩
/-- CK_CNT_CLR.CLR (R197). -/
def CK_CNT_CLR_CLR : Fld := ⟨0x4007c, 0x0, 1, 0, 1, .main, .wo, .val 0, none⟩
/-- CK_CKO_CTRL.EN (R198). -/
def CK_CKO_CTRL_EN : Fld := ⟨0x40100, 0x20, 8, 0, 1, .main, .rw, .val 0, none⟩
/-- CK_CKO_CTRL.SRC (R198). -/
def CK_CKO_CTRL_SRC : Fld := ⟨0x40100, 0x20, 8, 1, 1, .main, .rw, .val 0, none⟩
/-- CK_CKO_PER.PER (R198). -/
def CK_CKO_PER_PER : Fld := ⟨0x40104, 0x20, 8, 0, 48, .main, .rw, .val 6553600, (some (167773, 281474976710655))⟩
/-- CK_CKO_PH.PHASE (R198). -/
def CK_CKO_PH_PHASE : Fld := ⟨0x4010c, 0x20, 8, 0, 48, .main, .rw, .val 0, none⟩
/-- CK_CKO_STAT.OWNER (R198). -/
def CK_CKO_STAT_OWNER : Fld := ⟨0x40114, 0x20, 8, 0, 8, .main, .ro, .val 0, none⟩
/-- CK_CKO_STAT.CLAIM_REF (R198). -/
def CK_CKO_STAT_CLAIM_REF : Fld := ⟨0x40114, 0x20, 8, 8, 1, .main, .w1c, .val 0, none⟩
/-- CK_CKO_STAT.ACTIVE (R198). -/
def CK_CKO_STAT_ACTIVE : Fld := ⟨0x40114, 0x20, 8, 9, 1, .main, .ro, .val 0, none⟩
/-- CK_CKO_STAT.REPHASE (R198). -/
def CK_CKO_STAT_REPHASE : Fld := ⟨0x40114, 0x20, 8, 10, 1, .main, .ro, .val 0, none⟩

/-! ### Block at 0x50000 -/

/-- TA_CTRL.XEN (R227). -/
def TA_CTRL_XEN : Fld := ⟨0x50000, 0x0, 1, 0, 1, .main, .rw, .val 0, none⟩
/-- TA_CTRL.EV_RING (R227). -/
def TA_CTRL_EV_RING : Fld := ⟨0x50000, 0x0, 1, 2, 2, .main, .rw, .val 0, none⟩
/-- TA_LATE.LATE_TOL (R227). -/
def TA_LATE_LATE_TOL : Fld := ⟨0x50004, 0x0, 1, 0, 16, .main, .rw, .val 100, none⟩
/-- TA_XCTRL.LEAD (R227). -/
def TA_XCTRL_LEAD : Fld := ⟨0x50008, 0x0, 1, 0, 4, .main, (.rwx 0x50000 0x0 0), .val 2, (some (1, 15))⟩
/-- TA_STATUS.ARMED (R227). -/
def TA_STATUS_ARMED : Fld := ⟨0x50010, 0x0, 1, 0, 15, .main, .ro, .val 0, none⟩
/-- TA_STATUS.STAGE (R227). -/
def TA_STATUS_STAGE : Fld := ⟨0x50010, 0x0, 1, 16, 9, .main, .ro, .val 0, none⟩
/-- TA_EVT.LATE (R227). -/
def TA_EVT_LATE : Fld := ⟨0x50014, 0x0, 1, 0, 1, .main, .w1c, .val 0, none⟩
/-- TA_EVT.HALT (R227). -/
def TA_EVT_HALT : Fld := ⟨0x50014, 0x0, 1, 1, 1, .main, .w1c, .val 0, none⟩
/-- TA_EVT.GATED (R227). -/
def TA_EVT_GATED : Fld := ⟨0x50014, 0x0, 1, 2, 1, .main, .w1c, .val 0, none⟩
/-- TA_EVT.NORES (R227). -/
def TA_EVT_NORES : Fld := ⟨0x50014, 0x0, 1, 3, 1, .main, .w1c, .val 0, none⟩
/-- TA_EVT.PORT_DOWN (R227). -/
def TA_EVT_PORT_DOWN : Fld := ⟨0x50014, 0x0, 1, 4, 1, .main, .w1c, .val 0, none⟩
/-- TA_EVT.LQ_EMPTY (R227). -/
def TA_EVT_LQ_EMPTY : Fld := ⟨0x50014, 0x0, 1, 5, 1, .main, .w1c, .val 0, none⟩
/-- TA_EVT.EDGE_COLL (R227). -/
def TA_EVT_EDGE_COLL : Fld := ⟨0x50014, 0x0, 1, 6, 1, .main, .w1c, .val 0, none⟩
/-- TA_EVT.STAGE_FULL (R227). -/
def TA_EVT_STAGE_FULL : Fld := ⟨0x50014, 0x0, 1, 7, 1, .main, .w1c, .val 0, none⟩
/-- TA_EVT.CAP_LOST (R227). -/
def TA_EVT_CAP_LOST : Fld := ⟨0x50014, 0x0, 1, 8, 1, .main, .w1c, .val 0, none⟩
/-- TA_EVT.CLAIM_REFUSED (R227). -/
def TA_EVT_CLAIM_REFUSED : Fld := ⟨0x50014, 0x0, 1, 9, 1, .main, .w1c, .val 0, none⟩
/-- TA_CNT_OCCUR.OCCUR (R227). -/
def TA_CNT_OCCUR_OCCUR : Fld := ⟨0x50040, 0x0, 1, 0, 32, .main, .ro, .val 0, none⟩
/-- TA_CNT_LATE.LATE (R227). -/
def TA_CNT_LATE_LATE : Fld := ⟨0x50044, 0x0, 1, 0, 32, .main, .ro, .val 0, none⟩
/-- TA_CNT_HALT.HALT (R227). -/
def TA_CNT_HALT_HALT : Fld := ⟨0x50048, 0x0, 1, 0, 32, .main, .ro, .val 0, none⟩
/-- TA_CNT_GATED.GATED (R227). -/
def TA_CNT_GATED_GATED : Fld := ⟨0x5004c, 0x0, 1, 0, 32, .main, .ro, .val 0, none⟩
/-- TA_CNT_NORES.NORES (R227). -/
def TA_CNT_NORES_NORES : Fld := ⟨0x50050, 0x0, 1, 0, 32, .main, .ro, .val 0, none⟩
/-- TA_CNT_PORT_DOWN.PORT_DOWN (R227). -/
def TA_CNT_PORT_DOWN_PORT_DOWN : Fld := ⟨0x50054, 0x0, 1, 0, 32, .main, .ro, .val 0, none⟩
/-- TA_CNT_LQ_EMPTY.LQ_EMPTY (R227). -/
def TA_CNT_LQ_EMPTY_LQ_EMPTY : Fld := ⟨0x50058, 0x0, 1, 0, 32, .main, .ro, .val 0, none⟩
/-- TA_CNT_EDGE_COLL.EDGE_COLL (R227). -/
def TA_CNT_EDGE_COLL_EDGE_COLL : Fld := ⟨0x5005c, 0x0, 1, 0, 32, .main, .ro, .val 0, none⟩
/-- TA_CNT_CLR.CLR (R227). -/
def TA_CNT_CLR_CLR : Fld := ⟨0x5007c, 0x0, 1, 0, 1, .main, .wo, .val 0, none⟩
/-- TA_TIO_CTRL.MODE (R228). -/
def TA_TIO_CTRL_MODE : Fld := ⟨0x50100, 0x10, 16, 0, 2, .main, .rw, .val 0, none⟩
/-- TA_TIO_CTRL.PGSEL (R228). -/
def TA_TIO_CTRL_PGSEL : Fld := ⟨0x50100, 0x10, 16, 2, 4, .main, .rw, .val 0, none⟩
/-- TA_TIO_CTRL.INV (R228). -/
def TA_TIO_CTRL_INV : Fld := ⟨0x50100, 0x10, 16, 6, 1, .main, .rw, .val 0, none⟩
/-- TA_TIO_CTRL.IDLE (R228). -/
def TA_TIO_CTRL_IDLE : Fld := ⟨0x50100, 0x10, 16, 7, 1, .main, .rw, .val 0, none⟩
/-- TA_TIO_CTRL.OWNER (R228). -/
def TA_TIO_CTRL_OWNER : Fld := ⟨0x50100, 0x10, 16, 8, 8, .main, .ro, .val 0, none⟩
/-- TA_TIO_CTRL.CLAIM_REF (R228). -/
def TA_TIO_CTRL_CLAIM_REF : Fld := ⟨0x50100, 0x10, 16, 16, 1, .main, .w1c, .val 0, none⟩
/-- TA_TIO_CTRL.LEVEL (R228). -/
def TA_TIO_CTRL_LEVEL : Fld := ⟨0x50100, 0x10, 16, 17, 1, .main, .ro, .val 0, none⟩
/-- TA_PG_CTRL.EN (R229). -/
def TA_PG_CTRL_EN : Fld := ⟨0x50300, 0x20, 16, 0, 1, .main, .rw, .val 0, none⟩
/-- TA_PG_CTRL.SCALE (R229). -/
def TA_PG_CTRL_SCALE : Fld := ⟨0x50300, 0x20, 16, 1, 1, .main, .rw, .val 0, none⟩
/-- TA_PG_CTRL.ACTIVE (R229). -/
def TA_PG_CTRL_ACTIVE : Fld := ⟨0x50300, 0x20, 16, 2, 1, .main, .ro, .val 0, none⟩
/-- TA_PG_CTRL.REPHASE (R229). -/
def TA_PG_CTRL_REPHASE : Fld := ⟨0x50300, 0x20, 16, 3, 1, .main, .ro, .val 0, none⟩
/-- TA_PG_PER.PER (R229). -/
def TA_PG_PER_PER : Fld := ⟨0x50304, 0x20, 16, 0, 48, .main, .rw, .val 65536000, (some (655360, 281474976710655))⟩
/-- TA_PG_WIDTH.WIDTH (R229). -/
def TA_PG_WIDTH_WIDTH : Fld := ⟨0x5030c, 0x20, 16, 0, 48, .main, .rw, .val 32768000, none⟩
/-- TA_PG_PHASE.PHASE (R229). -/
def TA_PG_PHASE_PHASE : Fld := ⟨0x50314, 0x20, 16, 0, 48, .main, .rw, .val 0, none⟩
/-- TA_PG_COUNT.COUNT (R229). -/
def TA_PG_COUNT_COUNT : Fld := ⟨0x5031c, 0x20, 16, 0, 32, .main, .rw, .val 0, none⟩
/-- TA_CU_CTRL.EN (R230). -/
def TA_CU_CTRL_EN : Fld := ⟨0x50500, 0x10, 16, 0, 1, .main, .rw, .val 0, none⟩
/-- TA_CU_CTRL.SRC (R230). -/
def TA_CU_CTRL_SRC : Fld := ⟨0x50500, 0x10, 16, 1, 4, .main, .rw, .val 0, none⟩
/-- TA_CU_CTRL.EDGE (R230). -/
def TA_CU_CTRL_EDGE : Fld := ⟨0x50500, 0x10, 16, 5, 2, .main, .rw, .val 1, (some (1, 3))⟩
/-- TA_CU_CTRL.RING (R230). -/
def TA_CU_CTRL_RING : Fld := ⟨0x50500, 0x10, 16, 7, 2, .main, .rw, .val 0, none⟩
/-- TA_CU_CTRL.CONV (R230). -/
def TA_CU_CTRL_CONV : Fld := ⟨0x50500, 0x10, 16, 9, 1, .main, .rw, .val 0, none⟩
/-- TA_CU_CTRL.OWNER (R230). -/
def TA_CU_CTRL_OWNER : Fld := ⟨0x50500, 0x10, 16, 16, 8, .main, .ro, .val 0, none⟩
/-- TA_CU_CTRL.CLAIM_REF (R230). -/
def TA_CU_CTRL_CLAIM_REF : Fld := ⟨0x50500, 0x10, 16, 24, 1, .main, .w1c, .val 0, none⟩
/-- TA_CU_DIV.DIV (R230). -/
def TA_CU_DIV_DIV : Fld := ⟨0x50504, 0x10, 16, 0, 16, .main, .rw, .val 1, (some (1, 65535))⟩
/-- TA_CU_STAT.FILL (R230). -/
def TA_CU_STAT_FILL : Fld := ⟨0x50508, 0x10, 16, 0, 7, .main, .ro, .val 0, none⟩
/-- TA_CU_STAT.LOST (R230). -/
def TA_CU_STAT_LOST : Fld := ⟨0x50508, 0x10, 16, 16, 16, .main, .ro, .val 0, none⟩
/-- TA_CU_DELIV.DELIV (R230). -/
def TA_CU_DELIV_DELIV : Fld := ⟨0x5050c, 0x10, 16, 0, 32, .main, .ro, .val 0, none⟩
/-- TA_LQ_CTRL.EN (R231). -/
def TA_LQ_CTRL_EN : Fld := ⟨0x51000, 0x10, 128, 0, 1, .main, .rw, .val 0, none⟩
/-- TA_LQ_CTRL.SIDE (R231). -/
def TA_LQ_CTRL_SIDE : Fld := ⟨0x51000, 0x10, 128, 1, 1, .main, .rwi, .val 0, none⟩
/-- TA_LQ_CTRL.EMPTY_ACT (R231). -/
def TA_LQ_CTRL_EMPTY_ACT : Fld := ⟨0x51000, 0x10, 128, 2, 1, .main, .rw, .val 0, none⟩
/-- TA_LQ_CTRL.DEPTH (R231). -/
def TA_LQ_CTRL_DEPTH : Fld := ⟨0x51000, 0x10, 128, 4, 8, .main, .rw, .val 16, (some (1, 255))⟩
/-- TA_LQ_CTRL.OWNER (R231). -/
def TA_LQ_CTRL_OWNER : Fld := ⟨0x51000, 0x10, 128, 16, 8, .main, .ro, .val 0, none⟩
/-- TA_LQ_CTRL.CLAIM_REF (R231). -/
def TA_LQ_CTRL_CLAIM_REF : Fld := ⟨0x51000, 0x10, 128, 24, 1, .main, .w1c, .val 0, none⟩
/-- TA_LQ_STAT.QLEN (R231). -/
def TA_LQ_STAT_QLEN : Fld := ⟨0x51004, 0x10, 128, 0, 8, .main, .ro, .val 0, none⟩
/-- TA_LQ_STAT.KEPT (R231). -/
def TA_LQ_STAT_KEPT : Fld := ⟨0x51004, 0x10, 128, 8, 1, .main, .ro, .val 0, none⟩
/-- TA_LQ_SENT.SENT (R231). -/
def TA_LQ_SENT_SENT : Fld := ⟨0x51008, 0x10, 128, 0, 32, .main, .ro, .val 0, none⟩
/-- TA_LQ_SKIP.SKIP (R231). -/
def TA_LQ_SKIP_SKIP : Fld := ⟨0x5100c, 0x10, 128, 0, 32, .main, .ro, .val 0, none⟩
/-- TA_CLAIM.OWNER (R232). -/
def TA_CLAIM_OWNER : Fld := ⟨0x52000, 0x4, 248, 0, 8, .main, .ro, .val 0, none⟩
/-- TA_CLAIM.HELD (R232). -/
def TA_CLAIM_HELD : Fld := ⟨0x52000, 0x4, 248, 8, 1, .main, .ro, .val 0, none⟩

/-! ### Block at 0x60000 -/

/-- SRV_CTRL.XEN (R176). -/
def SRV_CTRL_XEN : Fld := ⟨0x60000, 0x0, 1, 0, 1, .main, .rw, .val 0, none⟩
/-- SRV_CTRL.REVERT (R176). -/
def SRV_CTRL_REVERT : Fld := ⟨0x60000, 0x0, 1, 1, 1, .main, .rw, .val 1, none⟩
/-- SRV_CTRL.SYNT_EN (R176). -/
def SRV_CTRL_SYNT_EN : Fld := ⟨0x60000, 0x0, 1, 2, 1, .main, .rw, .val 1, none⟩
/-- SRV_CTRL.MEAS_EVT (R176). -/
def SRV_CTRL_MEAS_EVT : Fld := ⟨0x60000, 0x0, 1, 3, 1, .main, .rw, .val 0, none⟩
/-- SRV_XCTRL.HW_PROP (R176). -/
def SRV_XCTRL_HW_PROP : Fld := ⟨0x60004, 0x0, 1, 0, 1, .main, (.rwx 0x60000 0x0 0), .val 1, none⟩
/-- SRV_XCTRL.KP_ACQ (R176). -/
def SRV_XCTRL_KP_ACQ : Fld := ⟨0x60004, 0x0, 1, 4, 4, .main, (.rwx 0x60000 0x0 0), .val 0, none⟩
/-- SRV_XCTRL.KI_ACQ (R176). -/
def SRV_XCTRL_KI_ACQ : Fld := ⟨0x60004, 0x0, 1, 8, 4, .main, (.rwx 0x60000 0x0 0), .val 3, none⟩
/-- SRV_XCTRL.KP_LOCK (R176). -/
def SRV_XCTRL_KP_LOCK : Fld := ⟨0x60004, 0x0, 1, 12, 4, .main, (.rwx 0x60000 0x0 0), .val 2, none⟩
/-- SRV_XCTRL.KI_LOCK (R176). -/
def SRV_XCTRL_KI_LOCK : Fld := ⟨0x60004, 0x0, 1, 16, 4, .main, (.rwx 0x60000 0x0 0), .val 6, none⟩
/-- SRV_XCTRL.OUT_MUL (R176). -/
def SRV_XCTRL_OUT_MUL : Fld := ⟨0x60004, 0x0, 1, 20, 4, .main, (.rwx 0x60000 0x0 0), .val 4, none⟩
/-- SRV_WTR.WTR (R176). -/
def SRV_WTR_WTR : Fld := ⟨0x60008, 0x0, 1, 0, 16, .main, .rw, .val 1000, none⟩
/-- SRV_WTR.QUAL_T (R176). -/
def SRV_WTR_QUAL_T : Fld := ⟨0x60008, 0x0, 1, 16, 16, .main, .rw, .val 16, none⟩
/-- SRV_HO.HO_FREQ (R176). -/
def SRV_HO_HO_FREQ : Fld := ⟨0x6000c, 0x0, 1, 0, 16, .main, .rw, .val 10, none⟩
/-- SRV_UNC_UP.UP (R176). -/
def SRV_UNC_UP_UP : Fld := ⟨0x60010, 0x0, 1, 0, 32, .main, .rw, .val 0, none⟩
/-- SRV_STATUS.SEL (R176). -/
def SRV_STATUS_SEL : Fld := ⟨0x60020, 0x0, 1, 0, 3, .main, .ro, .val 0, none⟩
/-- SRV_STATUS.SEL_VALID (R176). -/
def SRV_STATUS_SEL_VALID : Fld := ⟨0x60020, 0x0, 1, 3, 1, .main, .ro, .val 0, none⟩
/-- SRV_STATUS.FORCED (R176). -/
def SRV_STATUS_FORCED : Fld := ⟨0x60020, 0x0, 1, 4, 1, .main, .ro, .val 0, none⟩
/-- SRV_STATUS.WTR_RUN (R176). -/
def SRV_STATUS_WTR_RUN : Fld := ⟨0x60020, 0x0, 1, 5, 1, .main, .ro, .val 0, none⟩
/-- SRV_STATUS.METHOD (R176). -/
def SRV_STATUS_METHOD : Fld := ⟨0x60020, 0x0, 1, 6, 2, .main, .ro, .val 0, none⟩
/-- SRV_STATUS.TAINT (R176). -/
def SRV_STATUS_TAINT : Fld := ⟨0x60020, 0x0, 1, 8, 1, .main, .ro, .val 0, none⟩
/-- SRV_STATUS.QUAL (R176). -/
def SRV_STATUS_QUAL : Fld := ⟨0x60020, 0x0, 1, 16, 8, .main, .ro, .val 0, none⟩
/-- SRV_EVT.SRC_CHANGE (R176). -/
def SRV_EVT_SRC_CHANGE : Fld := ⟨0x60024, 0x0, 1, 0, 1, .main, .w1c, .val 0, none⟩
/-- SRV_EVT.SRC_LOST (R176). -/
def SRV_EVT_SRC_LOST : Fld := ⟨0x60024, 0x0, 1, 1, 1, .main, .w1c, .val 0, none⟩
/-- SRV_EVT.NO_SOURCE (R176). -/
def SRV_EVT_NO_SOURCE : Fld := ⟨0x60024, 0x0, 1, 2, 1, .main, .w1c, .val 0, none⟩
/-- SRV_EVT.METHOD_CHANGE (R176). -/
def SRV_EVT_METHOD_CHANGE : Fld := ⟨0x60024, 0x0, 1, 3, 1, .main, .w1c, .val 0, none⟩
/-- SRV_EVT.TAINT_SET (R176). -/
def SRV_EVT_TAINT_SET : Fld := ⟨0x60024, 0x0, 1, 4, 1, .main, .w1c, .val 0, none⟩
/-- SRV_EVT.OUTLIER (R176). -/
def SRV_EVT_OUTLIER : Fld := ⟨0x60024, 0x0, 1, 5, 1, .main, .w1c, .val 0, none⟩
/-- SRV_EVT.MASTER_CHANGE (R176). -/
def SRV_EVT_MASTER_CHANGE : Fld := ⟨0x60024, 0x0, 1, 6, 1, .main, .w1c, .val 0, none⟩
/-- SRV_AU.AU (R176). -/
def SRV_AU_AU : Fld := ⟨0x60028, 0x0, 1, 0, 32, .main, .ro, .val 4294967295, none⟩
/-- SRV_FREQ.FREQ (R176). -/
def SRV_FREQ_FREQ : Fld := ⟨0x60030, 0x0, 1, 0, 40, .main, .ro, .val 0, none⟩
/-- SRV_EST.EST (R176). -/
def SRV_EST_EST : Fld := ⟨0x60038, 0x0, 1, 0, 64, .main, .ro, .val 0, none⟩
/-- SRV_CNT_OUTLIER.OUTLIER (R176). -/
def SRV_CNT_OUTLIER_OUTLIER : Fld := ⟨0x60040, 0x0, 1, 0, 32, .main, .ro, .val 0, none⟩
/-- SRV_SRC.EN (R176). -/
def SRV_SRC_EN : Fld := ⟨0x60080, 0x4, 8, 0, 1, .main, .rw, .val 0, none⟩
/-- SRV_SRC.PORT (R176). -/
def SRV_SRC_PORT : Fld := ⟨0x60080, 0x4, 8, 1, 5, .main, .rw, .val 0, none⟩
/-- SRV_SRC.METHOD (R176). -/
def SRV_SRC_METHOD : Fld := ⟨0x60080, 0x4, 8, 6, 2, .main, .rw, .val 0, none⟩
/-- SRV_SRC.PRIO (R176). -/
def SRV_SRC_PRIO : Fld := ⟨0x60080, 0x4, 8, 8, 4, .main, .rw, .val 15, none⟩
/-- SRV_SRC.CLASS_MAX (R176). -/
def SRV_SRC_CLASS_MAX : Fld := ⟨0x60080, 0x4, 8, 12, 8, .main, .rw, .val 255, none⟩
/-- PTP_CTRL.PROFILE (R176). -/
def PTP_CTRL_PROFILE : Fld := ⟨0x600a0, 0x0, 1, 0, 1, .main, .rw, .val 0, none⟩
/-- PTP_CTRL.DOMAIN (R176). -/
def PTP_CTRL_DOMAIN : Fld := ⟨0x600a0, 0x0, 1, 8, 8, .main, .rw, .val 0, none⟩
/-- PTP_CTRL.MAJOR_SDO (R176). -/
def PTP_CTRL_MAJOR_SDO : Fld := ⟨0x600a0, 0x0, 1, 16, 4, .main, .rw, .val 0, none⟩
/-- PTP_CTRL.MINOR_SDO (R176). -/
def PTP_CTRL_MINOR_SDO : Fld := ⟨0x600a0, 0x0, 1, 20, 8, .main, .rw, .val 0, none⟩
/-- PTP_CLKID.CLKID (R176). -/
def PTP_CLKID_CLKID : Fld := ⟨0x600a4, 0x0, 1, 0, 64, .main, .rw, .fuse 8, none⟩
/-- PTP_AUTH.MODE (R176). -/
def PTP_AUTH_MODE : Fld := ⟨0x600ac, 0x0, 1, 0, 2, .main, .rw, .val 0, (some (0, 2))⟩
/-- PTP_AUTH.GEN (R176). -/
def PTP_AUTH_GEN : Fld := ⟨0x600ac, 0x0, 1, 2, 1, .main, .rw, .val 0, none⟩
/-- PTP_AUTH.SLOT (R176). -/
def PTP_AUTH_SLOT : Fld := ⟨0x600ac, 0x0, 1, 4, 2, .main, .rw, .val 0, none⟩
/-- PTP_AUTH.SPP (R176). -/
def PTP_AUTH_SPP : Fld := ⟨0x600ac, 0x0, 1, 8, 8, .main, .rw, .val 0, none⟩
/-- PTP_AUTH.SLOT_EMPTY (R176). -/
def PTP_AUTH_SLOT_EMPTY : Fld := ⟨0x600ac, 0x0, 1, 16, 1, .main, .ro, .val 1, none⟩
/-- PTP_CLASS.CLASS_TAINT (R176). -/
def PTP_CLASS_CLASS_TAINT : Fld := ⟨0x600b0, 0x0, 1, 0, 8, .main, .rw, .val 248, none⟩
/-- PTP_CLASS.CLASS_HO (R176). -/
def PTP_CLASS_CLASS_HO : Fld := ⟨0x600b0, 0x0, 1, 8, 8, .main, .rw, .val 0, none⟩
/-- PTP_NPD_THR.NPD_THR (R176). -/
def PTP_NPD_THR_NPD_THR : Fld := ⟨0x600b4, 0x0, 1, 0, 32, .main, .rw, .val 800, none⟩
/-- PTP_PCTRL.ROLE (R177). -/
def PTP_PCTRL_ROLE : Fld := ⟨0x61000, 0x40, 32, 0, 2, .main, .rw, .val 0, none⟩
/-- PTP_PCTRL.DM (R177). -/
def PTP_PCTRL_DM : Fld := ⟨0x61000, 0x40, 32, 2, 1, .main, .rw, .val 0, none⟩
/-- PTP_PCTRL.ONESTEP (R177). -/
def PTP_PCTRL_ONESTEP : Fld := ⟨0x61000, 0x40, 32, 3, 1, .main, .rw, .val 1, none⟩
/-- PTP_PCTRL.DA (R177). -/
def PTP_PCTRL_DA : Fld := ⟨0x61000, 0x40, 32, 4, 1, .main, .rw, .val 0, none⟩
/-- PTP_PINT.LOG_SYNC (R177). -/
def PTP_PINT_LOG_SYNC : Fld := ⟨0x61004, 0x40, 32, 0, 8, .main, .rw, .val 248, none⟩
/-- PTP_PINT.LOG_DREQ (R177). -/
def PTP_PINT_LOG_DREQ : Fld := ⟨0x61004, 0x40, 32, 8, 8, .main, .rw, .val 248, none⟩
/-- PTP_PINT.LOG_ANN (R177). -/
def PTP_PINT_LOG_ANN : Fld := ⟨0x61004, 0x40, 32, 16, 8, .main, .rw, .val 0, none⟩
/-- PTP_PINT.LOG_PDREQ (R177). -/
def PTP_PINT_LOG_PDREQ : Fld := ⟨0x61004, 0x40, 32, 24, 8, .main, .rw, .val 253, none⟩
/-- PTP_PASYM.ASYM (R177). -/
def PTP_PASYM_ASYM : Fld := ⟨0x61008, 0x40, 32, 0, 32, .main, .rw, .val 0, none⟩
/-- PTP_PUNC.UNC (R177). -/
def PTP_PUNC_UNC : Fld := ⟨0x6100c, 0x40, 32, 0, 16, .main, .rw, .val 2000, none⟩
/-- PTP_PSTAT.AS_CAPABLE (R177). -/
def PTP_PSTAT_AS_CAPABLE : Fld := ⟨0x61010, 0x40, 32, 0, 1, .main, .ro, .val 0, none⟩
/-- PTP_PSTAT.ANN_OK (R177). -/
def PTP_PSTAT_ANN_OK : Fld := ⟨0x61010, 0x40, 32, 1, 1, .main, .ro, .val 0, none⟩
/-- PTP_MLD.MLD (R177). -/
def PTP_MLD_MLD : Fld := ⟨0x61014, 0x40, 32, 0, 32, .main, .ro, .val 0, none⟩
/-- PTP_NRR.NRR (R177). -/
def PTP_NRR_NRR : Fld := ⟨0x61018, 0x40, 32, 0, 32, .main, .ro, .val 0, none⟩
/-- PTP_CNT_RX_TERM.RX_TERM (R177). -/
def PTP_CNT_RX_TERM_RX_TERM : Fld := ⟨0x61020, 0x40, 32, 0, 32, .main, .ro, .val 0, none⟩
/-- PTP_CNT_TX_ORIG.TX_ORIG (R177). -/
def PTP_CNT_TX_ORIG_TX_ORIG : Fld := ⟨0x61024, 0x40, 32, 0, 32, .main, .ro, .val 0, none⟩
/-- PTP_CNT_MALFORMED.MALFORMED (R177). -/
def PTP_CNT_MALFORMED_MALFORMED : Fld := ⟨0x61028, 0x40, 32, 0, 32, .main, .ro, .val 0, none⟩
/-- PTP_CNT_AUTH_FAIL.AUTH_FAIL (R177). -/
def PTP_CNT_AUTH_FAIL_AUTH_FAIL : Fld := ⟨0x6102c, 0x40, 32, 0, 32, .main, .ro, .val 0, none⟩
/-- PTP_CNT_TX_NOCELL.TX_NOCELL (R177). -/
def PTP_CNT_TX_NOCELL_TX_NOCELL : Fld := ⟨0x61030, 0x40, 32, 0, 32, .main, .ro, .val 0, none⟩
/-- PTP_CNT_UNMATCHED.UNMATCHED (R177). -/
def PTP_CNT_UNMATCHED_UNMATCHED : Fld := ⟨0x61034, 0x40, 32, 0, 32, .main, .ro, .val 0, none⟩
/-- PTP_PCNT_CLR.CLR (R177). -/
def PTP_PCNT_CLR_CLR : Fld := ⟨0x6103c, 0x40, 32, 0, 1, .main, .wo, .val 0, none⟩

/-! ### Block at 0x80000 -/

/-- STR_CTRL.EN (R100). -/
def STR_CTRL_EN : Fld := ⟨0x80000, 0x1000, 32, 0, 1, .main, .rw, .val 0, none⟩
/-- STR_CTRL.XEN (R100). -/
def STR_CTRL_XEN : Fld := ⟨0x80000, 0x1000, 32, 1, 1, .main, .rw, .val 0, none⟩
/-- STR_CTRL.RATE (R100). -/
def STR_CTRL_RATE : Fld := ⟨0x80000, 0x1000, 32, 2, 1, .main, .rwi, .val 1, none⟩
/-- STR_CTRL.LFEC (R100). -/
def STR_CTRL_LFEC : Fld := ⟨0x80000, 0x1000, 32, 3, 1, .main, .rwi, .val 0, none⟩
/-- STR_CTRL.HFEC (R100). -/
def STR_CTRL_HFEC : Fld := ⟨0x80000, 0x1000, 32, 4, 1, .main, .rwi, .val 0, none⟩
/-- STR_CTRL.LT_PASS (R100). -/
def STR_CTRL_LT_PASS : Fld := ⟨0x80000, 0x1000, 32, 5, 1, .main, .rwi, .val 0, none⟩
/-- STR_CTRL.AUTO (R100). -/
def STR_CTRL_AUTO : Fld := ⟨0x80000, 0x1000, 32, 6, 1, .main, .rw, .val 1, none⟩
/-- STR_CTRL.RAIL (R100). -/
def STR_CTRL_RAIL : Fld := ⟨0x80000, 0x1000, 32, 7, 5, .main, .rw, .val 31, none⟩
/-- STR_CTRL.LOOP (R100). -/
def STR_CTRL_LOOP : Fld := ⟨0x80000, 0x1000, 32, 12, 2, .main, .ro, .val 0, none⟩
/-- STR_CTRL.CLAIM_REF (R100). -/
def STR_CTRL_CLAIM_REF : Fld := ⟨0x80000, 0x1000, 32, 14, 1, .main, .w1c, .val 0, none⟩
/-- STR_CTRL.OWNER (R100). -/
def STR_CTRL_OWNER : Fld := ⟨0x80000, 0x1000, 32, 16, 8, .main, .ro, .val 0, none⟩
/-- STR_STATUS.STATE (R100). -/
def STR_STATUS_STATE : Fld := ⟨0x80004, 0x1000, 32, 0, 3, .main, .ro, .val 0, none⟩
/-- STR_STATUS.L_LOCK (R100). -/
def STR_STATUS_L_LOCK : Fld := ⟨0x80004, 0x1000, 32, 3, 1, .main, .ro, .val 0, none⟩
/-- STR_STATUS.H_LOCK (R100). -/
def STR_STATUS_H_LOCK : Fld := ⟨0x80004, 0x1000, 32, 4, 1, .main, .ro, .val 0, none⟩
/-- STR_STATUS.L_HIBER (R100). -/
def STR_STATUS_L_HIBER : Fld := ⟨0x80004, 0x1000, 32, 5, 1, .main, .ro, .val 0, none⟩
/-- STR_STATUS.H_HIBER (R100). -/
def STR_STATUS_H_HIBER : Fld := ⟨0x80004, 0x1000, 32, 6, 1, .main, .ro, .val 0, none⟩
/-- STR_STATUS.L_FLT (R100). -/
def STR_STATUS_L_FLT : Fld := ⟨0x80004, 0x1000, 32, 7, 1, .main, .ro, .val 0, none⟩
/-- STR_STATUS.H_FLT (R100). -/
def STR_STATUS_H_FLT : Fld := ⟨0x80004, 0x1000, 32, 8, 1, .main, .ro, .val 0, none⟩
/-- STR_STATUS.L_PHLOCK (R100). -/
def STR_STATUS_L_PHLOCK : Fld := ⟨0x80004, 0x1000, 32, 9, 1, .main, .ro, .val 0, none⟩
/-- STR_STATUS.H_PHLOCK (R100). -/
def STR_STATUS_H_PHLOCK : Fld := ⟨0x80004, 0x1000, 32, 10, 1, .main, .ro, .val 0, none⟩
/-- STR_STATUS.EQ_LP (R100). -/
def STR_STATUS_EQ_LP : Fld := ⟨0x80004, 0x1000, 32, 11, 1, .main, .ro, .val 0, none⟩
/-- STR_STATUS.L_FILL (R100). -/
def STR_STATUS_L_FILL : Fld := ⟨0x80004, 0x1000, 32, 12, 7, .main, .ro, .val 0, none⟩
/-- STR_STATUS.H_FILL (R100). -/
def STR_STATUS_H_FILL : Fld := ⟨0x80004, 0x1000, 32, 19, 7, .main, .ro, .val 0, none⟩
/-- STR_STATUS.WIGN (R100). -/
def STR_STATUS_WIGN : Fld := ⟨0x80004, 0x1000, 32, 28, 4, .main, .ro, .val 0, none⟩
/-- STR_EVT.UP (R100). -/
def STR_EVT_UP : Fld := ⟨0x80008, 0x1000, 32, 0, 1, .main, .w1c, .val 0, none⟩
/-- STR_EVT.DOWN (R100). -/
def STR_EVT_DOWN : Fld := ⟨0x80008, 0x1000, 32, 1, 1, .main, .w1c, .val 0, none⟩
/-- STR_EVT.TRAIN (R100). -/
def STR_EVT_TRAIN : Fld := ⟨0x80008, 0x1000, 32, 2, 1, .main, .w1c, .val 0, none⟩
/-- STR_EVT.HALTED (R100). -/
def STR_EVT_HALTED : Fld := ⟨0x80008, 0x1000, 32, 3, 1, .main, .w1c, .val 0, none⟩
/-- STR_EVT.EL_OVF (R100). -/
def STR_EVT_EL_OVF : Fld := ⟨0x80008, 0x1000, 32, 4, 1, .main, .w1c, .val 0, none⟩
/-- STR_EVT.POOL_DROP (R100). -/
def STR_EVT_POOL_DROP : Fld := ⟨0x80008, 0x1000, 32, 5, 1, .main, .w1c, .val 0, none⟩
/-- STR_EVT.POOL_TRUNC (R100). -/
def STR_EVT_POOL_TRUNC : Fld := ⟨0x80008, 0x1000, 32, 6, 1, .main, .w1c, .val 0, none⟩
/-- STR_EVT.COPY_DROP (R100). -/
def STR_EVT_COPY_DROP : Fld := ⟨0x80008, 0x1000, 32, 7, 1, .main, .w1c, .val 0, none⟩
/-- STR_EVT.GIANT (R100). -/
def STR_EVT_GIANT : Fld := ⟨0x80008, 0x1000, 32, 8, 1, .main, .w1c, .val 0, none⟩
/-- STR_EVT.UNK_OS (R100). -/
def STR_EVT_UNK_OS : Fld := ⟨0x80008, 0x1000, 32, 9, 1, .main, .w1c, .val 0, none⟩
/-- STR_EVT.LPI (R100). -/
def STR_EVT_LPI : Fld := ⟨0x80008, 0x1000, 32, 10, 1, .main, .w1c, .val 0, none⟩
/-- STR_EVT.HOST_SPX (R100). -/
def STR_EVT_HOST_SPX : Fld := ⟨0x80008, 0x1000, 32, 11, 1, .main, .w1c, .val 0, none⟩
/-- STR_EVT.RESV_REFUSED (R100). -/
def STR_EVT_RESV_REFUSED : Fld := ⟨0x80008, 0x1000, 32, 12, 1, .main, .w1c, .val 0, none⟩
/-- STR_EVT.LT_TIMEOUT (R100). -/
def STR_EVT_LT_TIMEOUT : Fld := ⟨0x80008, 0x1000, 32, 13, 1, .main, .w1c, .val 0, none⟩
/-- STR_EVT.CLAIM_REFUSED (R100). -/
def STR_EVT_CLAIM_REFUSED : Fld := ⟨0x80008, 0x1000, 32, 14, 1, .main, .w1c, .val 0, none⟩
/-- STR_MAXFRM.MAXFRM (R100). -/
def STR_MAXFRM_MAXFRM : Fld := ⟨0x8000c, 0x1000, 32, 0, 14, .main, .rwi, .val 9600, (some (64, 16383))⟩
/-- STR_ELAS.LOW (R100). -/
def STR_ELAS_LOW : Fld := ⟨0x80010, 0x1000, 32, 0, 6, .main, (.rwx 0x80000 0x1000 1), .val 16, none⟩
/-- STR_ELAS.HIGH (R100). -/
def STR_ELAS_HIGH : Fld := ⟨0x80010, 0x1000, 32, 8, 6, .main, (.rwx 0x80000 0x1000 1), .val 48, none⟩
/-- STR_ELAS.START (R100). -/
def STR_ELAS_START : Fld := ⟨0x80010, 0x1000, 32, 16, 6, .main, (.rwx 0x80000 0x1000 1), .val 16, none⟩
/-- STR_SRD.L_SWING (R100). -/
def STR_SRD_L_SWING : Fld := ⟨0x80014, 0x1000, 32, 0, 4, .main, .rw, .val 8, none⟩
/-- STR_SRD.L_PRE (R100). -/
def STR_SRD_L_PRE : Fld := ⟨0x80014, 0x1000, 32, 4, 4, .main, .rw, .val 2, none⟩
/-- STR_SRD.L_POST (R100). -/
def STR_SRD_L_POST : Fld := ⟨0x80014, 0x1000, 32, 8, 5, .main, .rw, .val 4, (some (0, 20))⟩
/-- STR_SRD.H_SWING (R100). -/
def STR_SRD_H_SWING : Fld := ⟨0x80014, 0x1000, 32, 16, 4, .main, .rw, .val 8, none⟩
/-- STR_SRD.H_PRE (R100). -/
def STR_SRD_H_PRE : Fld := ⟨0x80014, 0x1000, 32, 20, 4, .main, .rw, .val 2, none⟩
/-- STR_SRD.H_POST (R100). -/
def STR_SRD_H_POST : Fld := ⟨0x80014, 0x1000, 32, 24, 5, .main, .rw, .val 4, (some (0, 20))⟩
/-- STR_SRD.EQ_LP_OK (R100). -/
def STR_SRD_EQ_LP_OK : Fld := ⟨0x80014, 0x1000, 32, 29, 1, .main, .rw, .val 0, none⟩
/-- STR_LT.LT_TO (R100). -/
def STR_LT_LT_TO : Fld := ⟨0x80018, 0x1000, 32, 0, 10, .main, .rw, .val 500, (some (1, 1000))⟩
/-- STR_FWD_L.C0 (R100). -/
def STR_FWD_L_C0 : Fld := ⟨0x80020, 0x1000, 32, 0, 8, .main, .rw, .val 1, none⟩
/-- STR_FWD_L.C1 (R100). -/
def STR_FWD_L_C1 : Fld := ⟨0x80020, 0x1000, 32, 8, 8, .main, .rw, .val 1, none⟩
/-- STR_FWD_L.C2 (R100). -/
def STR_FWD_L_C2 : Fld := ⟨0x80020, 0x1000, 32, 16, 8, .main, .rw, .val 3, none⟩
/-- STR_FWD_L.C3 (R100). -/
def STR_FWD_L_C3 : Fld := ⟨0x80020, 0x1000, 32, 24, 8, .main, .rw, .val 1, none⟩
/-- STR_FWD_H.C0 (R100). -/
def STR_FWD_H_C0 : Fld := ⟨0x80024, 0x1000, 32, 0, 8, .main, .rw, .val 1, none⟩
/-- STR_FWD_H.C1 (R100). -/
def STR_FWD_H_C1 : Fld := ⟨0x80024, 0x1000, 32, 8, 8, .main, .rw, .val 1, none⟩
/-- STR_FWD_H.C2 (R100). -/
def STR_FWD_H_C2 : Fld := ⟨0x80024, 0x1000, 32, 16, 8, .main, .rw, .val 1, none⟩
/-- STR_FWD_H.C3 (R100). -/
def STR_FWD_H_C3 : Fld := ⟨0x80024, 0x1000, 32, 24, 8, .main, .rw, .val 1, none⟩
/-- STR_ETM.ETYPE (R100). -/
def STR_ETM_ETYPE : Fld := ⟨0x80028, 0x1000, 32, 0, 16, .main, .rw, .val 0, none⟩
/-- STR_ETM.MASK (R100). -/
def STR_ETM_MASK : Fld := ⟨0x80028, 0x1000, 32, 16, 16, .main, .rw, .val 0, none⟩
/-- STR_PARSE.ETH (R100). -/
def STR_PARSE_ETH : Fld := ⟨0x8002c, 0x1000, 32, 0, 1, .main, .rw, .val 1, none⟩
/-- STR_PARSE.IPV4 (R100). -/
def STR_PARSE_IPV4 : Fld := ⟨0x8002c, 0x1000, 32, 1, 1, .main, .rw, .val 1, none⟩
/-- STR_PARSE.IPV6 (R100). -/
def STR_PARSE_IPV6 : Fld := ⟨0x8002c, 0x1000, 32, 2, 1, .main, .rw, .val 1, none⟩
/-- STR_PARSE.VLAN (R100). -/
def STR_PARSE_VLAN : Fld := ⟨0x8002c, 0x1000, 32, 3, 1, .main, .rw, .val 1, none⟩
/-- STR_PARSE.V6EXT (R100). -/
def STR_PARSE_V6EXT : Fld := ⟨0x8002c, 0x1000, 32, 4, 1, .main, .rw, .val 1, none⟩
/-- STR_POOL.RESV (R100). -/
def STR_POOL_RESV : Fld := ⟨0x80030, 0x1000, 32, 0, 12, .main, .rwi, .val 64, none⟩
/-- STR_POOL.SHR_MAX (R100). -/
def STR_POOL_SHR_MAX : Fld := ⟨0x80030, 0x1000, 32, 16, 13, .main, .rw, .val 4096, none⟩
/-- STR_POOL_STAT.RESV_USED (R100). -/
def STR_POOL_STAT_RESV_USED : Fld := ⟨0x80034, 0x1000, 32, 0, 12, .main, .ro, .val 0, none⟩
/-- STR_POOL_STAT.SHR_USED (R100). -/
def STR_POOL_STAT_SHR_USED : Fld := ⟨0x80034, 0x1000, 32, 16, 13, .main, .ro, .val 0, none⟩
/-- STR_INJ.INJ_HOLD (R100). -/
def STR_INJ_INJ_HOLD : Fld := ⟨0x80038, 0x1000, 32, 0, 12, .main, .rw, .val 32, none⟩
/-- STR_CNT_CLR.CLR (R100). -/
def STR_CNT_CLR_CLR : Fld := ⟨0x8003c, 0x1000, 32, 0, 1, .main, .wo, .val 0, none⟩
/-- STR_TS_CTRL.MODE (R125). -/
def STR_TS_CTRL_MODE : Fld := ⟨0x80040, 0x1000, 32, 0, 2, .main, .rw, .val 1, none⟩
/-- STR_TS_CTRL.XEN (R125). -/
def STR_TS_CTRL_XEN : Fld := ⟨0x80040, 0x1000, 32, 2, 1, .main, .rw, .val 0, none⟩
/-- STR_TS_CTRL.ORG_EN (R125). -/
def STR_TS_CTRL_ORG_EN : Fld := ⟨0x80040, 0x1000, 32, 3, 1, .main, .rw, .val 0, none⟩
/-- STR_TS_CTRL.SUB_MT (R125). -/
def STR_TS_CTRL_SUB_MT : Fld := ⟨0x80040, 0x1000, 32, 4, 4, .main, (.rwx 0x80040 0x1000 2), .val 3, none⟩
/-- STR_TS_CTRL.ADD_MT (R125). -/
def STR_TS_CTRL_ADD_MT : Fld := ⟨0x80040, 0x1000, 32, 8, 4, .main, (.rwx 0x80040 0x1000 2), .val 3, none⟩
/-- STR_TS_CTRL.CAP_MT (R125). -/
def STR_TS_CTRL_CAP_MT : Fld := ⟨0x80040, 0x1000, 32, 12, 4, .main, (.rwx 0x80040 0x1000 2), .val 0, none⟩
/-- STR_TS_CTRL.ORG_DOM (R125). -/
def STR_TS_CTRL_ORG_DOM : Fld := ⟨0x80040, 0x1000, 32, 16, 8, .main, .rw, .val 0, none⟩
/-- STR_TS_EVT.CF_RANGE (R125). -/
def STR_TS_EVT_CF_RANGE : Fld := ⟨0x80044, 0x1000, 32, 0, 1, .main, .w1c, .val 0, none⟩
/-- STR_TS_EVT.NO_TRAILER (R125). -/
def STR_TS_EVT_NO_TRAILER : Fld := ⟨0x80044, 0x1000, 32, 1, 1, .main, .w1c, .val 0, none⟩
/-- STR_TS_EVT.CAP_DROP (R125). -/
def STR_TS_EVT_CAP_DROP : Fld := ⟨0x80044, 0x1000, 32, 2, 1, .main, .w1c, .val 0, none⟩
/-- STR_TS_EVT.TSOP_BAD (R125). -/
def STR_TS_EVT_TSOP_BAD : Fld := ⟨0x80044, 0x1000, 32, 3, 1, .main, .w1c, .val 0, none⟩
/-- STR_TS_EVT.ORG_COLD (R125). -/
def STR_TS_EVT_ORG_COLD : Fld := ⟨0x80044, 0x1000, 32, 4, 1, .main, .w1c, .val 0, none⟩
/-- STR_MOD_RX.DLY (R125). -/
def STR_MOD_RX_DLY : Fld := ⟨0x80048, 0x1000, 32, 0, 24, .main, .rw, .val 0, none⟩
/-- STR_MOD_TX.DLY (R125). -/
def STR_MOD_TX_DLY : Fld := ⟨0x8004c, 0x1000, 32, 0, 24, .main, .rw, .val 0, none⟩
/-- STR_CNT_FRM_L.N (R100). -/
def STR_CNT_FRM_L_N : Fld := ⟨0x80100, 0x1000, 32, 0, 32, .main, .ro, .val 0, none⟩
/-- STR_CNT_FRM_H.N (R100). -/
def STR_CNT_FRM_H_N : Fld := ⟨0x80104, 0x1000, 32, 0, 32, .main, .ro, .val 0, none⟩
/-- STR_CNT_PTP_L.N (R100). -/
def STR_CNT_PTP_L_N : Fld := ⟨0x80108, 0x1000, 32, 0, 32, .main, .ro, .val 0, none⟩
/-- STR_CNT_PTP_H.N (R100). -/
def STR_CNT_PTP_H_N : Fld := ⟨0x8010c, 0x1000, 32, 0, 32, .main, .ro, .val 0, none⟩
/-- STR_CNT_TC_SUB.N (R100). -/
def STR_CNT_TC_SUB_N : Fld := ⟨0x80110, 0x1000, 32, 0, 32, .main, .ro, .val 0, none⟩
/-- STR_CNT_TC_ADD.N (R100). -/
def STR_CNT_TC_ADD_N : Fld := ⟨0x80114, 0x1000, 32, 0, 32, .main, .ro, .val 0, none⟩
/-- STR_CNT_EL_OVF.N (R100). -/
def STR_CNT_EL_OVF_N : Fld := ⟨0x80118, 0x1000, 32, 0, 32, .main, .ro, .val 0, none⟩
/-- STR_CNT_POOL_DROP.N (R100). -/
def STR_CNT_POOL_DROP_N : Fld := ⟨0x8011c, 0x1000, 32, 0, 32, .main, .ro, .val 0, none⟩
/-- STR_CNT_POOL_TRUNC.N (R100). -/
def STR_CNT_POOL_TRUNC_N : Fld := ⟨0x80120, 0x1000, 32, 0, 32, .main, .ro, .val 0, none⟩
/-- STR_CNT_COPY_DROP.N (R100). -/
def STR_CNT_COPY_DROP_N : Fld := ⟨0x80124, 0x1000, 32, 0, 32, .main, .ro, .val 0, none⟩
/-- STR_CNT_GIANT.N (R100). -/
def STR_CNT_GIANT_N : Fld := ⟨0x80128, 0x1000, 32, 0, 32, .main, .ro, .val 0, none⟩
/-- STR_CNT_UNK_OS.N (R100). -/
def STR_CNT_UNK_OS_N : Fld := ⟨0x8012c, 0x1000, 32, 0, 32, .main, .ro, .val 0, none⟩
/-- STR_CNT_LPI.N (R100). -/
def STR_CNT_LPI_N : Fld := ⟨0x80130, 0x1000, 32, 0, 32, .main, .ro, .val 0, none⟩
/-- STR_CNT_HOST_SPX.N (R100). -/
def STR_CNT_HOST_SPX_N : Fld := ⟨0x80134, 0x1000, 32, 0, 32, .main, .ro, .val 0, none⟩
/-- STR_CNT_MALFORMED.N (R100). -/
def STR_CNT_MALFORMED_N : Fld := ⟨0x80138, 0x1000, 32, 0, 32, .main, .ro, .val 0, none⟩
/-- STR_CNT_HELD.N (R100). -/
def STR_CNT_HELD_N : Fld := ⟨0x8013c, 0x1000, 32, 0, 32, .main, .ro, .val 0, none⟩
/-- STR_CNT_CF_RANGE.N (R125). -/
def STR_CNT_CF_RANGE_N : Fld := ⟨0x80140, 0x1000, 32, 0, 32, .main, .ro, .val 0, none⟩
/-- STR_CNT_NO_TRAILER.N (R125). -/
def STR_CNT_NO_TRAILER_N : Fld := ⟨0x80144, 0x1000, 32, 0, 32, .main, .ro, .val 0, none⟩
/-- STR_CNT_ORIGIN.N (R125). -/
def STR_CNT_ORIGIN_N : Fld := ⟨0x80148, 0x1000, 32, 0, 32, .main, .ro, .val 0, none⟩
/-- STR_CNT_CAP.N (R125). -/
def STR_CNT_CAP_N : Fld := ⟨0x8014c, 0x1000, 32, 0, 32, .main, .ro, .val 0, none⟩
/-- STR_CNT_CAP_DROP.N (R125). -/
def STR_CNT_CAP_DROP_N : Fld := ⟨0x80150, 0x1000, 32, 0, 32, .main, .ro, .val 0, none⟩
/-- STR_CNT_TSOP_BAD.N (R125). -/
def STR_CNT_TSOP_BAD_N : Fld := ⟨0x80154, 0x1000, 32, 0, 32, .main, .ro, .val 0, none⟩
/-- STR_CNT_ORG_COLD.N (R125). -/
def STR_CNT_ORG_COLD_N : Fld := ⟨0x80158, 0x1000, 32, 0, 32, .main, .ro, .val 0, none⟩

/-! ### Block at 0xa0000 -/

/-- SPX_CTRL.EN (R151). -/
def SPX_CTRL_EN : Fld := ⟨0xa0000, 0x400, 32, 0, 1, .main, .rw, .val 1, none⟩
/-- SPX_CTRL.XEN (R151). -/
def SPX_CTRL_XEN : Fld := ⟨0xa0000, 0x400, 32, 1, 1, .main, .rw, .val 0, none⟩
/-- SPX_CTRL.RATE (R151). -/
def SPX_CTRL_RATE : Fld := ⟨0xa0000, 0x400, 32, 2, 3, .main, .rw, .val 0, (some (0, 5))⟩
/-- SPX_ASYM.MODEL (R151). -/
def SPX_ASYM_MODEL : Fld := ⟨0xa0004, 0x400, 32, 0, 1, .main, .rw, .val 0, none⟩
/-- SPX_ASYM.COEF_VALID (R151). -/
def SPX_ASYM_COEF_VALID : Fld := ⟨0xa0004, 0x400, 32, 1, 1, .main, .rw, .val 0, none⟩
/-- SPX_COEF.COEF (R151). -/
def SPX_COEF_COEF : Fld := ⟨0xa0008, 0x400, 32, 0, 32, .main, .rw, .val 0, none⟩
/-- SPX_FIX.FIX (R151). -/
def SPX_FIX_FIX : Fld := ⟨0xa000c, 0x400, 32, 0, 32, .main, .rw, .val 0, none⟩
/-- SPX_UNC.UNC (R151). -/
def SPX_UNC_UNC : Fld := ⟨0xa0010, 0x400, 32, 0, 16, .main, .rw, .val 10, none⟩
/-- SPX_STEP.STEP_THR (R151). -/
def SPX_STEP_STEP_THR : Fld := ⟨0xa0014, 0x400, 32, 0, 16, .main, .rw, .val 2000, (some (50, 65535))⟩
/-- SPX_RRT.RRT_LIMIT (R151). -/
def SPX_RRT_RRT_LIMIT : Fld := ⟨0xa0018, 0x400, 32, 0, 20, .main, .rw, .val 20000, (some (1, 1000000))⟩
/-- SPX_RTTMAX.RTT_MAX (R151). -/
def SPX_RTTMAX_RTT_MAX : Fld := ⟨0xa001c, 0x400, 32, 0, 20, .main, .rw, .val 200000, (some (1000, 1000000))⟩
/-- SPX_XPH.AVG (R151). -/
def SPX_XPH_AVG : Fld := ⟨0xa0020, 0x400, 32, 0, 4, .main, (.rwx 0xa0000 0x400 1), .val 8, (some (4, 12))⟩
/-- SPX_XPH.PHSTEP_EN (R151). -/
def SPX_XPH_PHSTEP_EN : Fld := ⟨0xa0020, 0x400, 32, 4, 1, .main, (.rwx 0xa0000 0x400 1), .val 1, none⟩
/-- SPX_STATUS.SESS (R151). -/
def SPX_STATUS_SESS : Fld := ⟨0xa0030, 0x400, 32, 0, 3, .main, .ro, .val 0, none⟩
/-- SPX_STATUS.STARVED (R151). -/
def SPX_STATUS_STARVED : Fld := ⟨0xa0030, 0x400, 32, 3, 1, .main, .ro, .val 0, none⟩
/-- SPX_STATUS.FALLBACK (R151). -/
def SPX_STATUS_FALLBACK : Fld := ⟨0xa0030, 0x400, 32, 4, 1, .main, .ro, .val 0, none⟩
/-- SPX_STATUS.RANGING (R151). -/
def SPX_STATUS_RANGING : Fld := ⟨0xa0030, 0x400, 32, 5, 1, .main, .ro, .val 0, none⟩
/-- SPX_STATUS.ROUTE_PEND (R151). -/
def SPX_STATUS_ROUTE_PEND : Fld := ⟨0xa0030, 0x400, 32, 6, 1, .main, .ro, .val 0, none⟩
/-- SPX_STATUS.RRT_HOLD (R151). -/
def SPX_STATUS_RRT_HOLD : Fld := ⟨0xa0030, 0x400, 32, 7, 1, .main, .ro, .val 0, none⟩
/-- SPX_STATUS.ASYM_UNKNOWN (R151). -/
def SPX_STATUS_ASYM_UNKNOWN : Fld := ⟨0xa0030, 0x400, 32, 8, 1, .main, .ro, .val 0, none⟩
/-- SPX_STATUS.PARTNER_COLD (R151). -/
def SPX_STATUS_PARTNER_COLD : Fld := ⟨0xa0030, 0x400, 32, 9, 1, .main, .ro, .val 0, none⟩
/-- SPX_STATUS.REC_VALID (R151). -/
def SPX_STATUS_REC_VALID : Fld := ⟨0xa0030, 0x400, 32, 10, 1, .main, .ro, .val 0, none⟩
/-- SPX_STATUS.GOV_LIMIT (R151). -/
def SPX_STATUS_GOV_LIMIT : Fld := ⟨0xa0030, 0x400, 32, 11, 1, .main, .ro, .val 0, none⟩
/-- SPX_STATUS.MODEL_MISMATCH (R151). -/
def SPX_STATUS_MODEL_MISMATCH : Fld := ⟨0xa0030, 0x400, 32, 12, 1, .main, .ro, .val 0, none⟩
/-- SPX_STATUS.RR_FAIL (R151). -/
def SPX_STATUS_RR_FAIL : Fld := ⟨0xa0030, 0x400, 32, 13, 1, .main, .ro, .val 0, none⟩
/-- SPX_STATUS.VIOL_RUN (R151). -/
def SPX_STATUS_VIOL_RUN : Fld := ⟨0xa0030, 0x400, 32, 16, 5, .main, .ro, .val 0, none⟩
/-- SPX_STATUS.EFF_RATE (R151). -/
def SPX_STATUS_EFF_RATE : Fld := ⟨0xa0030, 0x400, 32, 24, 3, .main, .ro, .val 0, none⟩
/-- SPX_EVT.SESS_UP (R151). -/
def SPX_EVT_SESS_UP : Fld := ⟨0xa0034, 0x400, 32, 0, 1, .main, .w1c, .val 0, none⟩
/-- SPX_EVT.SESS_DOWN (R151). -/
def SPX_EVT_SESS_DOWN : Fld := ⟨0xa0034, 0x400, 32, 1, 1, .main, .w1c, .val 0, none⟩
/-- SPX_EVT.DISC_FAIL (R151). -/
def SPX_EVT_DISC_FAIL : Fld := ⟨0xa0034, 0x400, 32, 2, 1, .main, .w1c, .val 0, none⟩
/-- SPX_EVT.CAPS_FAIL (R151). -/
def SPX_EVT_CAPS_FAIL : Fld := ⟨0xa0034, 0x400, 32, 3, 1, .main, .w1c, .val 0, none⟩
/-- SPX_EVT.STARVED (R151). -/
def SPX_EVT_STARVED : Fld := ⟨0xa0034, 0x400, 32, 4, 1, .main, .w1c, .val 0, none⟩
/-- SPX_EVT.FALLBACK (R151). -/
def SPX_EVT_FALLBACK : Fld := ⟨0xa0034, 0x400, 32, 5, 1, .main, .w1c, .val 0, none⟩
/-- SPX_EVT.RTT_STEP (R151). -/
def SPX_EVT_RTT_STEP : Fld := ⟨0xa0034, 0x400, 32, 6, 1, .main, .w1c, .val 0, none⟩
/-- SPX_EVT.LINK_RESTORE (R151). -/
def SPX_EVT_LINK_RESTORE : Fld := ⟨0xa0034, 0x400, 32, 7, 1, .main, .w1c, .val 0, none⟩
/-- SPX_EVT.ROUTE_RESOLVED (R151). -/
def SPX_EVT_ROUTE_RESOLVED : Fld := ⟨0xa0034, 0x400, 32, 8, 1, .main, .w1c, .val 0, none⟩
/-- SPX_EVT.RRT_HOLD (R151). -/
def SPX_EVT_RRT_HOLD : Fld := ⟨0xa0034, 0x400, 32, 9, 1, .main, .w1c, .val 0, none⟩
/-- SPX_EVT.ASYM_UNKNOWN (R151). -/
def SPX_EVT_ASYM_UNKNOWN : Fld := ⟨0xa0034, 0x400, 32, 10, 1, .main, .w1c, .val 0, none⟩
/-- SPX_EVT.PARTNER_CHANGED (R151). -/
def SPX_EVT_PARTNER_CHANGED : Fld := ⟨0xa0034, 0x400, 32, 11, 1, .main, .w1c, .val 0, none⟩
/-- SPX_EVT.RR_FAIL (R151). -/
def SPX_EVT_RR_FAIL : Fld := ⟨0xa0034, 0x400, 32, 12, 1, .main, .w1c, .val 0, none⟩
/-- SPX_EVT.VIOL (R151). -/
def SPX_EVT_VIOL : Fld := ⟨0xa0034, 0x400, 32, 13, 1, .main, .w1c, .val 0, none⟩
/-- SPX_EVT.PH_STEP (R151). -/
def SPX_EVT_PH_STEP : Fld := ⟨0xa0034, 0x400, 32, 14, 1, .main, .w1c, .val 0, none⟩
/-- SPX_PSER.PSER (R151). -/
def SPX_PSER_PSER : Fld := ⟨0xa0040, 0x400, 32, 0, 64, .main, .ro, .val 0, none⟩
/-- SPX_PINFO.PORT (R151). -/
def SPX_PINFO_PORT : Fld := ⟨0xa0048, 0x400, 32, 0, 5, .main, .ro, .val 0, none⟩
/-- SPX_PINFO.TBS (R151). -/
def SPX_PINFO_TBS : Fld := ⟨0xa0048, 0x400, 32, 5, 3, .main, .ro, .val 0, none⟩
/-- SPX_PINFO.UT (R151). -/
def SPX_PINFO_UT : Fld := ⟨0xa0048, 0x400, 32, 8, 1, .main, .ro, .val 0, none⟩
/-- SPX_PINFO.SRC (R151). -/
def SPX_PINFO_SRC : Fld := ⟨0xa0048, 0x400, 32, 9, 1, .main, .ro, .val 0, none⟩
/-- SPX_PINFO.GENL (R151). -/
def SPX_PINFO_GENL : Fld := ⟨0xa0048, 0x400, 32, 10, 8, .main, .ro, .val 0, none⟩
/-- SPX_RTT.RTT (R151). -/
def SPX_RTT_RTT : Fld := ⟨0xa0050, 0x400, 32, 0, 64, .main, .ro, .val 0, none⟩
/-- SPX_OFS.OFS (R151). -/
def SPX_OFS_OFS : Fld := ⟨0xa0058, 0x400, 32, 0, 64, .main, .ro, .val 0, none⟩
/-- SPX_ASYM_CUR.ASYM_CUR (R151). -/
def SPX_ASYM_CUR_ASYM_CUR : Fld := ⟨0xa0060, 0x400, 32, 0, 32, .main, .ro, .val 0, none⟩
/-- SPX_UNC_CUR.UNC_CUR (R151). -/
def SPX_UNC_CUR_UNC_CUR : Fld := ⟨0xa0064, 0x400, 32, 0, 32, .main, .ro, .val 0, none⟩
/-- SPX_MRATE.MRATE (R151). -/
def SPX_MRATE_MRATE : Fld := ⟨0xa0068, 0x400, 32, 0, 18, .main, .ro, .val 0, none⟩
/-- SPX_PHASE.PHASE (R151). -/
def SPX_PHASE_PHASE : Fld := ⟨0xa0070, 0x400, 32, 0, 64, .main, .ro, .val 0, none⟩
/-- SPX_CNT_CLR.CLR (R151). -/
def SPX_CNT_CLR_CLR : Fld := ⟨0xa007c, 0x400, 32, 0, 1, .main, .wo, .val 0, none⟩
/-- SPX_CNT_MARK_TX.N (R151). -/
def SPX_CNT_MARK_TX_N : Fld := ⟨0xa0100, 0x400, 32, 0, 32, .main, .ro, .val 0, none⟩
/-- SPX_CNT_MARK_RX.N (R151). -/
def SPX_CNT_MARK_RX_N : Fld := ⟨0xa0104, 0x400, 32, 0, 32, .main, .ro, .val 0, none⟩
/-- SPX_CNT_MEAS.N (R151). -/
def SPX_CNT_MEAS_N : Fld := ⟨0xa0108, 0x400, 32, 0, 32, .main, .ro, .val 0, none⟩
/-- SPX_CNT_REC.N (R151). -/
def SPX_CNT_REC_N : Fld := ⟨0xa010c, 0x400, 32, 0, 32, .main, .ro, .val 0, none⟩
/-- SPX_CNT_NACK_TX.N (R151). -/
def SPX_CNT_NACK_TX_N : Fld := ⟨0xa0110, 0x400, 32, 0, 32, .main, .ro, .val 0, none⟩
/-- SPX_CNT_NACK_RX.N (R151). -/
def SPX_CNT_NACK_RX_N : Fld := ⟨0xa0114, 0x400, 32, 0, 32, .main, .ro, .val 0, none⟩
/-- SPX_CNT_V_GAP.N (R151). -/
def SPX_CNT_V_GAP_N : Fld := ⟨0xa0118, 0x400, 32, 0, 32, .main, .ro, .val 0, none⟩
/-- SPX_CNT_V_FRAG.N (R151). -/
def SPX_CNT_V_FRAG_N : Fld := ⟨0xa011c, 0x400, 32, 0, 32, .main, .ro, .val 0, none⟩
/-- SPX_CNT_V_UNK.N (R151). -/
def SPX_CNT_V_UNK_N : Fld := ⟨0xa0120, 0x400, 32, 0, 32, .main, .ro, .val 0, none⟩
/-- SPX_CNT_V_IPG.N (R151). -/
def SPX_CNT_V_IPG_N : Fld := ⟨0xa0124, 0x400, 32, 0, 32, .main, .ro, .val 0, none⟩
/-- SPX_CNT_V_PTP.N (R151). -/
def SPX_CNT_V_PTP_N : Fld := ⟨0xa0128, 0x400, 32, 0, 32, .main, .ro, .val 0, none⟩
/-- SPX_CNT_V_DISC.N (R151). -/
def SPX_CNT_V_DISC_N : Fld := ⟨0xa012c, 0x400, 32, 0, 32, .main, .ro, .val 0, none⟩
/-- SPX_CNT_STALE.N (R151). -/
def SPX_CNT_STALE_N : Fld := ⟨0xa0130, 0x400, 32, 0, 32, .main, .ro, .val 0, none⟩
/-- SPX_CNT_DISC_TX.N (R151). -/
def SPX_CNT_DISC_TX_N : Fld := ⟨0xa0134, 0x400, 32, 0, 32, .main, .ro, .val 0, none⟩
/-- SPX_CNT_DISC_RX.N (R151). -/
def SPX_CNT_DISC_RX_N : Fld := ⟨0xa0138, 0x400, 32, 0, 32, .main, .ro, .val 0, none⟩
/-- SPX_CNT_DISC_NOCELL.N (R151). -/
def SPX_CNT_DISC_NOCELL_N : Fld := ⟨0xa013c, 0x400, 32, 0, 32, .main, .ro, .val 0, none⟩
/-- SPX_CNT_RTT_STEPS.N (R151). -/
def SPX_CNT_RTT_STEPS_N : Fld := ⟨0xa0140, 0x400, 32, 0, 32, .main, .ro, .val 0, none⟩

/-! ### Block at 0xc0000 -/

/-- AT_CTRL.XEN (R260). -/
def AT_CTRL_XEN : Fld := ⟨0xc0000, 0x0, 1, 0, 1, .aon, .rw, .val 0, none⟩
/-- AT_CTRL.LEARN_EN (R260). -/
def AT_CTRL_LEARN_EN : Fld := ⟨0xc0000, 0x0, 1, 1, 1, .aon, .rw, .val 1, none⟩
/-- AT_CTRL.MIRROR_EN (R260). -/
def AT_CTRL_MIRROR_EN : Fld := ⟨0xc0000, 0x0, 1, 2, 1, .aon, .rw, .val 1, none⟩
/-- AT_CTRL.WAKE_PULSE (R260). -/
def AT_CTRL_WAKE_PULSE : Fld := ⟨0xc0000, 0x0, 1, 3, 1, .aon, .rw, .val 0, none⟩
/-- AT_CTRL.DISC_EN (R260). -/
def AT_CTRL_DISC_EN : Fld := ⟨0xc0000, 0x0, 1, 4, 1, .aon, .rw, .val 1, none⟩
/-- AT_STAT.SRC (R260). -/
def AT_STAT_SRC : Fld := ⟨0xc0004, 0x0, 1, 0, 1, .aon, .ro, .val 0, none⟩
/-- AT_STAT.VBAT_LOW (R260). -/
def AT_STAT_VBAT_LOW : Fld := ⟨0xc0004, 0x0, 1, 1, 1, .aon, .ro, .val 0, none⟩
/-- AT_STAT.TIME_VALID (R260). -/
def AT_STAT_TIME_VALID : Fld := ⟨0xc0004, 0x0, 1, 2, 1, .aon, .ro, .val 0, none⟩
/-- AT_STAT.CELL_LOSS (R260). -/
def AT_STAT_CELL_LOSS : Fld := ⟨0xc0004, 0x0, 1, 3, 1, .aon, .ro, .val 1, none⟩
/-- AT_STAT.APOR (R260). -/
def AT_STAT_APOR : Fld := ⟨0xc0004, 0x0, 1, 4, 1, .aon, .ro, .val 1, none⟩
/-- AT_STAT.TBL_VALID (R260). -/
def AT_STAT_TBL_VALID : Fld := ⟨0xc0004, 0x0, 1, 5, 1, .aon, .ro, .val 0, none⟩
/-- AT_STAT.WAKE (R260). -/
def AT_STAT_WAKE : Fld := ⟨0xc0004, 0x0, 1, 6, 1, .aon, .w1c, .val 0, none⟩
/-- AT_STAT.LEAP61 (R260). -/
def AT_STAT_LEAP61 : Fld := ⟨0xc0004, 0x0, 1, 7, 1, .aon, .ro, .val 0, none⟩
/-- AT_STAT.LEAP59 (R260). -/
def AT_STAT_LEAP59 : Fld := ⟨0xc0004, 0x0, 1, 8, 1, .aon, .ro, .val 0, none⟩
/-- AT_STAT.CAL_RANGE (R260). -/
def AT_STAT_CAL_RANGE : Fld := ⟨0xc0004, 0x0, 1, 9, 1, .aon, .ro, .val 0, none⟩
/-- AT_STAT.UTC_PEND (R260). -/
def AT_STAT_UTC_PEND : Fld := ⟨0xc0004, 0x0, 1, 10, 1, .aon, .ro, .val 0, none⟩
/-- AT_STAT.MAIN (R260). -/
def AT_STAT_MAIN : Fld := ⟨0xc0004, 0x0, 1, 11, 1, .aon, .ro, .val 0, none⟩
/-- AT_TAI.TAI (R260). -/
def AT_TAI_TAI : Fld := ⟨0xc0010, 0x0, 1, 0, 48, .aon, .ro, .val 0, none⟩
/-- AT_SUBSEC.CYC (R260). -/
def AT_SUBSEC_CYC : Fld := ⟨0xc0018, 0x0, 1, 0, 15, .aon, .ro, .val 0, none⟩
/-- AT_CAL_DATE.DAY (R260). -/
def AT_CAL_DATE_DAY : Fld := ⟨0xc0020, 0x0, 1, 0, 5, .aon, .ro, .val 0, none⟩
/-- AT_CAL_DATE.WDAY (R260). -/
def AT_CAL_DATE_WDAY : Fld := ⟨0xc0020, 0x0, 1, 5, 3, .aon, .ro, .val 0, none⟩
/-- AT_CAL_DATE.MONTH (R260). -/
def AT_CAL_DATE_MONTH : Fld := ⟨0xc0020, 0x0, 1, 8, 4, .aon, .ro, .val 0, none⟩
/-- AT_CAL_DATE.YEAR (R260). -/
def AT_CAL_DATE_YEAR : Fld := ⟨0xc0020, 0x0, 1, 16, 12, .aon, .ro, .val 0, none⟩
/-- AT_CAL_TIME.SEC (R260). -/
def AT_CAL_TIME_SEC : Fld := ⟨0xc0024, 0x0, 1, 0, 6, .aon, .ro, .val 0, none⟩
/-- AT_CAL_TIME.MIN (R260). -/
def AT_CAL_TIME_MIN : Fld := ⟨0xc0024, 0x0, 1, 8, 6, .aon, .ro, .val 0, none⟩
/-- AT_CAL_TIME.HOUR (R260). -/
def AT_CAL_TIME_HOUR : Fld := ⟨0xc0024, 0x0, 1, 16, 5, .aon, .ro, .val 0, none⟩
/-- AT_UTC.OFS (R260). -/
def AT_UTC_OFS : Fld := ⟨0xc0028, 0x0, 1, 0, 16, .aon, .ro, .val 0, none⟩
/-- AT_UTC.NEXT (R260). -/
def AT_UTC_NEXT : Fld := ⟨0xc0028, 0x0, 1, 16, 16, .aon, .ro, .val 0, none⟩
/-- AT_UTC_AT.AT (R260). -/
def AT_UTC_AT_AT : Fld := ⟨0xc002c, 0x0, 1, 0, 48, .aon, .ro, .val 0, none⟩
/-- AT_TRIM.TRIM (R260). -/
def AT_TRIM_TRIM : Fld := ⟨0xc0040, 0x0, 1, 0, 16, .aon, (.rwx 0xc0000 0x0 0), .val 0, none⟩
/-- AT_FCURVE.F0 (R260). -/
def AT_FCURVE_F0 : Fld := ⟨0xc0044, 0x0, 1, 0, 16, .aon, .ro, .fuse 9, none⟩
/-- AT_FCURVE.T0 (R260). -/
def AT_FCURVE_T0 : Fld := ⟨0xc0044, 0x0, 1, 16, 8, .aon, .ro, .fuse 10, none⟩
/-- AT_FCURVE2.K (R260). -/
def AT_FCURVE2_K : Fld := ⟨0xc0048, 0x0, 1, 0, 16, .aon, .ro, .fuse 11, none⟩
/-- AT_TEMP.TEMP (R260). -/
def AT_TEMP_TEMP : Fld := ⟨0xc004c, 0x0, 1, 0, 12, .aon, .ro, .val 0, none⟩
/-- AT_AL_CTRL.EN (R260). -/
def AT_AL_CTRL_EN : Fld := ⟨0xc0080, 0x10, 4, 0, 1, .aon, .rw, .val 0, none⟩
/-- AT_AL_CTRL.RESP (R260). -/
def AT_AL_CTRL_RESP : Fld := ⟨0xc0080, 0x10, 4, 8, 9, .aon, .rw, .val 0, none⟩
/-- AT_AL_CTRL.ACT_IDX (R260). -/
def AT_AL_CTRL_ACT_IDX : Fld := ⟨0xc0080, 0x10, 4, 18, 14, .aon, .rw, .val 0, none⟩
/-- AT_AL_TIME.TIME (R260). -/
def AT_AL_TIME_TIME : Fld := ⟨0xc0084, 0x10, 4, 0, 48, .aon, .rw, .val 0, none⟩
/-- AT_AL_REP.REP (R260). -/
def AT_AL_REP_REP : Fld := ⟨0xc008c, 0x10, 4, 0, 32, .aon, .rw, .val 0, none⟩
/-- AT_AL_STAT.FIRED (R260). -/
def AT_AL_STAT_FIRED : Fld := ⟨0xc00c0, 0x0, 1, 0, 4, .aon, .w1c, .val 0, none⟩
/-- AT_AL_STAT.PAST (R260). -/
def AT_AL_STAT_PAST : Fld := ⟨0xc00c0, 0x0, 1, 4, 4, .aon, .w1c, .val 0, none⟩
/-- AT_KEY.VALID (R260). -/
def AT_KEY_VALID : Fld := ⟨0xc00d0, 0x4, 4, 0, 1, .aon, .ro, .val 0, none⟩
/-- AT_KEY.KEYID (R260). -/
def AT_KEY_KEYID : Fld := ⟨0xc00d0, 0x4, 4, 8, 8, .aon, .ro, .val 0, none⟩
/-- AT_KEY.KCV (R260). -/
def AT_KEY_KCV : Fld := ⟨0xc00d0, 0x4, 4, 16, 16, .aon, .ro, .val 0, none⟩
/-- AT_LOG_PTR.HEAD (R260). -/
def AT_LOG_PTR_HEAD : Fld := ⟨0xc00e0, 0x0, 1, 0, 6, .aon, .ro, .val 0, none⟩
/-- AT_LOG_PTR.NEW (R260). -/
def AT_LOG_PTR_NEW : Fld := ⟨0xc00e0, 0x0, 1, 8, 7, .aon, .ro, .val 0, none⟩
/-- AT_LOG_PTR.OVF (R260). -/
def AT_LOG_PTR_OVF : Fld := ⟨0xc00e0, 0x0, 1, 16, 16, .aon, .ro, .val 0, none⟩
/-- AT_RETAIN.LOGFAIL (R260). -/
def AT_RETAIN_LOGFAIL : Fld := ⟨0xc00e4, 0x0, 1, 0, 1, .aon, .w1c, .val 0, none⟩
/-- AT_RETAIN.COLLAPSE (R260). -/
def AT_RETAIN_COLLAPSE : Fld := ⟨0xc00e4, 0x0, 1, 1, 1, .aon, .w1c, .val 0, none⟩
/-- AT_RETAIN.TBL_RESTORED (R260). -/
def AT_RETAIN_TBL_RESTORED : Fld := ⟨0xc00e4, 0x0, 1, 2, 1, .aon, .w1c, .val 0, none⟩
/-- AT_RETAIN.KEY_ERR (R260). -/
def AT_RETAIN_KEY_ERR : Fld := ⟨0xc00e4, 0x0, 1, 3, 1, .aon, .w1c, .val 0, none⟩
/-- AT_RETAIN.UNL_USED (R260). -/
def AT_RETAIN_UNL_USED : Fld := ⟨0xc00e4, 0x0, 1, 4, 1, .aon, .w1c, .val 0, none⟩
/-- AT_DEFER.INT (R260). -/
def AT_DEFER_INT : Fld := ⟨0xc00e8, 0x0, 1, 0, 1, .aon, .ro, .val 0, none⟩
/-- AT_DEFER.RESET (R260). -/
def AT_DEFER_RESET : Fld := ⟨0xc00e8, 0x0, 1, 1, 1, .aon, .ro, .val 0, none⟩
/-- AT_DEFER.TAINT (R260). -/
def AT_DEFER_TAINT : Fld := ⟨0xc00e8, 0x0, 1, 2, 1, .aon, .ro, .val 0, none⟩
/-- AT_DEFER.ACT (R260). -/
def AT_DEFER_ACT : Fld := ⟨0xc00e8, 0x0, 1, 3, 1, .aon, .ro, .val 0, none⟩
/-- AT_DEFER.MOOT (R260). -/
def AT_DEFER_MOOT : Fld := ⟨0xc00e8, 0x0, 1, 4, 1, .aon, .ro, .val 0, none⟩
/-- AT_DEFER.SRC (R260). -/
def AT_DEFER_SRC : Fld := ⟨0xc00e8, 0x0, 1, 16, 9, .aon, .ro, .val 0, none⟩
/-- AT_DEFER_LAST.DEFER_LAST (R260). -/
def AT_DEFER_LAST_DEFER_LAST : Fld := ⟨0xc00ec, 0x0, 1, 0, 32, .main, .ro, .val 0, none⟩
/-- AT_OUTAGE.OUTAGE (R260). -/
def AT_OUTAGE_OUTAGE : Fld := ⟨0xc00f0, 0x0, 1, 0, 32, .main, .ro, .val 0, none⟩
/-- AT_TBL.E (R239). -/
def AT_TBL_E : Fld := ⟨0xc0100, 0x4, 64, 0, 20, .aon, .ro, .val 0, none⟩
/-- AT_TBL.N (R239). -/
def AT_TBL_N : Fld := ⟨0xc0100, 0x4, 64, 20, 8, .aon, .ro, .val 0, none⟩
/-- AT_TBL.LEARNED (R239). -/
def AT_TBL_LEARNED : Fld := ⟨0xc0100, 0x4, 64, 28, 1, .aon, .ro, .val 0, none⟩
/-- AT_LOG.ENTRY (R257). -/
def AT_LOG_ENTRY : Fld := ⟨0xc0200, 0x8, 64, 0, 64, .aon, .ro, .val 0, none⟩

/-! ### Block at 0xd0000 -/

/-- SQ_CTRL.XEN (R285). -/
def SQ_CTRL_XEN : Fld := ⟨0xd0000, 0x0, 1, 0, 1, .stby, .rw, .val 0, none⟩
/-- SQ_CTRL.BTN_OFF (R285). -/
def SQ_CTRL_BTN_OFF : Fld := ⟨0xd0000, 0x0, 1, 1, 1, .stby, .ro, .val 0, none⟩
/-- SQ_CTRL.AUTO_ON (R285). -/
def SQ_CTRL_AUTO_ON : Fld := ⟨0xd0000, 0x0, 1, 2, 1, .stby, .ro, .val 0, none⟩
/-- SQ_CTRL.PROG (R285). -/
def SQ_CTRL_PROG : Fld := ⟨0xd0000, 0x0, 1, 3, 2, .stby, .ro, .val 0, none⟩
/-- SQ_STATUS.STATE (R285). -/
def SQ_STATUS_STATE : Fld := ⟨0xd0004, 0x0, 1, 0, 8, .stby, .ro, .val 0, none⟩
/-- SQ_STATUS.SEQ (R285). -/
def SQ_STATUS_SEQ : Fld := ⟨0xd0004, 0x0, 1, 8, 3, .stby, .ro, .val 0, none⟩
/-- SQ_STATUS.POS (R285). -/
def SQ_STATUS_POS : Fld := ⟨0xd0004, 0x0, 1, 11, 4, .stby, .ro, .val 0, none⟩
/-- SQ_STATUS.CASC_ERR (R285). -/
def SQ_STATUS_CASC_ERR : Fld := ⟨0xd0004, 0x0, 1, 15, 1, .stby, .ro, .val 0, none⟩
/-- SQ_STATUS.PROG_ERR (R285). -/
def SQ_STATUS_PROG_ERR : Fld := ⟨0xd0004, 0x0, 1, 16, 1, .stby, .ro, .val 0, none⟩
/-- SQ_STATUS.RETRY (R285). -/
def SQ_STATUS_RETRY : Fld := ⟨0xd0004, 0x0, 1, 17, 4, .stby, .ro, .val 0, none⟩
/-- SQ_STATUS.OFF_PEND (R285). -/
def SQ_STATUS_OFF_PEND : Fld := ⟨0xd0004, 0x0, 1, 21, 1, .stby, .ro, .val 0, none⟩
/-- SQ_STATUS.ON_PEND (R285). -/
def SQ_STATUS_ON_PEND : Fld := ⟨0xd0004, 0x0, 1, 22, 1, .stby, .ro, .val 0, none⟩
/-- SQ_STATUS.LOCK_PEND (R285). -/
def SQ_STATUS_LOCK_PEND : Fld := ⟨0xd0004, 0x0, 1, 23, 1, .stby, .ro, .val 0, none⟩
/-- SQ_STATUS.SD_LATCH (R285). -/
def SQ_STATUS_SD_LATCH : Fld := ⟨0xd0004, 0x0, 1, 24, 1, .stby, .ro, .val 0, none⟩
/-- SQ_STATUS.ACK_RUN (R285). -/
def SQ_STATUS_ACK_RUN : Fld := ⟨0xd0004, 0x0, 1, 25, 1, .stby, .ro, .val 0, none⟩
/-- SQ_STATUS.ACKED (R285). -/
def SQ_STATUS_ACKED : Fld := ⟨0xd0004, 0x0, 1, 26, 1, .stby, .ro, .val 0, none⟩
/-- SQ_STATUS.COLLAPSED (R285). -/
def SQ_STATUS_COLLAPSED : Fld := ⟨0xd0004, 0x0, 1, 27, 1, .stby, .ro, .val 0, none⟩
/-- SQ_STATUS.CORE_GOOD (R285). -/
def SQ_STATUS_CORE_GOOD : Fld := ⟨0xd0004, 0x0, 1, 28, 1, .stby, .ro, .val 0, none⟩
/-- SQ_EVT.UP_START (R285). -/
def SQ_EVT_UP_START : Fld := ⟨0xd0008, 0x0, 1, 0, 1, .stby, .w1c, .val 0, none⟩
/-- SQ_EVT.UP_DONE (R285). -/
def SQ_EVT_UP_DONE : Fld := ⟨0xd0008, 0x0, 1, 1, 1, .stby, .w1c, .val 0, none⟩
/-- SQ_EVT.DOWN_START (R285). -/
def SQ_EVT_DOWN_START : Fld := ⟨0xd0008, 0x0, 1, 2, 1, .stby, .w1c, .val 0, none⟩
/-- SQ_EVT.REVERSED (R285). -/
def SQ_EVT_REVERSED : Fld := ⟨0xd0008, 0x0, 1, 3, 1, .stby, .w1c, .val 0, none⟩
/-- SQ_EVT.DOWN_DONE (R285). -/
def SQ_EVT_DOWN_DONE : Fld := ⟨0xd0008, 0x0, 1, 4, 1, .stby, .w1c, .val 0, none⟩
/-- SQ_EVT.FAIL_C (R285). -/
def SQ_EVT_FAIL_C : Fld := ⟨0xd0008, 0x0, 1, 5, 1, .stby, .w1c, .val 0, none⟩
/-- SQ_EVT.FAIL_P (R285). -/
def SQ_EVT_FAIL_P : Fld := ⟨0xd0008, 0x0, 1, 6, 1, .stby, .w1c, .val 0, none⟩
/-- SQ_EVT.LOCKOUT (R285). -/
def SQ_EVT_LOCKOUT : Fld := ⟨0xd0008, 0x0, 1, 7, 1, .stby, .w1c, .val 0, none⟩
/-- SQ_EVT.OFF_TO (R285). -/
def SQ_EVT_OFF_TO : Fld := ⟨0xd0008, 0x0, 1, 8, 1, .stby, .w1c, .val 0, none⟩
/-- SQ_EVT.PREBIAS (R285). -/
def SQ_EVT_PREBIAS : Fld := ⟨0xd0008, 0x0, 1, 9, 1, .stby, .w1c, .val 0, none⟩
/-- SQ_EVT.BTN_SHORT (R285). -/
def SQ_EVT_BTN_SHORT : Fld := ⟨0xd0008, 0x0, 1, 10, 1, .stby, .w1c, .val 0, none⟩
/-- SQ_EVT.BTN_LONG (R285). -/
def SQ_EVT_BTN_LONG : Fld := ⟨0xd0008, 0x0, 1, 11, 1, .stby, .w1c, .val 0, none⟩
/-- SQ_EVT.ACK_TIMEOUT (R285). -/
def SQ_EVT_ACK_TIMEOUT : Fld := ⟨0xd0008, 0x0, 1, 12, 1, .stby, .w1c, .val 0, none⟩
/-- SQ_EVT.MR (R285). -/
def SQ_EVT_MR : Fld := ⟨0xd0008, 0x0, 1, 13, 1, .stby, .w1c, .val 0, none⟩
/-- SQ_EVT.ON_REFUSED (R285). -/
def SQ_EVT_ON_REFUSED : Fld := ⟨0xd0008, 0x0, 1, 14, 1, .stby, .w1c, .val 0, none⟩
/-- SQ_EVT.CASC_ERR (R285). -/
def SQ_EVT_CASC_ERR : Fld := ⟨0xd0008, 0x0, 1, 15, 1, .stby, .w1c, .val 0, none⟩
/-- SQ_TIME0.PGSTAB (R285). -/
def SQ_TIME0_PGSTAB : Fld := ⟨0xd0010, 0x0, 1, 0, 8, .stby, (.rwx 0xd0000 0x0 0), .val 20, (some (1, 255))⟩
/-- SQ_TIME0.PGTO (R285). -/
def SQ_TIME0_PGTO : Fld := ⟨0xd0010, 0x0, 1, 16, 10, .stby, (.rwx 0xd0000 0x0 0), .val 50, (some (1, 1000))⟩
/-- SQ_TIME1.PGDROP (R285). -/
def SQ_TIME1_PGDROP : Fld := ⟨0xd0014, 0x0, 1, 0, 10, .stby, (.rwx 0xd0000 0x0 0), .val 20, (some (1, 1000))⟩
/-- SQ_TIME1.CHAT_MAX (R285). -/
def SQ_TIME1_CHAT_MAX : Fld := ⟨0xd0014, 0x0, 1, 16, 8, .stby, (.rwx 0xd0000 0x0 0), .val 8, (some (1, 255))⟩
/-- SQ_TIME1.SQ_RETRY (R285). -/
def SQ_TIME1_SQ_RETRY : Fld := ⟨0xd0014, 0x0, 1, 24, 3, .stby, (.rwx 0xd0000 0x0 0), .val 3, none⟩
/-- SQ_TIME2.OFFMIN (R285). -/
def SQ_TIME2_OFFMIN : Fld := ⟨0xd0018, 0x0, 1, 0, 14, .stby, (.rwx 0xd0000 0x0 0), .val 250, (some (1, 10000))⟩
/-- SQ_TIME2.OFFTO (R285). -/
def SQ_TIME2_OFFTO : Fld := ⟨0xd0018, 0x0, 1, 16, 10, .stby, (.rwx 0xd0000 0x0 0), .val 100, (some (1, 1000))⟩
/-- SQ_TIME3.ACK (R285). -/
def SQ_TIME3_ACK : Fld := ⟨0xd001c, 0x0, 1, 0, 8, .stby, (.rwx 0xd0000 0x0 0), .val 30, (some (1, 255))⟩
/-- SQ_TIME3.LONG (R285). -/
def SQ_TIME3_LONG : Fld := ⟨0xd001c, 0x0, 1, 8, 4, .stby, (.rwx 0xd0000 0x0 0), .val 4, (some (1, 15))⟩
/-- SQ_TIME3.RST (R285). -/
def SQ_TIME3_RST : Fld := ⟨0xd001c, 0x0, 1, 16, 10, .stby, (.rwx 0xd0000 0x0 0), .val 200, (some (1, 1000))⟩
/-- SQ_FAIL.CH (R285). -/
def SQ_FAIL_CH : Fld := ⟨0xd0020, 0x0, 1, 0, 5, .stby, .ro, .val 0, none⟩
/-- SQ_FAIL.CAUSE (R285). -/
def SQ_FAIL_CAUSE : Fld := ⟨0xd0020, 0x0, 1, 5, 3, .stby, .ro, .val 0, none⟩
/-- SQ_FAIL.STATE (R285). -/
def SQ_FAIL_STATE : Fld := ⟨0xd0020, 0x0, 1, 8, 8, .stby, .ro, .val 0, none⟩
/-- SQ_FAIL.CLASS (R285). -/
def SQ_FAIL_CLASS : Fld := ⟨0xd0020, 0x0, 1, 16, 1, .stby, .ro, .val 0, none⟩
/-- SQ_RAIL_CFG.ON_STEP (R286). -/
def SQ_RAIL_CFG_ON_STEP : Fld := ⟨0xd0100, 0x10, 24, 0, 4, .stby, .ro, .val 0, none⟩
/-- SQ_RAIL_CFG.OFF_STEP (R286). -/
def SQ_RAIL_CFG_OFF_STEP : Fld := ⟨0xd0100, 0x10, 24, 4, 4, .stby, .ro, .val 0, none⟩
/-- SQ_RAIL_CFG.CLASS (R286). -/
def SQ_RAIL_CFG_CLASS : Fld := ⟨0xd0100, 0x10, 24, 8, 1, .stby, .ro, .val 0, none⟩
/-- SQ_RAIL_CFG.CORE (R286). -/
def SQ_RAIL_CFG_CORE : Fld := ⟨0xd0100, 0x10, 24, 9, 1, .stby, .ro, .val 0, none⟩
/-- SQ_RAIL_CFG.OD (R286). -/
def SQ_RAIL_CFG_OD : Fld := ⟨0xd0100, 0x10, 24, 10, 1, .stby, .ro, .val 0, none⟩
/-- SQ_RAIL_CFG.NOSENSE (R286). -/
def SQ_RAIL_CFG_NOSENSE : Fld := ⟨0xd0100, 0x10, 24, 11, 1, .stby, .ro, .val 0, none⟩
/-- SQ_RAIL_CFG.VALID (R286). -/
def SQ_RAIL_CFG_VALID : Fld := ⟨0xd0100, 0x10, 24, 12, 1, .stby, .ro, .val 0, none⟩
/-- SQ_RAIL_THR.GOOD_THR (R286). -/
def SQ_RAIL_THR_GOOD_THR : Fld := ⟨0xd0104, 0x10, 24, 0, 10, .stby, (.rwx 0xd0000 0x0 0), .val 0, none⟩
/-- SQ_RAIL_THR.OFF_THR (R286). -/
def SQ_RAIL_THR_OFF_THR : Fld := ⟨0xd0104, 0x10, 24, 16, 10, .stby, (.rwx 0xd0000 0x0 0), .val 0, none⟩
/-- SQ_RAIL_DEP.DEP (R286). -/
def SQ_RAIL_DEP_DEP : Fld := ⟨0xd0108, 0x10, 24, 0, 24, .stby, .ro, .val 0, none⟩
/-- SQ_RAIL_ST.ST (R286). -/
def SQ_RAIL_ST_ST : Fld := ⟨0xd010c, 0x10, 24, 0, 3, .stby, .ro, .val 0, none⟩
/-- SQ_RAIL_ST.GOOD_CMP (R286). -/
def SQ_RAIL_ST_GOOD_CMP : Fld := ⟨0xd010c, 0x10, 24, 3, 1, .stby, .ro, .val 0, none⟩
/-- SQ_RAIL_ST.OFF_CMP (R286). -/
def SQ_RAIL_ST_OFF_CMP : Fld := ⟨0xd010c, 0x10, 24, 4, 1, .stby, .ro, .val 0, none⟩
/-- SQ_RAIL_ST.CAUSE (R286). -/
def SQ_RAIL_ST_CAUSE : Fld := ⟨0xd010c, 0x10, 24, 5, 3, .stby, .ro, .val 0, none⟩
/-- SQ_RAIL_ST.HELD (R286). -/
def SQ_RAIL_ST_HELD : Fld := ⟨0xd010c, 0x10, 24, 8, 1, .stby, .ro, .val 0, none⟩
/-- SQ_RAIL_ST.GLITCH (R286). -/
def SQ_RAIL_ST_GLITCH : Fld := ⟨0xd010c, 0x10, 24, 16, 8, .stby, .ro, .val 0, none⟩
/-- SQ_RAIL_ST.CHAT (R286). -/
def SQ_RAIL_ST_CHAT : Fld := ⟨0xd010c, 0x10, 24, 24, 8, .stby, .ro, .val 0, none⟩

/-! ### Block at 0xe0000 -/

/-- MON_CTRL.XEN (R305). -/
def MON_CTRL_XEN : Fld := ⟨0xe0000, 0x0, 1, 0, 1, .stby, .rw, .val 0, none⟩
/-- MON_CTRL.GOV_EN (R305). -/
def MON_CTRL_GOV_EN : Fld := ⟨0xe0000, 0x0, 1, 1, 1, .stby, .rw, .val 1, none⟩
/-- MON_CTRL.EV_RING (R305). -/
def MON_CTRL_EV_RING : Fld := ⟨0xe0000, 0x0, 1, 2, 2, .stby, .rw, .val 0, none⟩
/-- MON_STATUS.ACTIVE (R305). -/
def MON_STATUS_ACTIVE : Fld := ⟨0xe0004, 0x0, 1, 0, 8, .stby, .ro, .val 0, none⟩
/-- MON_STATUS.SHED_LVL (R305). -/
def MON_STATUS_SHED_LVL : Fld := ⟨0xe0004, 0x0, 1, 8, 3, .stby, .ro, .val 0, none⟩
/-- MON_STATUS.JT_LVL (R305). -/
def MON_STATUS_JT_LVL : Fld := ⟨0xe0004, 0x0, 1, 11, 2, .stby, .ro, .val 0, none⟩
/-- MON_STATUS.UNLOCKED (R305). -/
def MON_STATUS_UNLOCKED : Fld := ⟨0xe0004, 0x0, 1, 13, 1, .stby, .ro, .val 0, none⟩
/-- MON_STATUS.UNL_AGENT (R305). -/
def MON_STATUS_UNL_AGENT : Fld := ⟨0xe0004, 0x0, 1, 14, 1, .stby, .ro, .val 0, none⟩
/-- MON_STATUS.UNLOCK_FAILS (R305). -/
def MON_STATUS_UNLOCK_FAILS : Fld := ⟨0xe0004, 0x0, 1, 15, 4, .stby, .ro, .val 0, none⟩
/-- MON_EVT.CONF (R305). -/
def MON_EVT_CONF : Fld := ⟨0xe0008, 0x0, 1, 0, 1, .stby, .w1c, .val 0, none⟩
/-- MON_EVT.ST_PASS (R305). -/
def MON_EVT_ST_PASS : Fld := ⟨0xe0008, 0x0, 1, 1, 1, .stby, .w1c, .val 0, none⟩
/-- MON_EVT.ST_FAIL (R305). -/
def MON_EVT_ST_FAIL : Fld := ⟨0xe0008, 0x0, 1, 2, 1, .stby, .w1c, .val 0, none⟩
/-- MON_EVT.JT_WARN (R305). -/
def MON_EVT_JT_WARN : Fld := ⟨0xe0008, 0x0, 1, 3, 1, .stby, .w1c, .val 0, none⟩
/-- MON_EVT.JT_SHED (R305). -/
def MON_EVT_JT_SHED : Fld := ⟨0xe0008, 0x0, 1, 4, 1, .stby, .w1c, .val 0, none⟩
/-- MON_EVT.GOV_SHED (R305). -/
def MON_EVT_GOV_SHED : Fld := ⟨0xe0008, 0x0, 1, 5, 1, .stby, .w1c, .val 0, none⟩
/-- MON_EVT.GOV_RESTORE (R305). -/
def MON_EVT_GOV_RESTORE : Fld := ⟨0xe0008, 0x0, 1, 6, 1, .stby, .w1c, .val 0, none⟩
/-- MON_EVT.GOV_OVER (R305). -/
def MON_EVT_GOV_OVER : Fld := ⟨0xe0008, 0x0, 1, 7, 1, .stby, .w1c, .val 0, none⟩
/-- MON_EVT.UNLOCK_FAIL (R305). -/
def MON_EVT_UNLOCK_FAIL : Fld := ⟨0xe0008, 0x0, 1, 8, 1, .stby, .w1c, .val 0, none⟩
/-- MON_EVT.STICKY_REFUSED (R305). -/
def MON_EVT_STICKY_REFUSED : Fld := ⟨0xe0008, 0x0, 1, 9, 1, .stby, .w1c, .val 0, none⟩
/-- MON_EVT.RAISED (R305). -/
def MON_EVT_RAISED : Fld := ⟨0xe0008, 0x0, 1, 10, 1, .stby, .w1c, .val 0, none⟩
/-- MON_UNLOCK.KEY (R305). -/
def MON_UNLOCK_KEY : Fld := ⟨0xe000c, 0x0, 1, 0, 16, .stby, .wo, .val 0, none⟩
/-- MON_STICKY.MS (R305). -/
def MON_STICKY_MS : Fld := ⟨0xe0010, 0x0, 1, 0, 8, .sticky, .w1c, .val 255, none⟩
/-- MON_STICKY.AL (R305). -/
def MON_STICKY_AL : Fld := ⟨0xe0010, 0x0, 1, 8, 4, .sticky, .w1c, .val 15, none⟩
/-- MON_AT_STAT.CAL_INV (R305). -/
def MON_AT_STAT_CAL_INV : Fld := ⟨0xe0014, 0x0, 1, 0, 1, .aon, .ro, .val 0, none⟩
/-- MON_AT_STAT.RC_RUN (R305). -/
def MON_AT_STAT_RC_RUN : Fld := ⟨0xe0014, 0x0, 1, 1, 1, .aon, .ro, .val 0, none⟩
/-- MON_JTEMP.JTEMP (R305). -/
def MON_JTEMP_JTEMP : Fld := ⟨0xe0018, 0x0, 1, 0, 12, .stby, .ro, .val 0, none⟩
/-- MON_JTEMP.JMAX (R305). -/
def MON_JTEMP_JMAX : Fld := ⟨0xe0018, 0x0, 1, 16, 12, .stby, .ro, .val 0, none⟩
/-- MON_JTEMP.JMAX_CLR (R305). -/
def MON_JTEMP_JMAX_CLR : Fld := ⟨0xe0018, 0x0, 1, 31, 1, .stby, .wo, .val 0, none⟩
/-- MON_GOV_STAT.P (R305). -/
def MON_GOV_STAT_P : Fld := ⟨0xe0020, 0x0, 1, 0, 15, .stby, .ro, .val 0, none⟩
/-- MON_GOV_STAT.OVER (R305). -/
def MON_GOV_STAT_OVER : Fld := ⟨0xe0020, 0x0, 1, 15, 1, .stby, .ro, .val 0, none⟩
/-- MON_GOV_STAT.USED (R305). -/
def MON_GOV_STAT_USED : Fld := ⟨0xe0020, 0x0, 1, 16, 16, .stby, .ro, .val 0, none⟩
/-- MON_GOV_THR.SHED_AT (R305). -/
def MON_GOV_THR_SHED_AT : Fld := ⟨0xe0024, 0x0, 1, 0, 12, .stby, (.rwx 0xe0000 0x0 0), .val 2640, (some (0, 2700))⟩
/-- MON_GOV_THR.RESTORE_AT (R305). -/
def MON_GOV_THR_RESTORE_AT : Fld := ⟨0xe0024, 0x0, 1, 12, 12, .stby, (.rwx 0xe0000 0x0 0), .val 1320, none⟩
/-- MON_GOV_THR.PIO (R305). -/
def MON_GOV_THR_PIO : Fld := ⟨0xe0024, 0x0, 1, 24, 8, .stby, (.rwx 0xe0000 0x0 0), .val 40, none⟩
/-- MON_GOV_LIM.PCONT (R305). -/
def MON_GOV_LIM_PCONT : Fld := ⟨0xe0028, 0x0, 1, 0, 16, .stby, .ro, .val 1400, none⟩
/-- MON_GOV_LIM.BUDGET (R305). -/
def MON_GOV_LIM_BUDGET : Fld := ⟨0xe0028, 0x0, 1, 16, 16, .stby, .ro, .val 2700, none⟩
/-- MON_GOV_OVER.OVER_S (R305). -/
def MON_GOV_OVER_OVER_S : Fld := ⟨0xe002c, 0x0, 1, 0, 32, .stby, .ro, .val 0, none⟩
/-- MON_SRCA_CTRL.EN (R306). -/
def MON_SRCA_CTRL_EN : Fld := ⟨0xe0100, 0x10, 5, 0, 1, .aon, .rw, .val 1, none⟩
/-- MON_SRCA_CTRL.RESP (R306). -/
def MON_SRCA_CTRL_RESP : Fld := ⟨0xe0100, 0x10, 5, 1, 7, .aon, .rw, .monResp 0, none⟩
/-- MON_SRCA_CTRL.K (R306). -/
def MON_SRCA_CTRL_K : Fld := ⟨0xe0100, 0x10, 5, 8, 8, .aon, .rw, .monK 0, (some (1, 255))⟩
/-- MON_SRCA_CTRL.W (R306). -/
def MON_SRCA_CTRL_W : Fld := ⟨0xe0100, 0x10, 5, 16, 16, .aon, .rw, .monW 0, (some (1, 65535))⟩
/-- MON_SRCA_PARAM.PARAM (R306). -/
def MON_SRCA_PARAM_PARAM : Fld := ⟨0xe0104, 0x10, 5, 0, 32, .aon, .rw, .monParam 0, none⟩
/-- MON_SRCA_CNT.CONF_CNT (R306). -/
def MON_SRCA_CNT_CONF_CNT : Fld := ⟨0xe0108, 0x10, 5, 0, 16, .aon, .ro, .val 0, none⟩
/-- MON_SRCA_CNT.DET_CNT (R306). -/
def MON_SRCA_CNT_DET_CNT : Fld := ⟨0xe0108, 0x10, 5, 16, 16, .aon, .ro, .val 0, none⟩
/-- MON_SRCA_ST.ST_RES (R306). -/
def MON_SRCA_ST_ST_RES : Fld := ⟨0xe010c, 0x10, 5, 0, 2, .aon, .ro, .val 0, none⟩
/-- MON_SRCA_ST.ST_BUSY (R306). -/
def MON_SRCA_ST_ST_BUSY : Fld := ⟨0xe010c, 0x10, 5, 2, 1, .aon, .ro, .val 0, none⟩
/-- MON_SRCS_CTRL.EN (R306). -/
def MON_SRCS_CTRL_EN : Fld := ⟨0xe0150, 0x10, 3, 0, 1, .stby, .rw, .val 1, none⟩
/-- MON_SRCS_CTRL.RESP (R306). -/
def MON_SRCS_CTRL_RESP : Fld := ⟨0xe0150, 0x10, 3, 1, 7, .stby, .rw, .monResp 5, none⟩
/-- MON_SRCS_CTRL.K (R306). -/
def MON_SRCS_CTRL_K : Fld := ⟨0xe0150, 0x10, 3, 8, 8, .stby, .rw, .monK 5, (some (1, 255))⟩
/-- MON_SRCS_CTRL.W (R306). -/
def MON_SRCS_CTRL_W : Fld := ⟨0xe0150, 0x10, 3, 16, 16, .stby, .rw, .monW 5, (some (1, 65535))⟩
/-- MON_SRCS_CNT.CONF_CNT (R306). -/
def MON_SRCS_CNT_CONF_CNT : Fld := ⟨0xe0158, 0x10, 3, 0, 16, .stby, .ro, .val 0, none⟩
/-- MON_SRCS_CNT.DET_CNT (R306). -/
def MON_SRCS_CNT_DET_CNT : Fld := ⟨0xe0158, 0x10, 3, 16, 16, .stby, .ro, .val 0, none⟩
/-- MON_SRCS_ST.ST_RES (R306). -/
def MON_SRCS_ST_ST_RES : Fld := ⟨0xe015c, 0x10, 3, 0, 2, .stby, .ro, .val 0, none⟩
/-- MON_SRCS_ST.ST_BUSY (R306). -/
def MON_SRCS_ST_ST_BUSY : Fld := ⟨0xe015c, 0x10, 3, 2, 1, .stby, .ro, .val 0, none⟩

/-! ### Block at 0xf0000 -/

/-- REC_CTRL.XEN (R325). -/
def REC_CTRL_XEN : Fld := ⟨0xf0000, 0x0, 1, 0, 1, .main, .rw, .val 0, none⟩
/-- REC_CTRL.COMPACT_EN (R325). -/
def REC_CTRL_COMPACT_EN : Fld := ⟨0xf0000, 0x0, 1, 1, 1, .main, .rw, .val 1, none⟩
/-- REC_CTRL.EV_RING (R325). -/
def REC_CTRL_EV_RING : Fld := ⟨0xf0000, 0x0, 1, 2, 2, .main, .rw, .val 0, none⟩
/-- REC_PERIOD.PERIOD (R325). -/
def REC_PERIOD_PERIOD : Fld := ⟨0xf0004, 0x0, 1, 0, 11, .main, .rw, .val 60, (some (1, 1080))⟩
/-- REC_XCTRL.CREDIT_INT (R325). -/
def REC_XCTRL_CREDIT_INT : Fld := ⟨0xf0008, 0x0, 1, 0, 8, .main, (.rwx 0xf0000 0x0 0), .val 8, (some (1, 255))⟩
/-- REC_XCTRL.COMPACT_INT (R325). -/
def REC_XCTRL_COMPACT_INT : Fld := ⟨0xf0008, 0x0, 1, 16, 8, .main, (.rwx 0xf0000 0x0 0), .val 24, (some (1, 255))⟩
/-- REC_HSEL0.SLOT0 (R325). -/
def REC_HSEL0_SLOT0 : Fld := ⟨0xf000c, 0x0, 1, 0, 5, .main, .rw, .val 0, none⟩
/-- REC_HSEL0.SLOT1 (R325). -/
def REC_HSEL0_SLOT1 : Fld := ⟨0xf000c, 0x0, 1, 8, 5, .main, .rw, .val 1, none⟩
/-- REC_HSEL0.SLOT2 (R325). -/
def REC_HSEL0_SLOT2 : Fld := ⟨0xf000c, 0x0, 1, 16, 5, .main, .rw, .val 2, none⟩
/-- REC_HSEL0.SLOT3 (R325). -/
def REC_HSEL0_SLOT3 : Fld := ⟨0xf000c, 0x0, 1, 24, 5, .main, .rw, .val 8, none⟩
/-- REC_HSEL1.SLOT4 (R325). -/
def REC_HSEL1_SLOT4 : Fld := ⟨0xf0010, 0x0, 1, 0, 5, .main, .rw, .val 10, none⟩
/-- REC_HSEL1.SLOT5 (R325). -/
def REC_HSEL1_SLOT5 : Fld := ⟨0xf0010, 0x0, 1, 8, 5, .main, .rw, .val 11, none⟩
/-- REC_HSEL1.SLOT6 (R325). -/
def REC_HSEL1_SLOT6 : Fld := ⟨0xf0010, 0x0, 1, 16, 5, .main, .rw, .val 12, none⟩
/-- REC_HSEL1.SLOT7 (R325). -/
def REC_HSEL1_SLOT7 : Fld := ⟨0xf0010, 0x0, 1, 24, 5, .main, .rw, .val 15, none⟩
/-- REC_TRIG_EN.EN (R325). -/
def REC_TRIG_EN_EN : Fld := ⟨0xf0014, 0x0, 1, 0, 7, .main, .rw, .val 127, none⟩
/-- REC_STATUS.READY (R325). -/
def REC_STATUS_READY : Fld := ⟨0xf0020, 0x0, 1, 0, 1, .main, .ro, .val 0, none⟩
/-- REC_STATUS.RO_MODE (R325). -/
def REC_STATUS_RO_MODE : Fld := ⟨0xf0020, 0x0, 1, 1, 1, .main, .ro, .val 0, none⟩
/-- REC_STATUS.WRITING (R325). -/
def REC_STATUS_WRITING : Fld := ⟨0xf0020, 0x0, 1, 2, 1, .main, .ro, .val 0, none⟩
/-- REC_STATUS.COMPACTING (R325). -/
def REC_STATUS_COMPACTING : Fld := ⟨0xf0020, 0x0, 1, 3, 1, .main, .ro, .val 0, none⟩
/-- REC_STATUS.COMPACT_DEFER (R325). -/
def REC_STATUS_COMPACT_DEFER : Fld := ⟨0xf0020, 0x0, 1, 4, 1, .main, .ro, .val 0, none⟩
/-- REC_STATUS.PRES_FULL (R325). -/
def REC_STATUS_PRES_FULL : Fld := ⟨0xf0020, 0x0, 1, 5, 1, .main, .ro, .val 0, none⟩
/-- REC_STATUS.MAP_ERR (R325). -/
def REC_STATUS_MAP_ERR : Fld := ⟨0xf0020, 0x0, 1, 6, 1, .main, .ro, .val 0, none⟩
/-- REC_STATUS.SB_VALID (R325). -/
def REC_STATUS_SB_VALID : Fld := ⟨0xf0020, 0x0, 1, 7, 1, .stby, .ro, .val 0, none⟩
/-- REC_STATUS.QLEN (R325). -/
def REC_STATUS_QLEN : Fld := ⟨0xf0020, 0x0, 1, 8, 6, .main, .ro, .val 0, none⟩
/-- REC_EVT.REC_FAIL (R325). -/
def REC_EVT_REC_FAIL : Fld := ⟨0xf0024, 0x0, 1, 0, 1, .main, .w1c, .val 0, none⟩
/-- REC_EVT.LOG_MEDIA (R325). -/
def REC_EVT_LOG_MEDIA : Fld := ⟨0xf0024, 0x0, 1, 1, 1, .main, .w1c, .val 0, none⟩
/-- REC_EVT.SUPPR (R325). -/
def REC_EVT_SUPPR : Fld := ⟨0xf0024, 0x0, 1, 2, 1, .main, .w1c, .val 0, none⟩
/-- REC_EVT.TORN (R325). -/
def REC_EVT_TORN : Fld := ⟨0xf0024, 0x0, 1, 3, 1, .main, .w1c, .val 0, none⟩
/-- REC_EVT.MAP_ERR (R325). -/
def REC_EVT_MAP_ERR : Fld := ⟨0xf0024, 0x0, 1, 4, 1, .main, .w1c, .val 0, none⟩
/-- REC_EVT.NO_CREDIT (R325). -/
def REC_EVT_NO_CREDIT : Fld := ⟨0xf0024, 0x0, 1, 5, 1, .main, .w1c, .val 0, none⟩
/-- REC_EVT.REFRESH (R325). -/
def REC_EVT_REFRESH : Fld := ⟨0xf0024, 0x0, 1, 6, 1, .main, .w1c, .val 0, none⟩
/-- REC_SEQ.SEQ (R325). -/
def REC_SEQ_SEQ : Fld := ⟨0xf0028, 0x0, 1, 0, 32, .main, .ro, .val 0, none⟩
/-- REC_OPSEC.OPSEC (R325). -/
def REC_OPSEC_OPSEC : Fld := ⟨0xf0030, 0x0, 1, 0, 40, .stby, .ro, .val 0, none⟩
/-- REC_PCC.PCC (R325). -/
def REC_PCC_PCC : Fld := ⟨0xf0038, 0x0, 1, 0, 32, .stby, .ro, .val 0, none⟩
/-- REC_CREDIT.CREDIT (R325). -/
def REC_CREDIT_CREDIT : Fld := ⟨0xf003c, 0x0, 1, 0, 12, .stby, .ro, .val 2048, none⟩
/-- REC_BAD.CIRC (R325). -/
def REC_BAD_CIRC : Fld := ⟨0xf0040, 0x0, 1, 0, 10, .main, .ro, .val 0, none⟩
/-- REC_BAD.PRES (R325). -/
def REC_BAD_PRES : Fld := ⟨0xf0040, 0x0, 1, 16, 9, .main, .ro, .val 0, none⟩
/-- REC_SUPPR_TOTAL.TOTAL (R325). -/
def REC_SUPPR_TOTAL_TOTAL : Fld := ⟨0xf0044, 0x0, 1, 0, 32, .main, .ro, .val 0, none⟩
/-- REC_HEAD.SECT (R325). -/
def REC_HEAD_SECT : Fld := ⟨0xf0048, 0x0, 1, 0, 9, .main, .ro, .val 0, none⟩
/-- REC_HEAD.SLOT (R325). -/
def REC_HEAD_SLOT : Fld := ⟨0xf0048, 0x0, 1, 9, 2, .main, .ro, .val 0, none⟩
/-- REC_HEAD.COUNT (R325). -/
def REC_HEAD_COUNT : Fld := ⟨0xf0048, 0x0, 1, 16, 12, .main, .ro, .val 0, none⟩
/-- REC_PRES.COUNT (R325). -/
def REC_PRES_COUNT : Fld := ⟨0xf004c, 0x0, 1, 0, 11, .main, .ro, .val 0, none⟩
/-- REC_MAPGEN.MAPGEN (R325). -/
def REC_MAPGEN_MAPGEN : Fld := ⟨0xf0050, 0x0, 1, 0, 32, .main, .ro, .val 0, none⟩
/-- REC_SUPPR_PEND.PEND (R325). -/
def REC_SUPPR_PEND_PEND : Fld := ⟨0xf0054, 0x0, 1, 0, 16, .stby, .ro, .val 0, none⟩

/-! ### Block at 0x100000 -/

/-- CAL_CTRL.XEN (R345). -/
def CAL_CTRL_XEN : Fld := ⟨0x100000, 0x0, 1, 0, 1, .main, .rw, .val 0, none⟩
/-- CAL_CTRL.AUTO_TRACE (R345). -/
def CAL_CTRL_AUTO_TRACE : Fld := ⟨0x100000, 0x0, 1, 1, 1, .main, .rw, .val 0, none⟩
/-- CAL_CTRL.STORE_EN (R345). -/
def CAL_CTRL_STORE_EN : Fld := ⟨0x100000, 0x0, 1, 2, 1, .main, .rw, .val 1, none⟩
/-- CAL_CTRL.PER_EN (R345). -/
def CAL_CTRL_PER_EN : Fld := ⟨0x100000, 0x0, 1, 3, 1, .main, .rw, .val 1, none⟩
/-- CAL_CTRL.PERIOD (R345). -/
def CAL_CTRL_PERIOD : Fld := ⟨0x100000, 0x0, 1, 8, 8, .main, .rw, .val 60, (some (1, 255))⟩
/-- CAL_XCTRL.AGREE_PORT (R345). -/
def CAL_XCTRL_AGREE_PORT : Fld := ⟨0x100004, 0x0, 1, 0, 8, .main, (.rwx 0x100000 0x0 0), .val 4, (some (1, 255))⟩
/-- CAL_XCTRL.AGREE_REF (R345). -/
def CAL_XCTRL_AGREE_REF : Fld := ⟨0x100004, 0x0, 1, 8, 8, .main, (.rwx 0x100000 0x0 0), .val 5, (some (1, 255))⟩
/-- CAL_XCTRL.DRIFT_MAX (R345). -/
def CAL_XCTRL_DRIFT_MAX : Fld := ⟨0x100004, 0x0, 1, 16, 12, .main, (.rwx 0x100000 0x0 0), .val 60, (some (10, 1000))⟩
/-- CAL_PMASK.PMASK (R345). -/
def CAL_PMASK_PMASK : Fld := ⟨0x100008, 0x0, 1, 0, 32, .main, .rw, .val 0, none⟩
/-- CAL_STAT.BUSY (R345). -/
def CAL_STAT_BUSY : Fld := ⟨0x100010, 0x0, 1, 0, 1, .main, .ro, .val 0, none⟩
/-- CAL_STAT.RUN (R345). -/
def CAL_STAT_RUN : Fld := ⟨0x100010, 0x0, 1, 1, 2, .main, .ro, .val 0, none⟩
/-- CAL_STAT.STEP (R345). -/
def CAL_STAT_STEP : Fld := ⟨0x100010, 0x0, 1, 3, 2, .main, .ro, .val 0, none⟩
/-- CAL_STAT.UNTRACED (R345). -/
def CAL_STAT_UNTRACED : Fld := ⟨0x100010, 0x0, 1, 5, 1, .main, .ro, .val 0, none⟩
/-- CAL_STAT.COPY (R345). -/
def CAL_STAT_COPY : Fld := ⟨0x100010, 0x0, 1, 6, 1, .main, .ro, .val 0, none⟩
/-- CAL_STAT.NO_COPY (R345). -/
def CAL_STAT_NO_COPY : Fld := ⟨0x100010, 0x0, 1, 7, 1, .main, .ro, .val 0, none⟩
/-- CAL_STAT.SENSE (R345). -/
def CAL_STAT_SENSE : Fld := ⟨0x100010, 0x0, 1, 8, 3, .main, .ro, .val 0, none⟩
/-- CAL_STAT.DLL_LIN (R345). -/
def CAL_STAT_DLL_LIN : Fld := ⟨0x100010, 0x0, 1, 11, 3, .main, .ro, .val 0, none⟩
/-- CAL_STAT.PORT_LB (R345). -/
def CAL_STAT_PORT_LB : Fld := ⟨0x100010, 0x0, 1, 14, 3, .main, .ro, .val 0, none⟩
/-- CAL_STAT.REF_ALIGN (R345). -/
def CAL_STAT_REF_ALIGN : Fld := ⟨0x100010, 0x0, 1, 17, 3, .main, .ro, .val 0, none⟩
/-- CAL_STAT.FAIL_STEP (R345). -/
def CAL_STAT_FAIL_STEP : Fld := ⟨0x100010, 0x0, 1, 20, 2, .main, .ro, .val 0, none⟩
/-- CAL_STAT.FAIL_UNIT (R345). -/
def CAL_STAT_FAIL_UNIT : Fld := ⟨0x100010, 0x0, 1, 22, 8, .main, .ro, .val 0, none⟩
/-- CAL_STAT.STORE_FAIL (R345). -/
def CAL_STAT_STORE_FAIL : Fld := ⟨0x100010, 0x0, 1, 30, 1, .main, .ro, .val 0, none⟩
/-- CAL_EVT.RUN_DONE (R345). -/
def CAL_EVT_RUN_DONE : Fld := ⟨0x100014, 0x0, 1, 0, 1, .main, .w1c, .val 0, none⟩
/-- CAL_EVT.UNIT_FAIL (R345). -/
def CAL_EVT_UNIT_FAIL : Fld := ⟨0x100014, 0x0, 1, 1, 1, .main, .w1c, .val 0, none⟩
/-- CAL_EVT.REF_QUAL (R345). -/
def CAL_EVT_REF_QUAL : Fld := ⟨0x100014, 0x0, 1, 2, 1, .main, .w1c, .val 0, none⟩
/-- CAL_EVT.REF_LOSS (R345). -/
def CAL_EVT_REF_LOSS : Fld := ⟨0x100014, 0x0, 1, 3, 1, .main, .w1c, .val 0, none⟩
/-- CAL_EVT.TRACED (R345). -/
def CAL_EVT_TRACED : Fld := ⟨0x100014, 0x0, 1, 4, 1, .main, .w1c, .val 0, none⟩
/-- CAL_EVT.UNTRACED (R345). -/
def CAL_EVT_UNTRACED : Fld := ⟨0x100014, 0x0, 1, 5, 1, .main, .w1c, .val 0, none⟩
/-- CAL_EVT.COPY_TORN (R345). -/
def CAL_EVT_COPY_TORN : Fld := ⟨0x100014, 0x0, 1, 6, 1, .main, .w1c, .val 0, none⟩
/-- CAL_EVT.STORE_DONE (R345). -/
def CAL_EVT_STORE_DONE : Fld := ⟨0x100014, 0x0, 1, 7, 1, .main, .w1c, .val 0, none⟩
/-- CAL_EVT.STORE_FAIL (R345). -/
def CAL_EVT_STORE_FAIL : Fld := ⟨0x100014, 0x0, 1, 8, 1, .main, .w1c, .val 0, none⟩
/-- CAL_GEN.GEN (R345). -/
def CAL_GEN_GEN : Fld := ⟨0x100018, 0x0, 1, 0, 32, .main, .ro, .val 0, none⟩
/-- CAL_REFMON.REF_QUAL (R345). -/
def CAL_REFMON_REF_QUAL : Fld := ⟨0x10001c, 0x0, 1, 0, 1, .stby, .ro, .val 0, none⟩
/-- CAL_REFMON.CLK_ERR (R345). -/
def CAL_REFMON_CLK_ERR : Fld := ⟨0x10001c, 0x0, 1, 8, 8, .stby, .ro, .val 0, none⟩
/-- CAL_REFMON.PPS_ERR (R345). -/
def CAL_REFMON_PPS_ERR : Fld := ⟨0x10001c, 0x0, 1, 16, 16, .stby, .ro, .val 0, none⟩
/-- CAL_TRACE_P.PORT (R345). -/
def CAL_TRACE_P_PORT : Fld := ⟨0x100020, 0x0, 1, 0, 32, .main, .ro, .val 0, none⟩
/-- CAL_TRACE_T.TIO (R345). -/
def CAL_TRACE_T_TIO : Fld := ⟨0x100024, 0x0, 1, 0, 16, .main, .ro, .val 0, none⟩
/-- CAL_TRACE_T.LINE (R345). -/
def CAL_TRACE_T_LINE : Fld := ⟨0x100024, 0x0, 1, 16, 3, .main, .ro, .val 0, none⟩
/-- CAL_SWRAW.RAW (R345). -/
def CAL_SWRAW_RAW : Fld := ⟨0x100028, 0x0, 1, 0, 73, .main, .ro, .val 0, none⟩

/-! ### Block at 0x110000 -/

/-- TST_KEY.KEY (R406). -/
def TST_KEY_KEY : Fld := ⟨0x110000, 0x0, 1, 0, 16, .main, .wo, .val 0, none⟩
/-- TST_STATUS.UNLOCKED (R406). -/
def TST_STATUS_UNLOCKED : Fld := ⟨0x110004, 0x0, 1, 0, 1, .main, .ro, .val 0, none⟩
/-- TST_STATUS.ACTIVE (R406). -/
def TST_STATUS_ACTIVE : Fld := ⟨0x110004, 0x0, 1, 1, 1, .main, .ro, .val 0, none⟩
/-- TST_STATUS.KEY_FAILS (R406). -/
def TST_STATUS_KEY_FAILS : Fld := ⟨0x110004, 0x0, 1, 2, 8, .main, .ro, .val 0, none⟩
/-- TST_DBDLY.DLY (R406). -/
def TST_DBDLY_DLY : Fld := ⟨0x110010, 0x0, 1, 0, 16, .main, .rw, .val 0, none⟩
/-- TST_BP.RING (R406). -/
def TST_BP_RING : Fld := ⟨0x110014, 0x0, 1, 0, 8, .main, .rw, .val 0, none⟩
/-- TST_BP.EN (R406). -/
def TST_BP_EN : Fld := ⟨0x110014, 0x0, 1, 8, 1, .main, .rw, .val 0, none⟩
/-- TST_ECC_ADDR.WADDR (R406). -/
def TST_ECC_ADDR_WADDR : Fld := ⟨0x110020, 0x0, 1, 0, 20, .main, .rw, .val 0, none⟩
/-- TST_ECC_ADDR.KIND (R406). -/
def TST_ECC_ADDR_KIND : Fld := ⟨0x110020, 0x0, 1, 20, 1, .main, .rw, .val 0, none⟩
/-- TST_ECC_CTRL.NBITS (R406). -/
def TST_ECC_CTRL_NBITS : Fld := ⟨0x110024, 0x0, 1, 0, 2, .main, .rw, .val 1, (some (1, 3))⟩
/-- TST_ECC_CTRL.P (R406). -/
def TST_ECC_CTRL_P : Fld := ⟨0x110024, 0x0, 1, 2, 8, .main, .rw, .val 0, none⟩
/-- TST_ECC_CTRL.ARM (R406). -/
def TST_ECC_CTRL_ARM : Fld := ⟨0x110024, 0x0, 1, 10, 1, .main, .w1s, .val 0, none⟩
/-- TST_VSN.CH (R406). -/
def TST_VSN_CH : Fld := ⟨0x110030, 0x0, 1, 0, 5, .stby, .rw, .val 0, none⟩
/-- TST_VSN.COUNT (R406). -/
def TST_VSN_COUNT : Fld := ⟨0x110030, 0x0, 1, 8, 5, .stby, .rw, .val 0, none⟩
/-- TST_VSN.ARMED (R406). -/
def TST_VSN_ARMED : Fld := ⟨0x110030, 0x0, 1, 13, 1, .stby, .ro, .val 0, none⟩
/-- TST_SYN.FORCE_UNLOCK (R406). -/
def TST_SYN_FORCE_UNLOCK : Fld := ⟨0x110034, 0x0, 1, 0, 1, .main, .w1s, .val 0, none⟩
/-- TST_TSOFS.RX (R406). -/
def TST_TSOFS_RX : Fld := ⟨0x110100, 0x4, 32, 0, 12, .main, .rw, .val 0, none⟩
/-- TST_TSOFS.TX (R406). -/
def TST_TSOFS_TX : Fld := ⟨0x110100, 0x4, 32, 16, 12, .main, .rw, .val 0, none⟩
/-- TST_SPXDROP.K (R406). -/
def TST_SPXDROP_K : Fld := ⟨0x110200, 0x4, 32, 0, 5, .main, .rw, .val 0, (some (0, 20))⟩
/-- TST_TIOSKEW.SKEW (R406). -/
def TST_TIOSKEW_SKEW : Fld := ⟨0x110300, 0x4, 16, 0, 12, .main, .rw, .val 0, none⟩

/-! ### Block at 0x1c0000 -/

/-- PSM_CTRL.EN (R412). -/
def PSM_CTRL_EN : Fld := ⟨0x1c0000, 0x0, 1, 0, 1, .main, .rw, .val 0, none⟩
/-- PSM_CMD.CMD (R412). -/
def PSM_CMD_CMD : Fld := ⟨0x1c0100, 0x10, 4, 0, 2, .main, .wo, .val 0, none⟩
/-- PSM_STAT.SERVICE (R412). -/
def PSM_STAT_SERVICE : Fld := ⟨0x1c0104, 0x10, 4, 0, 1, .main, .ro, .val 0, none⟩
/-- PSM_STAT.ERR (R412). -/
def PSM_STAT_ERR : Fld := ⟨0x1c0104, 0x10, 4, 1, 3, .main, .ro, .val 0, none⟩
/-- PSM_STAT.OWNER (R412). -/
def PSM_STAT_OWNER : Fld := ⟨0x1c0104, 0x10, 4, 4, 8, .main, .ro, .val 0, none⟩
/-- PSM_STAT.RES (R412). -/
def PSM_STAT_RES : Fld := ⟨0x1c0104, 0x10, 4, 12, 8, .main, .ro, .val 0, none⟩
/-- PSM_STAT.NWIGN (R412). -/
def PSM_STAT_NWIGN : Fld := ⟨0x1c0104, 0x10, 4, 20, 6, .main, .ro, .val 0, none⟩
/-- PSM_STAT.UCODE_OK (R412). -/
def PSM_STAT_UCODE_OK : Fld := ⟨0x1c0104, 0x10, 4, 26, 6, .main, .ro, .val 0, none⟩
/-- PSM_UCODE.WORD (R412). -/
def PSM_UCODE_WORD : Fld := ⟨0x1c0108, 0x10, 4, 0, 32, .main, .wo, .val 0, none⟩

end Sys2Proof.Machine.F
end

