-- ==== Sys2Proof/Machine/Store.lean ====
section
/-!
DEFINITION. Sparse tables in one canonical form: a list of (key, value) pairs, keys strictly rising, no entry equal to what
an unlisted key reads as. Every table and memory of the model is one of these, so equal contents are equal data.
-/
namespace Sys2Proof.Machine

/-- The value at key `k`; an unlisted key reads as `d`. -/
def Store.get {α : Type} (d : α) : List (Nat × α) → Nat → α
  | [], _ => d
  | (k', v) :: t, k => if k' = k then v else Store.get d t k

/-- Write `v` at key `k`; writing the value an unlisted key reads as removes the entry. -/
def Store.set {α : Type} [DecidableEq α] (d : α) : List (Nat × α) → Nat → α → List (Nat × α)
  | [], k, v => if v = d then [] else [(k, v)]
  | (k', v') :: t, k, v =>
    if k < k' then (if v = d then (k', v') :: t else (k, v) :: (k', v') :: t)
    else if k = k' then (if v = d then t else (k, v) :: t)
    else (k', v') :: Store.set d t k v

/-- Keys strictly rise. -/
def Store.sorted {α : Type} : List (Nat × α) → Bool
  | [] => true
  | [_] => true
  | (k, _) :: (k', v) :: t => decide (k < k') && Store.sorted ((k', v) :: t)

/-- The canonical form: keys strictly rise and no entry is the unlisted value. -/
def Store.wf {α : Type} [DecidableEq α] (d : α) (l : List (Nat × α)) : Bool :=
  Store.sorted l && l.all (fun p => decide (p.2 ≠ d))

/-- Byte memories (mailbox, standby NVM): an unlisted address reads 0. -/
abbrev Memory := List Host.Cell

/-- The canonical form of a byte memory. -/
abbrev Memory.wf (m : Memory) : Bool := Store.wf (0 : Byte) m

/-- One byte of a memory. -/
def Memory.read (m : Memory) (a : Nat) : Byte := Store.get 0 m a

/-- Write one byte. -/
def Memory.write (m : Memory) (a : Nat) (b : Byte) : Memory := Store.set 0 m a b

/-- `n` bytes from address `a`. -/
def Memory.readN (m : Memory) (a n : Nat) : Bytes := (List.range n).map (fun i => m.read (a + i))

/-- Write a string of bytes from address `a`. -/
def Memory.writeN (m : Memory) (a : Nat) : Bytes → Memory
  | [] => m
  | b :: t => Memory.writeN (m.write a b) (a + 1) t

end Sys2Proof.Machine
end

