-- ==== Sys2Proof/Machine/State.lean ====
section
/-!
DEFINITION. The state of the block: plain data holding everything the spec gives the machine, and the state right after
reset. Register fields stand in four sparse tables, one per reset domain (R16), read and written through Ops.lean; what has
no register (queues, epochs, frames, sessions, timers in progress, memories) stands in the structures below.
-/
namespace Sys2Proof.Machine

/-! ### Fused facts and straps -/

/-- The three variants of the die (R1). -/
inductive Variant where
  | zn4808 | zn4816 | zn4832
  deriving DecidableEq, Repr

/-- What wafer test and the package fuse (R403, R238). -/
structure Fuses where
  variant : Variant
  rev : Nat
  lot : Nat
  wafer : Nat
  dieX : Nat
  dieY : Nat
  serial : Nat
  f0 : Nat
  t0 : Nat
  k : Nat
  deriving DecidableEq, Repr

/-! ### What leaves the block -/

/-- What the block sends to the outside. The list of outputs is the model's own field: it records, in order, what a command
made the block emit. -/
inductive Output where
  | dma (addr : Nat) (data : Bytes)
  | msix (vector : Nat)
  | frame (port : Nat) (side : Side) (raw : Raw) (data : Bytes) (errs : List Nat)
  | control (port : Nat) (side : Side) (c : Control)
  | spx (port : Nat) (block : BitVec 66) (raw : Raw)
  | retimed (port : Nat) (side : Side) (bits : List Bool)
  | sbData (data : Bytes)
  | sbNack (status : Nat)
  | hostData (value : Nat) (ep : Bool)     -- `ep` is the poisoned bit of the completion (R386)
  | casTrain (pulses : Nat)
  | seqCommand (down : Bool)
  | seqReversal
  | edge (line : Nat) (rising : Bool) (raw : Raw)
  deriving DecidableEq, Repr

/-! ### Timebase -/

/-- An epoch record (R44). RATE is signed, in units of 2^-48; OFFSET0 is in units of 2^-16 ns. -/
structure Epoch where
  raw0 : Raw
  rate : Int
  offset : Int
  state : Nat
  calset : Bool
  untraced : Bool
  kind : Nat
  index : Nat
  gen : Nat
  deriving DecidableEq, Repr

/-- A slot of the epoch history (R51): the record as published, its latest revision, and S of R110 as it stood under it. -/
structure HistSlot where
  pub : Epoch
  latest : Epoch
  sum : Int
  deriving DecidableEq, Repr

/-- A slew in progress (R65): its rate, the raw times at which it began and ends. -/
structure Slew where
  rate : Int
  start : Raw
  stop : Raw
  deriving DecidableEq, Repr

/-- A revision (R58): first consistent offset, the interval, the generation written, and the INDEX of the oldest and newest
affected record; `next` counts the slots of the history, from the newest, already passed. `begun` is false until the SCLK cycle
after the epoch that begins ACQUIRING. `bound` is the RAW0 that records to be revised lie before: `rawE`, or that of the epoch in
force where ACQUIRING began without an epoch, for the current epoch is never revised. -/
structure Revision where
  e : Int
  rawS : Raw
  rawE : Raw
  bound : Raw
  gen : Nat
  oldest : Nat
  newest : Nat
  next : Nat
  begun : Bool
  deriving DecidableEq, Repr

/-- The timebase beyond its registers (R44 to R66). -/
structure Tb where
  cur : Option Epoch            -- the epoch in force; none in COLD
  hist : List HistSlot          -- newest first, at most 4,096
  nextIndex : Nat               -- INDEX of the next epoch
  slew : Option Slew
  slewResid : Int               -- residual of truncation (R65), 2^-16 ns / (100 * 2^32)
  sumOfs : Int                  -- S of R110
  hoFirst : Option Raw          -- RAW0 of the first epoch created in HOLDOVER or REROUTE (R57)
  revisions : List Revision     -- being written, then waiting, in order (R58)
  lockRun : Nat                 -- consecutive updates within TB_LOCK_THR without a slew (R60)
  lostRun : Nat                 -- consecutive updates beyond TB_LOCK_THR
  fromSeeded : Bool             -- DEGRADED was entered from SEEDED
  newSource : Bool              -- a source change waits for its first proposal (R61, R164)
  lockedAt : Raw                -- raw time at which LOCKED was last entered (R241)
  calset : Bool                 -- CALSET of the next epoch (R44)
  modRx : List (Nat × Nat)      -- STR_MOD_RX in force per port (R108)
  modTx : List (Nat × Nat)      -- STR_MOD_TX in force per port
  deriving DecidableEq, Repr

/-- A measurement delivered to the servo (R166): e in units of 2^-16 ns and its uncertainty M of R171 in ps. -/
structure Meas where
  e : Int
  unc : Nat
  deriving DecidableEq, Repr

/-- The servo and source selector beyond their registers. -/
structure Srv where
  acc : List Meas               -- measurements since the previous publication instant, newest first
  swRate : Option Int           -- F of SRV_PROPOSE, to be published at the next instant (R169)
  synt : Bool                   -- the first update after SEEDED or COLD is still to come (R168)
  m : Nat                       -- M of R171
  auBase : Nat                  -- |e| in ps in ACQUIRING and LOCKED; AU at entry in HOLDOVER and REROUTE (R171)
  auEntry : Raw                 -- raw time of that entry
  everSel : Bool                -- a candidate has been selected since main reset (R163)
  lastMethod : Nat              -- method (1 SPX, 2 PTP) last used by the candidate in SEL, 0 before (R164)
  tmpl : Bytes                  -- Announce template (R172), empty until PTP_SET_ANNOUNCE
  gmTlv : Bytes                 -- gmTimeBaseIndicator and lastGmPhaseChange of the last Follow_Up TLV received (R160)
  deriving DecidableEq, Repr

/-! ### Strait ports -/

/-- A 256-byte pool cell: its number of 32,768 (R95) and whether it came from the shared area (R97). -/
structure Cell where
  idx : Nat
  shared : Bool
  deriving DecidableEq, Repr

/-- A request that the responder still has to answer (R159). -/
structure PtpJob where
  msgType : Nat
  seq : Nat
  ident : Bytes
  cf : Nat
  t2 : Raw
  deriving DecidableEq, Repr

/-- What a stored frame is for, and what its departure or its loss must answer (R90). -/
inductive FrameSrc where
  | held
  | ptp (msgType seq : Nat) (follow : Bool)
  | resp (job : PtpJob) (follow : Bool)
  | disc
  | host (src : Src) (tag : Nat) (quiet : Bool)
  | launch (queue : Nat)
  deriving DecidableEq, Repr

/-- A frame in the buffer pool: octets from destination address to FCS, the offsets at which an /E/ stands, its cells, and its
metadata (TSOP and CAP, R113; STAMP_OFS of a launch frame with STAMP = 1, R210). -/
structure PFrame where
  data : Bytes
  errs : List Nat
  cells : List Cell
  tsop : Nat
  cap : Bool
  stamp : Option Nat
  src : FrameSrc
  deriving DecidableEq, Repr

/-- One egress of a port: its queues in arrival order (R90, R91), the raw time at which the frame in progress, with its gap of 12
octets, ends, the lane of the octet after that frame's last (R141), the deficit idle count (R94), and the cells of frames in
progress with the raw times at which their last octets have left (R91); for the newest held frame, where it is still arriving, the raw
times at which it needs its next cells. -/
structure Egress where
  orig : List PFrame
  held : List PFrame
  inj : List PFrame
  busyUntil : Raw
  tail : Nat
  dic : Nat
  leaving : List (Cell × Raw)
  arriving : List Raw
  deriving DecidableEq, Repr

/-- The receiver of one side (R83): block lock, alignment-marker lock, and the sequence ordered set received last, until other
content follows (R77); the columns of four octets that have left its elastic stage since the last frame, which is the gap so far. -/
structure Receiver where
  lock : Bool
  marker : Bool
  lastOs : Option (BitVec 24)
  gap : Nat
  deriving DecidableEq, Repr

/-- A MARK history entry (R134): its slot of 256 (R379), sequence, the full departure time, whether it was sent since ranging
began, and whether a NACK marked it unreported (R149). -/
structure Mark where
  slot : Nat
  seq : Nat
  tx : Raw
  ranging : Bool
  unreported : Bool
  deriving DecidableEq, Repr

/-- An exchange being assembled (R135). -/
structure Assembly where
  seq : Nat
  mark : Nat          -- payload of the MARK
  rx : Raw            -- arrival of the MARK
  frags : List Nat    -- payloads of the FRAGs so far, in order
  rseq : Nat          -- sequence carried by F3
  prior : Option (Nat × Raw)   -- the MARK that was reported before this one
  deriving DecidableEq, Repr

/-- The previous session kept on leaving RUN (R128). -/
structure PrevSession where
  rtt : Int
  serial : Nat
  port : Nat
  deriving DecidableEq, Repr

/-- An SPX engine beyond its registers. -/
structure Spx where
  nonce : Nat
  partnerNonce : Nat                -- last nonce received from the partner, 0 if none
  echoed : Bool                     -- that nonce has been echoed
  hellos : Nat                      -- HELLOs sent since entry to PROBE
  caps : List (Nat × Nat)           -- capability words received, by index
  ackSent : Bool
  maxRate : Nat                     -- partner's MAXRATE
  marks : List Mark                 -- newest first, at most 256
  txSeq : Nat                       -- sequence of the next MARK
  markIx : Nat                      -- slot of the next MARK history entry
  statusIx : Nat                    -- next STATUS word index
  statusEpoch : Option Nat          -- INDEX of the epoch the STATUS words belong to
  rxMark : Option (Nat × Raw)       -- sequence and arrival of the last partner MARK received whole
  rxSeq : Option Nat                -- sequence of the last MARK seen
  asm : Option Assembly
  words : List Nat                  -- STATUS words collected, in order from word 0
  record : Option Epoch             -- partner epoch record held
  lastComplete : Option Raw         -- raw time of the last complete exchange, or of entry to RUN
  okRun : Nat                       -- consecutive complete exchanges within 250 us
  rttRef : Option Int               -- RTT_ref (R144); SPX_RTT shows it
  rangeRtt : Option Int             -- RTT of the measurement that began ranging
  lastPend : Option (Int × Int)     -- RTT and e of the previous route-pending measurement
  acceptRef : Option Int            -- reference for the agreement after SPX_ACCEPT_ROUTE (R146)
  lastAgreed : Option Int           -- RTT of the latest agreement
  restore : Bool                    -- the pending route began with a link restore
  owed : Bool                       -- the route was resolved while STARVED: its resolving measurement is still to come (R145)
  prev : Option PrevSession
  uRoute : Nat                      -- twice U_route (R140), 2^-16 ns
  nackDue : List (Nat × Nat)        -- SEQ and PAYLOAD of pending NACKs
  exchange : List (Nat × Nat × Nat) -- KIND, SEQ, PAYLOAD of the blocks of the exchange in progress still to be sent (R134)
  statusDue : Bool                  -- the STATUS block of the exchange just completed is to be sent
  answer : List (Nat × Nat)         -- words of a CAPS answer still to be sent: index and word (R130)
  phases : List (Raw × Int)         -- last 17 phase averages, newest first
  phBase : Option Int               -- last average, modulo one wire word
  phMarkDue : Bool                  -- PH_STEP made the next MARK due at once
  lastMark : Option Raw             -- when the last MARK of the session was sent
  lastEarly : Option Raw            -- when the last MARK that PH_STEP made due was sent
  measNow : Nat                     -- measurements built in the second in progress
  deriving DecidableEq, Repr

/-- A peer-delay or delay request outstanding (R158). -/
structure PtpReq where
  seq : Nat
  t3 : Option Raw          -- local departure
  t4 : Option Raw          -- local arrival of the (peer) response
  resp : Option (Int × Int)   -- p2 and correction of a two-step response that waits for its follow-up, 2^-16 ns
  deriving DecidableEq, Repr

/-- A Sync waiting for its Follow_Up (R158). -/
structure PtpSync where
  seq : Nat
  ident : Bytes
  t2 : Raw
  cf : Int
  deriving DecidableEq, Repr

/-- The termination assist of a port beyond its registers. -/
structure Ptp where
  seqSync : Nat
  seqAnn : Nat
  seqDreq : Nat
  seqPdreq : Nat
  master : Option Bytes            -- sourcePortIdentity of the last Sync
  sync : Option PtpSync
  dreq : Option PtpReq
  pdreq : Option PtpReq
  mpd : Option (Int × Raw)         -- twice the last MPD, 2^-16 ns, and when its exchange completed
  ds : Option (Raw × Int)          -- the last matched Sync: its arrival T2, and T1 + c_s
  anns : List (Nat × Raw)          -- clockClass and arrival of the Announces of the last three intervals (R163)
  logResp : Int                    -- logMessageInterval of the last Delay_Resp; -128 before one
  pairs : List (Int × Raw)         -- responder time and local arrival of the last Pdelay_Resp pairs, newest first
  okRun : Nat
  failRun : Nat
  jobs : List PtpJob               -- requests queued behind an answer to the same requester
  deriving DecidableEq, Repr

/-- A port (R70 to R100): what it holds beyond its registers. -/
structure Port where
  line : Egress
  host : Egress
  lineRx : Receiver
  hostRx : Receiver
  spx : Spx
  ptp : Ptp
  deriving DecidableEq, Repr

def Egress.idle : Egress := ⟨[], [], [], 0, 0, 0, [], []⟩

def Receiver.idle : Receiver := ⟨false, false, none, 0⟩

def Spx.idle : Spx :=
  { nonce := 0, partnerNonce := 0, echoed := false, hellos := 0, caps := [], ackSent := false, maxRate := 0, marks := []
    txSeq := 0, markIx := 0, statusIx := 0, statusEpoch := none, rxMark := none, rxSeq := none, asm := none, words := [], record := none
    lastComplete := none, okRun := 0, rttRef := none, rangeRtt := none, lastPend := none, acceptRef := none
    lastAgreed := none, restore := false, owed := false, prev := none, uRoute := 0, nackDue := [], exchange := [], statusDue := false, answer := []
    phases := [], phBase := none, phMarkDue := false, lastMark := none, lastEarly := none, measNow := 0 }

def Ptp.idle : Ptp :=
  { seqSync := 0, seqAnn := 0, seqDreq := 0, seqPdreq := 0, master := none, sync := none, dreq := none, pdreq := none
    mpd := none, ds := none, anns := [], logResp := -128, pairs := [], okRun := 0, failRun := 0, jobs := [] }

def Port.idle : Port :=
  { line := Egress.idle, host := Egress.idle, lineRx := Receiver.idle, hostRx := Receiver.idle, spx := Spx.idle, ptp := Ptp.idle }

/-! ### Host interface -/

/-- How far a command in flight is (R355). -/
inductive Stage where
  | fetched (opcode : Nat)
  | begun
  | held (cp : Nat) (entry : Bytes)
  | heldReset (cp : Nat) (entry : Bytes)     -- the completion of a RESET, whose main reset waits for it (R360)
  deriving DecidableEq, Repr

/-- A command in flight: ring, TAG, FLAGS, the ring's head after its fetch, and stage. -/
structure Flight where
  ring : Nat
  tag : Nat
  flags : Nat
  head : Nat
  stage : Stage
  deriving DecidableEq, Repr

/-- The writable part of configuration space (R347): the six base-address registers, the command register's memory-space and
bus-master bits, Max_Payload_Size and Max_Read_Request_Size as encoded, and MSI-X Enable and Function Mask (R367). -/
structure Cfg where
  bars : List Nat
  mem : Bool
  master : Bool
  mps : Nat
  mrrs : Nat
  msixOn : Bool
  mask : Bool
  deriving DecidableEq, Repr

/-- The host interface and sideband beyond their registers. -/
structure Hif where
  db : List (Nat × Nat)            -- doorbell values last written
  swPtr : List (Nat × Nat)         -- software's pointer per ring: tail for a CR, head otherwise
  inflight : List Flight           -- oldest first
  rr : Nat                         -- CR served last by the round-robin fetch
  burst : Nat                      -- descriptors taken from it in this turn
  evSeq : List (Nat × Nat)         -- EVSEQ per event ring
  evLost : List (Nat × Nat)        -- entries lost per event ring
  unsig : List (Nat × Nat)         -- entries written since the ring last signalled (R368)
  evtSeen : Nat                    -- HIF_EVT as last reported on vector 127
  blocks : Nat                     -- BLOCKS as vector 127 last saw it (R370)
  page : List Nat                  -- the summary page as last written, in words, with SEQ as 0 (R369)
  pageSeq : Nat                    -- SEQ of the summary page
  irqAt : Option Nat               -- RAWCT at which vector 127 last fired (R370)
  evAny : Nat                      -- bit k: event ring k has generated an entry (R369)
  orphans : List (Nat × Nat)       -- ring and TAG of commands that run on after an interface reset, without completion (R357)
  cfg : Cfg                        -- configuration space (R347)
  deriving DecidableEq, Repr

/-- The sideband's own state (standby domain, R371 to R375). -/
structure Sb where
  readAddr : Nat
  mbPtr : Nat
  phase : Bool
  tag : Nat
  araWon : Bool                    -- an Alert Response has released ALERT_N since the last new alert (R375)
  deriving DecidableEq, Repr

/-- Latched and staged words of wide registers (R417); the key is 2 * address, plus 1 for the sideband. -/
structure Latches where
  read : List (Nat × Option Nat)
  write : List (Nat × Option Nat)
  deriving DecidableEq, Repr

/-! ### Memories -/

/-- SRAM, mailbox and pool bookkeeping beyond the registers. -/
structure Mem where
  mailbox : Memory
  errs : List (Nat × Nat)          -- bits in error per word; key 2 * word address, plus 1 for the mailbox (R384, R405)
  poison : List (Nat × Bool)       -- poison tags, same key (R385)
  cells : List (Nat × Bool)        -- pool cells in use, by number (R95)
  rrPort : Nat                     -- round-robin pointer of the shared area (R97)
  spares : List (Nat × Nat)        -- spare rows left per bank, 8 when unlisted (R389)
  mtFails : List Nat               -- failing words of the window under test
  pauseReq : Bool                  -- governor shedding step 1 is in force (R387)
  deriving DecidableEq, Repr

/-! ### Clock outputs, period generators and clocking -/

/-- A square-wave generator (CKO output or PG): while it waits for its first rising edge, the raw time before which that is not
made; the raw time of its next edge and whether that edge rises, and the instant of its last rising edge on its own scale (R194 to
R196, R217). -/
structure Gen where
  waiting : Option Raw
  next : Option (Raw × Bool)
  lastRise : Option Int
  high : Bool
  stopping : Bool
  left : Nat                       -- rising edges left of COUNT, 0 without end (R217)
  ofs : Int                        -- sum of applied offsets at the last rising edge, for the ZTIME scale
  time : Bool                      -- scale, period, grid phase and active phase that the last rising edge took (R195)
  per : Nat
  phase : Nat
  width : Nat
  deriving DecidableEq, Repr

def Gen.idle : Gen := ⟨none, none, none, false, false, 0, 0, false, 0, 0, 0⟩

/-- The lock detector of SYN0: consecutive reference cycles in and out of window (R185), and the cycles and out-of-window cycles of
the block in progress (R186). -/
structure LockDet where
  inRun : Nat
  outRun : Nat
  blk : Nat
  blkOut : Nat
  deriving DecidableEq, Repr

/-- Clocking beyond its registers (R178 to R190). -/
structure Ck where
  started : Bool                   -- SYN0 has reached its first lock since main power (start-up step 6)
  target : Int                     -- y the DPLL has last computed
  everSel : Bool                   -- a frequency candidate is or has been selected since main reset
  qual : Nat                       -- bit k: frequency candidate k qualified
  wtrRun : Bool                    -- a better candidate is waiting out WTR
  measured : List Int              -- measured frequency of candidates 0-3 against the nominal ratio at y = 0, ppb; none yet if empty (R181)
  goodWins : Nat                   -- consecutive checker windows within 150 ppm (R188)
  refLost : Bool                   -- REF_LOSS was set within the comparison window in progress (R188)
  det : LockDet
  forced : Bool                    -- the loss of lock in force was forced by the test block (R405)
  gens : List (Nat × Gen)          -- CKO0-7 at 0-7, PG0-15 at 8-23
  deriving DecidableEq, Repr

/-! ### Timed actions (R199 to R226) -/

/-- A part of an action-table entry (R201). -/
structure Part where
  op : Nat
  res : Nat
  ofs : Nat
  arg : Nat
  deriving DecidableEq, Repr

/-- An action-table entry (R200): its image fields, the number of occurrences already begun, VALID and the agent that armed
it. TARGET is in 2^-16 ns with SCALE = 0, a raw time with SCALE = 1. -/
structure Action where
  target : Nat
  period : Nat
  count : Nat
  ctrl : Nat
  parts : List Part
  k : Nat
  valid : Bool
  since : Raw                      -- when the entry was armed
  deriving DecidableEq, Repr

def Action.empty : Action := ⟨0, 0, 0, 0, [], 0, false, 0⟩

/-- A committed occurrence in the firing stage (R204): the entry's index and contents at commitment, its target, the count
after it, whether VALID ends with it, and per part whether its queue held a frame for it (R210). -/
structure Staged where
  index : Nat
  entry : Action
  target : Int
  countAfter : Nat
  last : Bool
  got : List Bool
  deriving DecidableEq, Repr

/-- A part of an executed occurrence that is still to act: its index, whether a frame was there for it at commitment, whether the
occurrence was late, and how far from its instant that moves it (R205, R206). -/
structure LaterPart where
  occ : Staged
  ix : Nat
  part : Part
  got : Bool
  late : Bool
  shift : Int
  deriving DecidableEq, Repr

/-- The falling edge of a pulse, still to come (R216): its ball and raw time, and the entry and part that made it (R208). -/
structure Fall where
  ball : Nat
  raw : Raw
  index : Nat
  ix : Nat
  deriving DecidableEq, Repr

/-- A launch queue (R209 to R213): frames in order and the kept last frame. -/
structure LaunchQ where
  frames : List PFrame
  last : Option PFrame
  deriving DecidableEq, Repr

/-- A captured edge waiting in a unit's FIFO (R220). -/
structure Capture where
  rising : Bool
  seq : Nat
  lost : Nat
  raw : Raw
  deriving DecidableEq, Repr

/-- A capture unit (R219 to R221). -/
structure CapUnit where
  fifo : List Capture
  seq : Nat
  lost : Nat                       -- edges lost since the previous delivered record
  phase : Nat                      -- edges captured since the last one delivered to the FIFO, modulo DIV
  lastRaw : Option Raw
  deriving DecidableEq, Repr

/-- Timed actions beyond their registers. -/
structure Ta where
  table : List (Nat × Action)
  stage : List Staged              -- in order of commitment
  lqs : List (Nat × LaunchQ)
  cus : List (Nat × CapUnit)
  cuTurn : Nat                     -- unit served last by the round-robin delivery (R221)
  lastEdge : List (Nat × Raw)      -- raw time of the last edge placed per ball, plus 1 (0: none) (R208)
  falls : List Fall                -- falling edges of pulses still to come (R216)
  later : List LaterPart           -- parts of executed occurrences still to come (R205)
  lastIn : Option Nat              -- RAWCT of the last intake of the firing stage (R204)
  deriving DecidableEq, Repr

/-! ### Power, resets and straps (R29, R33) -/

/-- How far the standby domain is: no supply, held in its power-on reset, or running. -/
inductive StbyPhase where
  | off | held | up
  deriving DecidableEq, Repr

/-- Supplies, reset causes and start-up progress. -/
structure Pwr where
  aonUp : Bool                     -- VAON above the brown-out level
  vstbyHigh : Bool                 -- VSTBY above the switch-over levels of R233
  stby : StbyPhase
  profsel : Nat                    -- balls PROFSEL1, PROFSEL0
  refsel : Nat                     -- REFSEL of the standby profile (R178, R398)
  synStarted : Bool                -- step 6 has completed: SYN0 and every DLL are locked
  synLate : Bool                   -- step 6 ran past its bound (R29)
  mainRun : Bool                   -- the main reset has been released (step 7)
  loadWait : Bool                  -- step 8's loading waits for the program of a word that it reads (R401)
  step8 : Bool                     -- step 8 has completed (T4)
  step10 : Bool                    -- step 10 has been reached: commands execute
  mrHeld : Bool                    -- a manual reset holds the main domain and RST_OUT_N
  scanHeld : Bool                  -- a boundary-scan instruction holds the main domain (R408)
  rstOut : Bool                    -- RST_OUT_N is driven low (R279)
  us : Nat                         -- microseconds of the standby clock as told by the events that carry it
  deriving DecidableEq, Repr

/-! ### Atoll (R233 to R261) -/

/-- The Atoll beyond its registers. -/
structure At where
  acc : Int                        -- trim accumulator ACC (R236)
  hb : Nat                         -- last heartbeat second, in retention (R235)
  keys : List (Nat × Bytes)        -- key material per slot (R256)
  past : Nat                       -- bit n: ALn fires at the next second edge with PAST (R250)
  wakePulse : Bool                 -- WAKE_N is in a pulse that the Atoll releases itself
  changed : Bool                   -- a point changed since the mirror was written (R243)
  mirror : List (Nat × (Nat × List Nat))   -- per sector 800 and 801: generation and the 64 words of a committed copy
  atempOfs : Int                   -- ATEMP offset in force (R328), units of 1/16 degree
  atempNext : Option Int           -- the offset on its way over X2, until the next 32 kHz edge
  members : Nat                    -- members collected for the next union (R291): MS0-7, AL0-3, SW at bit 12
  resp : Nat                       -- their responses, bit order of R257
  actIdx : List Nat                -- action-table entries of the members with ACT, in the order they joined
  cellDetail : Bool                -- the MS2 member carries CELL_LOSS (R288)
  wait : Option Bool               -- the matrix waits to reset (true) or to shut down (false) (R293)
  waitSeq : Nat                    -- SEQ of the record that this response waits for
  waits : List (Bool × Nat)        -- later responses that wait too, each with its record's SEQ
  active : Nat                     -- bit k: MSk of MS0-MS4 is active (R289)
  mainAt : Raw                     -- raw time at which MAIN was entered (R241)
  loadAt : Option Raw              -- raw time of the last discipline load of this main run (R241)
  learnt : Option (Nat × Nat)      -- a learning update on its way over X2: point and word (R241, R243)
  lost : Nat                       -- bit i: the word of table point i was found uncorrectable (R243, R255)
  x6 : List (Nat × (Nat × Nat))    -- sideband writes of this 32 kHz cycle by address: value and RAWCT (R25)
  deriving DecidableEq, Repr

def At.reset : At := ⟨0, 0, [], 0, false, false, [], 0, none, 0, 0, [], false, none, 0, [], 0, 0, none, none, 0, []⟩

/-! ### Sequencer (R262 to R286) -/

/-- The sequencer beyond its registers. -/
structure Sq where
  learned : Bool                   -- the cascade position is known
  lastTrain : Option Nat           -- pulses of the train before (R268)
  progOk : Bool                    -- the program was accepted (R267)
  prog : Bytes                     -- the program read at start-up step 3 (R265)
  offQ : List Nat                  -- rails to switch off one after another (R271, R276)
  onQ : List (List Nat)            -- per SQ_RAIL_ON, the held rails to switch on one after another (R276)
  failC : Bool                     -- a class C failure asks for a power-down (R275)
  retry : Bool                     -- its retry waits for the end of OFFMIN
  asked : Bool                     -- a request's command pulse is on its way: it waits for the rest condition (R269)
  offAsked : Bool                  -- an off request of this RUN: no retry follows the power-down (R274, R283)
  btn : Bool                       -- PWRBTN_N is pressed
  btnLong : Bool                   -- the press has reached t_LONG
  deriving DecidableEq, Repr

def Sq.reset : Sq := ⟨false, none, false, [], [], [], false, false, false, false, false, false⟩

/-! ### Monitors (R287 to R306) -/

/-- A stimulus self-test in its blind window (R297): whether the stimulus has been detected, and the command to complete: source, TAG
and whether it stays quiet; none where a standby reset has taken the command. -/
structure SelfTest where
  hit : Bool
  cmd : Option (Src × Nat × Bool)
  deriving DecidableEq, Repr

/-- The monitors beyond their registers. -/
structure Mon where
  dets : List (Nat × List Nat)     -- times of detections per source, newest first (R289)
  unlock : List (Nat × Nat)        -- per agent (0 host, 1 sideband): when the first unlock value came, plus 1 (R296)
  holdoff : Bool                   -- unlocks are refused after a failure
  blind : List (Nat × SelfTest)    -- blind windows by source (R297)
  tested : List (Nat × Nat)        -- when the last test of each source began, plus 1
  buckets : List Nat               -- excess energy per 10 s, newest first, units of 10 uJ (R299)
  budLvl : Nat                     -- shedding level the budget demands
  jtLvl : Nat                      -- shedding level that thermal SHED imposes
  below : Bool                     -- USED has been below SHED_AT since the last step it asked for (R300)
  overMs : Nat                     -- milliseconds over the budget, modulo 1,000
  gov : Nat                        -- MON_GOV_THR of the profile in use since step 3 (R290), which the basic level shows (R18)
  deriving DecidableEq, Repr

def Mon.reset : Mon := ⟨[], [], false, [], [], [0], 0, 0, true, 0, 2640 + 4096 * 1320 + 2 ^ 24 * 40⟩

/-! ### Recorder (R307 to R325) -/

/-- Extremes of one quantity (R316) and its largest sample of the second in progress (R309). -/
structure Ext where
  min : Int
  max : Int
  minT : Nat
  maxT : Nat
  valid : Bool
  sat : Bool
  sec : Option Int
  deriving DecidableEq, Repr

def Ext.empty : Ext := ⟨0, 0, 0, 0, false, false, none⟩

/-- A record image in the staging queue: its 1,024 octets (SUPPR and PRES still 0), class, trigger, and whether the response matrix waits
for it (R293). -/
structure Image where
  urgent : Bool
  trig : Nat
  data : Bytes
  awaited : Bool
  place : Nat                      -- its KiB of the staging queue's 32 (R379)
  deriving DecidableEq, Repr

/-- A copy of the bad-sector map in main NVM (R320): generation and bitmap. -/
structure BadMap where
  gen : Nat
  map : Nat
  deriving DecidableEq, Repr

/-- A record write in progress: the slot (4 * sector + slot over sectors 0 to 767). -/
structure RecWrite where
  slot : Nat
  supprTaken : Nat
  deriving DecidableEq, Repr

/-- The recorder beyond its registers, with its sectors of main NVM. -/
structure Rec where
  ext : List (Nat × Ext)           -- per quantity
  hist : List (Nat × Nat)          -- bin counts: 32 * slot + bin
  hsel : List Nat                  -- histogram selection of the interval
  istart : Nat                     -- REC_OPSEC at the start of the interval
  queue : List Image               -- staging queue in order; the head may be being written
  writing : Option RecWrite
  secCnt : List (Nat × Nat)        -- counting quantities of the second in progress
  slots : List (Nat × Bytes)       -- committed records of main NVM per slot; an unlisted slot is empty
  torn : List (Nat × Bool)         -- slots cut off in a write (R318)
  maps : List (Nat × BadMap)       -- map copies 0 (A) and 1 (B) with a valid commit word
  mapBits : Nat                    -- the map in use
  staged : Nat                     -- images staged as mirrored in the standby domain (R324)
  pass : Option (Nat × Nat)        -- a compaction pass not yet ended: its next slot and the slots left (R322)
  reads : List Cmd                 -- REC_READ commands waiting for the write of a slot they reach (R323)
  deriving DecidableEq, Repr

/-! ### Calibration (R326 to R346) -/

/-- A calibration copy in main NVM (R340): header fields and values by offset; `valid` is false for a torn copy. -/
structure CalCopy where
  valid : Bool
  flags : Nat
  gen : Nat
  opsec : Nat
  pcc : Nat
  jtemp : Nat
  vals : List (Nat × Int)
  deriving DecidableEq, Repr

/-- A calibration run (R337): kind as in CAL_STAT.RUN, step mask, port mask, NOSTORE, whether it is periodic,
whether the reference has held in the REF_ALIGN in progress (R330), and the command to complete. -/
structure CalRun where
  kind : Nat
  steps : Nat
  ports : Nat
  nostore : Bool
  periodic : Bool
  refQual : Bool
  cmd : Option (Src × Nat × Bool)
  deriving DecidableEq, Repr

/-- A store in progress: the copy, its generation, and the command that waits for it with its status and failed units. -/
structure CalStore where
  copy : Nat
  gen : Nat
  cmd : Option (Src × Nat × Bool × Nat × Nat)
  deriving DecidableEq, Repr

/-- The calibration engine beyond its registers. The sets are values by the offsets of R340. -/
structure Cal where
  set0 : List (Nat × Int)
  set1 : List (Nat × Int)
  cur : Bool                       -- CALSET: the set in force
  swAt : Raw                       -- raw time from which it is in force
  seen : List Nat                  -- offsets of the values that a run since main reset has measured (R332)
  fromCopy : Bool                  -- the values in force came from a valid copy
  run : Option CalRun
  runAt : Nat                      -- RAWCT at its start
  phase : Nat                      -- how many of its phases have begun (R329, R335)
  failed : List (Nat × Nat)        -- step and unit whose precondition failed or was lost so far (R330)
  perAt : Nat                      -- REC_OPSEC when the last periodic run began, or the power-up run (R337)
  due : List CalRun                -- periodic and auto-trace runs waiting for the run in progress
  autoDone : Bool                  -- the auto-trace run of this power-up has been made
  store : Option CalStore
  storeNext : List (Option (Src × Nat × Bool × Nat × Nat)) -- stores that wait for the one in progress, by their commands
  storedAt : Option Nat            -- REC_OPSEC at the last store after a periodic run
  copies : List (Nat × CalCopy)    -- copies 0 (A) and 1 (B) of main NVM
  deriving DecidableEq, Repr

/-! ### Standby NVM, test block, PSM and boundary scan -/

/-- The standby NVM (R394) and its programming interface (R401). -/
structure Snvm where
  data : Memory
  bad : List (Nat × Bool)          -- uncorrectable code words
  weak : List (Nat × Nat)          -- bits in error, one or two, of correctable ones
  key : Bool                       -- the first unlock value has been written
  op : Option (Nat × Bytes)        -- a program in progress: code word and data
  rd : Bool                        -- a read waits for it to end (R401)
  selects : List Cmd               -- PROF_SELECT commands that wait for it to end (R401)
  deriving DecidableEq, Repr

/-- A ZN2440 microcode image being received (R411): the words so far, the count C, the sum of body words, the last word. -/
structure Ucode where
  words : Nat
  count : Nat
  sum : Nat
  last : Nat
  ok : Bool
  deriving DecidableEq, Repr

def Ucode.none : Ucode := ⟨0, 0, 0, 0, true⟩

/-- Partition service mode beyond its registers. -/
structure Psm where
  pages : List (Nat × Nat)         -- legacy page words by BAR0 address (R409)
  ucode : List (Nat × Ucode)       -- per partition
  deriving DecidableEq, Repr

/-! ### What can stop a command -/

/-- Faults. The block has none: an error of a bus, a supply or a memory is an effect the spec describes. -/
inductive Fault where
  /-- Raised by no command; kept so that the type has a name for a fault. Safe. -/
  | none
  deriving DecidableEq, Repr

/-- Refusals. -/
inductive Refusal where
  /-- Raised by the arm of a command that has no meaning in the model. Safe: nothing is claimed of it. -/
  | notModelled (mnemonic : String)
  deriving DecidableEq, Repr

/-! ### The state -/

/-- The state of the block. -/
structure State where
  fuses : Fuses
  fMain : List (Nat × Nat)         -- register fields of reset domain MAIN that differ from their reset value
  fStby : List (Nat × Nat)
  fAon : List (Nat × Nat)
  fSticky : List (Nat × Nat)
  cyc : Nat                        -- RAWCT (R41)
  fresh : Nat                      -- counter behind the free values (model's own)
  out : List Output                -- outputs in order (model's own)
  pwr : Pwr
  tb : Tb
  srv : Srv
  ports : List (Nat × Port)
  hif : Hif
  sb : Sb
  lat : Latches
  mem : Mem
  ck : Ck
  ta : Ta
  ato : At
  sq : Sq
  mon : Mon
  recd : Rec
  cal : Cal
  snvm : Snvm
  nvErrs : List (Nat × Nat)        -- main NVM (R341): bits in error per 16-byte word, 256 words to a sector
  tstKey : Bool                    -- the first value of the test block's unlock has been written (R404)
  psm : Psm
  jtag : Nat                       -- boundary-scan instruction register (R407)
  scanOut : List (Nat × Bool)      -- boundary register (R408): output cells that hold 1, by cell number
  pending : List Instr             -- commands waiting, first in, first out
  deriving DecidableEq, Repr

/-- What a command's meaning answers. -/
abbrev Result := Host.Outcome State Fault Refusal

/-! ### Reset values -/

/-- A ZN4832 of the first die revision. DESIGN CHOICE (assumption 6): the fused facts are the part's own; the model takes the
largest variant and otherwise the smallest values that R403 allows. -/
def Fuses.default : Fuses :=
  { variant := .zn4832, rev := 1, lot := 0, wafer := 1, dieX := 0, dieY := 0, serial := 0x4832000000000001
    f0 := 0, t0 := 25, k := 0 }

def Tb.reset : Tb :=
  { cur := none, hist := [], nextIndex := 0, slew := none, slewResid := 0, sumOfs := 0, hoFirst := none, revisions := []
    lockRun := 0, lostRun := 0, fromSeeded := false, newSource := false, lockedAt := 0, calset := false, modRx := [], modTx := [] }

def Srv.reset : Srv :=
  { acc := [], swRate := none, synt := false, m := 0, auBase := 0xFFFFFFFF, auEntry := 0, everSel := false, lastMethod := 0, tmpl := []
    gmTlv := List.replicate 14 0 }

/-- PRESUMED (assumption 52): the values that the PCI Express Base Specification gives after a reset of the function. -/
def Cfg.reset : Cfg := ⟨[0, 0, 0, 0, 0, 0], false, false, 0, 2, false, false⟩

def Hif.reset : Hif := ⟨[], [], [], 0, 0, [], [], [], 0, 0, [], 0, none, 0, [], Cfg.reset⟩

def Sb.reset : Sb := ⟨0, 0, false, 0, false⟩

def Mem.reset : Mem := ⟨[], [], [], [], 0, [], [], false⟩

def Ck.reset : Ck := ⟨false, 0, false, 0, false, [], 0, false, ⟨0, 0, 0, 0⟩, false, []⟩

def Ta.reset : Ta := ⟨[], [], [], [], 0, [], [], [], none⟩

def Rec.reset : Rec := ⟨[], [], [0, 1, 2, 8, 10, 11, 12, 15], 0, [], none, [], [], [], [], 0, 0, none, []⟩

def Cal.reset : Cal := ⟨[], [], false, 0, [], false, none, 0, 0, [], 0, [], false, none, [], none, []⟩

def Snvm.reset : Snvm := ⟨[], [], [], false, none, false, []⟩

def Pwr.reset : Pwr :=
  { aonUp := true, vstbyHigh := true, stby := .off, profsel := 0, refsel := 0, synStarted := false, synLate := false
    mainRun := false, loadWait := false, step8 := false, step10 := false, mrHeld := false, scanHeld := false, rstOut := true, us := 0 }

/-- The machine right after the Atoll power-on reset, the deepest of the four resets (R33): VAON has risen with VSTBY above
2.9 V (so that AT_STAT.SRC reads its reset value), the standby and main domains are cleared and start-up stands before step 2
(R29). Every register field is at its reset value (R16), nothing is in any queue, memories are empty. Where the spec states no
reset value the log entries 6 and 7 name it. -/
def State.reset : State :=
  { fuses := Fuses.default, fMain := [], fStby := [], fAon := [], fSticky := [], cyc := 0, fresh := 0, out := []
    pwr := Pwr.reset, tb := Tb.reset, srv := Srv.reset, ports := [], hif := Hif.reset, sb := Sb.reset, lat := ⟨[], []⟩
    mem := Mem.reset, ck := Ck.reset, ta := Ta.reset, ato := At.reset, sq := Sq.reset, mon := Mon.reset, recd := Rec.reset
    cal := Cal.reset, snvm := Snvm.reset, nvErrs := [], tstKey := false, psm := ⟨[], []⟩, jtag := 0x02, scanOut := [], pending := [] }

end Sys2Proof.Machine
end

