-- ==== Sys2Proof/Machine/Ops.lean ====
section
/-!
DEFINITION. The named operations over the state that every family uses: register fields, saturating counters, times, per-port
tables, outputs, free values. Effects on rings and events are in HostOps.lean, register accesses in Operands.lean.
-/
namespace Sys2Proof.Machine

/-! ### Fused values and reset values of fields -/

/-- Ports bonded on a variant (R1). -/
def Variant.ports : Variant → Nat
  | .zn4808 => 8
  | .zn4816 => 16
  | .zn4832 => 32

/-- TIO balls bonded (R1). -/
def Variant.tios : Variant → Nat
  | .zn4832 => 16
  | _ => 8

/-- CKO outputs bonded (R1). -/
def Variant.ckos : Variant → Nat
  | .zn4832 => 8
  | _ => 4

/-- DLL d serves a bonded resource (R191). -/
def Variant.dllBonded (v : Variant) (d : Nat) : Bool :=
  if d < 8 then decide (d < v.ckos) else if d < 24 then decide (d - 8 < v.tios) else decide ((d - 24) / 2 < v.ports)

/-- Rail channels bonded (R1). -/
def Variant.rails : Variant → Nat
  | .zn4832 => 24
  | _ => 12

/-- ID_PART of a variant (R403). -/
def Variant.part : Variant → Nat
  | .zn4808 => 0x4808
  | .zn4816 => 0x4816
  | .zn4832 => 0x4832

/-- Shared cells free with the default reservation of 64 cells per bonded port (R101). -/
def Variant.poolFree (v : Variant) : Nat := 32768 - 64 * v.ports

/-- Fused, strapped and variant-dependent reset values, by the number that `Rst.fuse` carries (R101, R176, R178, R239, R403). -/
def State.fuseValue (s : State) (id : Nat) : Nat :=
  match id with
  | 0 => s.fuses.variant.part
  | 1 => s.fuses.rev
  | 2 => s.fuses.lot
  | 3 => s.fuses.wafer
  | 4 => s.fuses.dieX
  | 5 => s.fuses.dieY
  | 6 => s.fuses.serial
  | 7 => s.pwr.refsel
  | 8 => s.fuses.serial
  | 9 => s.fuses.f0
  | 10 => s.fuses.t0
  | 11 => s.fuses.k
  | 12 => s.fuses.variant.poolFree
  | _ => 64 * s.fuses.variant.ports

/-- Default masks of MS0 to MS7 (R287) in the bit order of R306: LOG, INT, WAKE, TAINT, RESET, SHUTDOWN, ZEROIZE. -/
def monRespTable : List Nat := [13, 13, 11, 1, 13, 11, 3, 35]

/-- Default K of MS0 to MS7 (R287). -/
def monKTable : List Nat := [16, 2, 1, 2, 1, 1, 1, 4]

/-- Default W of MS0 to MS7 in ms (R287). -/
def monWTable : List Nat := [20, 3000, 1, 20000, 1, 1, 1, 8]

/-- Reset PARAM of MS0 to MS4: MESH_RATE of MS1, ATEMP_LO and ATEMP_HI of MS3 (R306). -/
def monParamTable : List Nat := [0, 1, 0, 0x07D00D80, 0]

/-- The reset value of instance `i` of a field. -/
def State.rst (s : State) (f : Fld) (i : Nat) : Nat :=
  match f.rst with
  | .val n => n
  | .fuse id => s.fuseValue id
  | .ringVec => if i < 32 then 0 else if i < 64 then i - 32 else if i < 128 then i - 32 else 96 + (i - 128)
  | .ringCpsel => if i < 32 then i else 0
  | .monResp o => monRespTable.getD (i + o) 0
  | .monK o => monKTable.getD (i + o) 1
  | .monW o => monWTable.getD (i + o) 1
  | .monParam o => monParamTable.getD (i + o) 0

/-! ### Reading and writing fields -/

/-- The key of instance `i` of a field in its domain's table. -/
def Fld.key (f : Fld) (i : Nat) : Nat := (f.addr + f.stride * i) * 32 + f.lo

/-- The table of a reset domain. -/
def State.tbl (s : State) : Dom → List (Nat × Nat)
  | .main => s.fMain
  | .stby => s.fStby
  | .aon => s.fAon
  | .sticky => s.fSticky

/-- The state with another table for a reset domain. -/
def State.setTbl (s : State) (d : Dom) (t : List (Nat × Nat)) : State :=
  match d with
  | .main => { s with fMain := t }
  | .stby => { s with fStby := t }
  | .aon => { s with fAon := t }
  | .sticky => { s with fSticky := t }

/-- The value a field holds: bits [width-1:0] of what its table has for it. -/
def State.get (s : State) (f : Fld) (i : Nat := 0) : Nat := Store.get (s.rst f i) (s.tbl f.dom) (f.key i) % 2 ^ f.width

/-- Store a value, cut to the field's width. -/
def State.set (s : State) (f : Fld) (v : Nat) (i : Nat := 0) : State :=
  s.setTbl f.dom (Store.set (s.rst f i) (s.tbl f.dom) (f.key i) (v % 2 ^ f.width))

/-- A one-bit field as a truth value. -/
def State.on (s : State) (f : Fld) (i : Nat := 0) : Bool := s.get f i != 0

/-- Set a one-bit field. -/
def State.put (s : State) (f : Fld) (b : Bool) (i : Nat := 0) : State := s.set f (b2n b) i

/-- Set a bit to 1: an event or flag the hardware raises. -/
def State.raise (s : State) (f : Fld) (i : Nat := 0) : State := s.set f 1 i

/-- Set a bit to 0. -/
def State.lower (s : State) (f : Fld) (i : Nat := 0) : State := s.set f 0 i

/-- The value that governs: a value outside the field's limits acts as the nearer limit. -/
def State.eff (s : State) (f : Fld) (i : Nat := 0) : Nat :=
  match f.lim with
  | none => s.get f i
  | some (lo, hi) => max lo (min hi (s.get f i))

/-- A field read as two's complement. -/
def State.int (s : State) (f : Fld) (i : Nat := 0) : Int := signed f.width (s.get f i)

/-- Store an integer, two's complement. -/
def State.setInt (s : State) (f : Fld) (v : Int) (i : Nat := 0) : State := s.set f (toBits f.width v) i

/-- The counting quantity of R308 that a counter's increments enter, by the address of its register: Q16 corrected words, Q18
held frames, Q19 drops, truncations and copies not made, Q22 SPX violations. Q17, Q20 and Q21 are tallied where they occur. -/
def Fld.quantity (f : Fld) : Option Nat :=
  match f.addr with
  | 0x20040 | 0x20060 => some 16
  | 0x8013C => some 18
  | 0x8011C | 0x80120 | 0x80124 => some 19
  | 0xA0118 | 0xA011C | 0xA0120 | 0xA0124 | 0xA0128 | 0xA012C => some 22
  | _ => none

/-- Count `n` more in counting quantity `q` of the second in progress (R308). -/
def State.tally (s : State) (q n : Nat) : State :=
  { s with recd := { s.recd with secCnt := Store.set 0 s.recd.secCnt q (Store.get 0 s.recd.secCnt q + n) } }

/-- Count `n` more in a field that saturates at its largest value; what the recorder counts per second is counted there too. -/
def State.bump (s : State) (f : Fld) (i : Nat := 0) (n : Nat := 1) : State :=
  let s := s.set f (satAdd f.width (s.get f i) n) i
  match f.quantity with
  | some q => s.tally q n
  | none => s

/-- Count one more in a field that wraps. -/
def State.incr (s : State) (f : Fld) (i : Nat := 0) : State := s.set f (s.get f i + 1) i

/-- A list of fields of one instance, all set to 0 (the CNT_CLR writes). -/
def State.clearAll (s : State) (i : Nat) (fs : List Fld) : State := fs.foldl (fun s f => s.set f 0 i) s

/-! ### Time, free values, outputs -/

/-- RAWCT now, as a raw time with tap 0 (R42). -/
def State.raw (s : State) : Raw := s.cyc * tapsPerCycle

/-- Number the revisions that have not begun after the generation in force, each with the next one (R56, R58). -/
def beginRevisions : Nat → List Revision → List Revision
  | _, [] => []
  | g, v :: t => if v.begun then v :: beginRevisions g t else { v with gen := (g + 1) % 65536, begun := true } :: beginRevisions (g + 1) t

/-- RAWCT counts on to cycle `c`. In the SCLK cycle after the one that published the epoch, each waiting revision begins: the
generation is incremented and REVISING is set (R41, R56, R58). -/
def State.passTo (s : State) (c : Nat) : State :=
  let s : State := { s with cyc := c }
  let n : Nat := (s.tb.revisions.filter (fun v => !v.begun)).length
  if n = 0 then s
  else
    let g := s.get F.TB_GEN_GEN
    let t : State := { s with tb := { s.tb with revisions := beginRevisions g s.tb.revisions } }
    (t.set F.TB_GEN_GEN (g + n)).raise F.TB_STATUS_REVISING

/-- An event that carries or implies a raw time tells that RAWCT has reached it (assumption 2). Only while the main domain
runs does RAWCT count (R41). -/
def State.reach (s : State) (r : Raw) : State :=
  if s.pwr.mainRun && decide (s.cyc < r / tapsPerCycle) then s.passTo (r / tapsPerCycle) else s

/-- A free number, and the state in which the next one will be another. -/
def State.free (s : State) : Nat × State := (Config.freeNat s.fresh, { s with fresh := s.fresh + 1 })

/-- Emit an output. -/
def State.emit (s : State) (o : Output) : State := { s with out := s.out ++ [o] }

/-- Emit several outputs in order. -/
def State.emits (s : State) (os : List Output) : State := { s with out := s.out ++ os }

/-! ### Ports -/

/-- A port is bonded on this variant (R1). -/
def State.bonded (s : State) (n : Nat) : Bool := decide (n < s.fuses.variant.ports)

/-- What port `n` holds beyond its registers. -/
def State.port (s : State) (n : Nat) : Port := Store.get Port.idle s.ports n

/-- Replace it. -/
def State.setPort (s : State) (n : Nat) (p : Port) : State := { s with ports := Store.set Port.idle s.ports n p }

/-- Change it. -/
def State.modPort (s : State) (n : Nat) (f : Port → Port) : State := s.setPort n (f (s.port n))

/-- The SPX engine of port `n`. -/
def State.spx (s : State) (n : Nat) : Spx := (s.port n).spx

/-- Change it. -/
def State.modSpx (s : State) (n : Nat) (f : Spx → Spx) : State := s.modPort n (fun p => { p with spx := f p.spx })

/-- The termination assist of port `n`. -/
def State.ptp (s : State) (n : Nat) : Ptp := (s.port n).ptp

/-- Change it. -/
def State.modPtp (s : State) (n : Nat) (f : Ptp → Ptp) : State := s.modPort n (fun p => { p with ptp := f p.ptp })

/-- The receiver of a side of port `n`. -/
def State.rx (s : State) (n : Nat) (sd : Side) : Receiver :=
  match sd with
  | .line => (s.port n).lineRx
  | .host => (s.port n).hostRx

/-- Change it. -/
def State.modRx (s : State) (n : Nat) (sd : Side) (f : Receiver → Receiver) : State :=
  s.modPort n (fun p => match sd with
    | .line => { p with lineRx := f p.lineRx }
    | .host => { p with hostRx := f p.hostRx })

/-- An egress of port `n`. -/
def State.egress (s : State) (n : Nat) (sd : Side) : Egress :=
  match sd with
  | .line => (s.port n).line
  | .host => (s.port n).host

/-- Change it. -/
def State.modEgress (s : State) (n : Nat) (sd : Side) (f : Egress → Egress) : State :=
  s.modPort n (fun p => match sd with
    | .line => { p with line := f p.line }
    | .host => { p with host := f p.host })

end Sys2Proof.Machine

namespace Sys2Proof
open Machine

/-- The other side. -/
def Side.other : Side → Side
  | .line => .host
  | .host => .line

end Sys2Proof

namespace Sys2Proof.Machine

/-- Do the same to every port number below `n`, in ascending order. -/
def State.forPorts (s : State) (n : Nat) (f : Nat → State → State) : State := (List.range n).foldl (fun s i => f i s) s

/-! ### Rail states (R264) -/

abbrev railOffSt : Nat := 0
abbrev railRamp : Nat := 1
abbrev railGood : Nat := 2
abbrev railFalling : Nat := 3

/-! ### Readiness (R24, R29, R32) -/

/-- The main domain runs: out of reset since start-up step 7. -/
def State.mainUp (s : State) : Bool := s.pwr.mainRun

/-- Commands execute: start-up step 10 has been reached (R32). -/
def State.ready (s : State) : Bool := s.pwr.mainRun && s.pwr.step10

end Sys2Proof.Machine
end

