-- ==== Sys2Proof/Machine/MemOps.lean ====
section
/-!
DEFINITION. On-chip memory (R378 to R393): reads and writes of code words with their errors, the mailbox, and the states of the
memory test engine. A word is named by a key: twice its word address, plus 1 for the mailbox.
-/
namespace Sys2Proof.Machine

/-! ### Code words (R384, R385, R405) -/

/-- Key of an SRAM word and of a mailbox word. -/
def sramKey (w : Nat) : Nat := 2 * w
def mailboxKey (w : Nat) : Nat := 2 * w + 1

/-- The bits of a 144-bit code word that are in error, as a mask. -/
def State.wordMask (s : State) (k : Nat) : Nat := Store.get 0 s.mem.errs k

/-- How many of the 144 bits a mask holds. -/
def wrongBits (m : Nat) : Nat := if m = 0 then 0 else ((List.range 144).filter (fun i => m.testBit i)).length

/-- Bits in error of a word. -/
def State.wordErrs (s : State) (k : Nat) : Nat := wrongBits (s.wordMask k)

/-- The word is poisoned. -/
def State.poisoned (s : State) (k : Nat) : Bool := Store.get false s.mem.poison k

/-- Store the errors and the tag of a word. -/
def State.setWord (s : State) (k m : Nat) (p : Bool) : State :=
  { s with mem := { s.mem with errs := Store.set 0 s.mem.errs k m, poison := Store.set false s.mem.poison k p } }

/-- The key that TST_ECC_ADDR names (R406). -/
def State.eccKey (s : State) : Nat :=
  if s.on F.TST_ECC_ADDR_KIND then mailboxKey (s.get F.TST_ECC_ADDR_WADDR % 4096) else sramKey (s.get F.TST_ECC_ADDR_WADDR)

/-- States of the memory test engine (R387). -/
abbrev mtIdle : Nat := 0
abbrev mtCopy : Nat := 1
abbrev mtTest : Nat := 2
abbrev mtReturn : Nat := 3
abbrev mtPaused : Nat := 4

/-- Word `w` lies in the borrowed window. -/
def State.borrowed (s : State) (w : Nat) : Bool :=
  let st := s.get F.MEM_STATUS_MT_STATE
  decide (mtCopy ≤ st) && decide (st ≤ mtReturn) && decide (w / 256 = s.get F.MEM_MT_WIN_IDX)

/-- The kind under which the errors of a word are counted (R393): 1 for the mailbox and for a word that the shadow serves, in TEST
and RETURN of its window (R388); else 0. -/
def State.wordKind (s : State) (k : Nat) : Nat :=
  if k % 2 = 1 || (s.borrowed (k / 2) && s.get F.MEM_STATUS_MT_STATE ≠ mtCopy) then 1 else 0

/-- `n` bits of a code word from bit `p` on, modulo 144. -/
def bitsFrom (p n : Nat) : Nat := (List.range n).foldl (fun m i => m ||| 2 ^ ((p + i) % 144)) 0

/-- A write reaches a word, of which the bits in `m` are wrong: an error armed for it inverts its bits as it is stored, and the arm is used
up (R405). -/
def State.storeWord (s : State) (k m : Nat) (p : Bool) : State :=
  if s.on F.TST_ECC_CTRL_ARM && s.eccKey = k then
    (s.lower F.TST_ECC_CTRL_ARM).setWord k (m ^^^ bitsFrom (s.get F.TST_ECC_CTRL_P) (max 1 (s.get F.TST_ECC_CTRL_NBITS))) p
  else s.setWord k m p

/-- A full-word write clears errors and tag. -/
def State.writeWord (s : State) (k : Nat) : State := s.storeWord k 0 false

/-- The most recent uncorrectable word (R385). -/
def State.eccLast (s : State) (addr kind : Nat) : State :=
  (((s.raise F.MEM_EVT_UE).set F.MEM_ECC_LAST_ADDR_ADDR addr).set F.MEM_ECC_LAST_INFO_KIND kind).set F.MEM_ECC_LAST_INFO_SYND
    (Config.syndrome addr kind)

/-- What the code makes of `n` wrong bits of a word (R384): 0 right, 1 or 2 corrected, 3 uncorrectable. More may be read as
uncorrectable, as corrected or as right, and a free value says which. -/
def verdict (word errs n : Nat) : Nat := if n ≤ 3 then n else Config.beyond word errs % 4

/-- A read of a word: true where it is uncorrectable. One or two wrong bits are corrected, counted and written back; three make
it poisoned, counted once. DESIGN CHOICE (assumption 4): where more are taken for corrected or right, what the word holds is still what
was written. -/
def State.readWord (s : State) (k : Nat) : Bool × State :=
  let kind := s.wordKind k
  if s.poisoned k then (true, s)
  else
    let n := verdict k (s.wordMask k) (s.wordErrs k)
    if n = 0 then (false, s)
    else if n ≤ 2 then
      let s := (s.bump F.MEM_ECC_CE_CE kind).setWord k 0 false
      (false, if n = 2 then s.raise F.MEM_EVT_CE2 else s)
    else (true, ((s.bump F.MEM_ECC_UE_UE kind).setWord k (s.wordMask k) true).eccLast (k / 2) kind)

/-- Read `n` words from a key on (step 2 keys): true where any is uncorrectable. -/
def State.readWords (s : State) (k : Nat) : Nat → Bool × State
  | 0 => (false, s)
  | n + 1 =>
    let r := s.readWord k
    let q := r.2.readWords (k + 2) n
    (r.1 || q.1, q.2)

/-- Write `n` words from a key on. -/
def State.writeWords (s : State) (k : Nat) : Nat → State
  | 0 => s
  | n + 1 => (s.writeWord k).writeWords (k + 2) n

/-- Read the words with these keys up to the first that is uncorrectable: its place among them. -/
def State.readUntil (s : State) : Nat → List Nat → Option Nat × State
  | _, [] => (none, s)
  | i, k :: t =>
    let r := s.readWord k
    if r.1 then (some i, r.2) else r.2.readUntil (i + 1) t

/-- Read the words with these keys: for each, whether it is uncorrectable. -/
def State.readEach (s : State) : List Nat → List Bool × State
  | [] => ([], s)
  | k :: t =>
    let r := s.readWord k
    let q := r.2.readEach t
    (r.1 :: q.1, q.2)

/-- Write the words with these keys. -/
def State.writeEach (s : State) (ks : List Nat) : State := ks.foldl (fun s k => s.writeWord k) s

/-! ### Main NVM (R340 to R342, R384) -/

/-- What the code makes of a word of main NVM with these bits in error. -/
def nvVerdict (p : Nat × Nat) : Nat := verdict p.1 p.2 p.2

/-- The words with errors among `n` from word `w` on. -/
def State.nvIn (s : State) (w n : Nat) : List (Nat × Nat) := s.nvErrs.filter (fun p => decide (w ≤ p.1) && decide (p.1 < w + n))

/-- One of them is uncorrectable. -/
def State.nvDead (s : State) (w n : Nat) : Bool := (s.nvIn w n).any (fun p => nvVerdict p = 3)

/-- One of them needs a two-bit correction. -/
def State.nvWeak (s : State) (w n : Nat) : Bool := (s.nvIn w n).any (fun p => nvVerdict p = 2)

/-- A code word that came to its sink with the verdict `v` of its kind is counted (R384, R385). -/
def State.countWord (s : State) (addr kind v : Nat) : State :=
  if v = 0 then s
  else if v ≤ 2 then
    let s := s.bump F.MEM_ECC_CE_CE kind
    if v = 2 then s.raise F.MEM_EVT_CE2 else s
  else (s.bump F.MEM_ECC_UE_UE kind).eccLast addr kind

/-- `n` words of main NVM from word `w` on are read. -/
def State.nvWords (s : State) (w n : Nat) : State := (s.nvIn w n).foldl (fun (s : State) p => s.countWord p.1 3 (nvVerdict p)) s

/-- They are programmed anew. -/
def State.nvClear (s : State) (w n : Nat) : State :=
  { s with nvErrs := s.nvErrs.filter (fun p => !(decide (w ≤ p.1) && decide (p.1 < w + n))) }

/-- Bits in error that words of main NVM are found to hold. -/
def State.nvTold (s : State) (l : List (Nat × Nat)) : State := { s with nvErrs := l.foldl (fun t p => Store.set 0 t p.1 p.2) s.nvErrs }

/-- The areas of main NVM and the sectors that they begin at (R341): the record areas, the calibration copies, the mirror, the copies of
the bad-sector map; what follows is reserve. -/
def nvSectors : Nat := 1024
def sectorWord (sec : Nat) : Nat := 256 * sec
def recordWord (slot : Nat) : Nat := 64 * slot
def calCopyWord (k : Nat) : Nat := sectorWord (768 + 16 * k)
def mapSector (k : Nat) : Nat := 802 + k

/-! ### Pool cells (R95, R383) -/

/-- The lowest cell at or after `n` that is not in use; the table is in rising order. -/
def freeFrom (n : Nat) : List (Nat × Bool) → Nat
  | [] => n
  | p :: t => if p.1 < n then freeFrom n t else if p.1 = n then freeFrom (n + 1) t else n

/-- Free cells of pool group `g`: its 4,096 cells less those in use. -/
def State.groupFree (s : State) (g : Nat) : Nat := 4096 - (s.mem.cells.filter (fun p => decide (p.1 / 4096 = g))).length

/-- A group grants cells: not in retention and not waking (R383). -/
def State.groupAwake (s : State) (g : Nat) : Bool :=
  !(s.get F.MEM_STATUS_RET).testBit g && !(s.get F.MEM_STATUS_WAKING).testBit g

/-! ### The mailbox (R391, R392) -/

/-- Words that `n` octets from mailbox offset `a` touch. -/
def mailboxWords (a n : Nat) : Nat := if n = 0 then 0 else (a % 65536 + n - 1) / 16 - a % 65536 / 16 + 1

/-- Octets of the mailbox; offsets are taken modulo 64 KiB. -/
def State.mailboxRead (s : State) (a n : Nat) : Bytes := (List.range n).map (fun i => s.mem.mailbox.read ((a + i) % 65536))

/-- The keys of the words under `n` octets from mailbox offset `a` on. -/
def mailboxKeys (a n : Nat) : List Nat := (List.range (mailboxWords a n)).map (fun i => mailboxKey ((a % 65536 / 16 + i) % 4096))

/-- The words under `n` octets are read through port B: true where one is uncorrectable. -/
def State.mailboxCheck (s : State) (a n : Nat) : Bool × State :=
  let r := s.readEach (mailboxKeys a n)
  (r.1.any id, r.2)

/-- Write octets through port B, and the words they lie in. -/
def State.mailboxWrite (s : State) (a : Nat) (b : Bytes) : State :=
  let m := b.zipIdx.foldl (fun (m : Memory) p => m.write ((a + p.2) % 65536) p.1) s.mem.mailbox
  { s with mem := { s.mem with mailbox := m } }.writeEach (mailboxKeys a b.length)

/-! ### The memory test engine (R387, R389) -/

/-- The engine and the scrub may work: MT_EN and no shedding step 1. -/
def State.mtMay (s : State) : Bool := s.on F.MEM_CTRL_MT_EN && !s.mem.pauseReq

/-- IDLE and PAUSED follow MT_EN and the governor. -/
def State.mtReview (s : State) : State :=
  let st := s.get F.MEM_STATUS_MT_STATE
  if st = mtIdle && !s.mtMay then (s.set F.MEM_STATUS_MT_STATE mtPaused).raise F.MEM_STATUS_MT_PAUSED
  else if st = mtPaused && s.mtMay then (s.set F.MEM_STATUS_MT_STATE mtIdle).lower F.MEM_STATUS_MT_PAUSED
  else s

/-- A window lies in a group in retention. -/
def State.windowRetained (s : State) (w : Nat) : Bool := decide (w < 2048) && (s.get F.MEM_STATUS_RET).testBit (w / 256)

/-- The next window: past the last one the pass count advances. -/
def State.nextWindow (s : State) : State :=
  let i := s.get F.MEM_MT_WIN_IDX
  if 3071 ≤ i then (s.set F.MEM_MT_WIN_IDX 0).bump F.MEM_MT_WIN_PASS else s.set F.MEM_MT_WIN_IDX (i + 1)

/-- Skip windows in retention. -/
def State.skipWindows (s : State) : Nat → State
  | 0 => s
  | n + 1 => if s.windowRetained (s.get F.MEM_MT_WIN_IDX) then s.nextWindow.skipWindows n else s

end Sys2Proof.Machine
end

