-- ==== Sys2Proof/Machine/HostOps.lean ====
section
/-!
DEFINITION. The device's writes to host memory: ring entries, completions, event-ring entries, MSI-X messages, and the alert
line of the sideband (R349 to R351, R361 to R368, R373, R375).
-/
namespace Sys2Proof.Machine

/-! ### MSI-X (R367, R368) -/

/-- Fire a vector: a message, or its pending bit while it or the whole function is masked; nothing while MSI-X is not enabled
(PRESUMED, assumption 52). -/
def State.fire (s : State) (v : Nat) : State :=
  if !s.hif.cfg.msixOn then s
  else if s.hif.cfg.mask || s.on F.MSIX_CTRL_MASK v then s.set F.MSIX_PBA_PEND (s.get F.MSIX_PBA_PEND (v / 32) ||| 2 ^ (v % 32)) (v / 32)
  else s.emit (.msix v)

/-- An entry has been written to ring `r`: count it, and fire the ring's vector under the moderation of R368. -/
def State.signalRing (s : State) (r : Nat) : State :=
  let n := Store.get 0 s.hif.unsig r + 1
  if n ≥ s.get F.HIF_RING_CFG_MOD_CNT r then
    { s with hif := { s.hif with unsig := Store.set 0 s.hif.unsig r 0 } }.fire (s.get F.HIF_RING_CFG_VEC r)
  else { s with hif := { s.hif with unsig := Store.set 0 s.hif.unsig r n } }

/-! ### Ring entries (R349 to R351) -/

/-- Entries of ring `r`. -/
def State.ringSize (s : State) (r : Nat) : Nat := 2 ^ s.eff F.HIF_RING_CFG_LOG2 r

/-- Octets of an entry of ring `r` (R349). -/
def ringEntry (r : Nat) : Nat := if 32 ≤ r && r < 64 then 16 else 32

/-- A device-written ring that takes no entry: full (tail + 1 = head), treated as full by the test block (R405), or disabled. -/
def State.ringFull (s : State) (r : Nat) : Bool :=
  !s.on F.HIF_RING_CFG_EN r
    || (s.on F.TST_BP_EN && decide (s.get F.TST_BP_RING = r))
    || decide ((s.get F.HIF_RING_PTR_DEVPTR r + 1) % s.ringSize r = Store.get 0 s.hif.swPtr r % s.ringSize r)

/-- The PHASE bit of the next entry of ring `r`. -/
def State.ringPhase (s : State) (r : Nat) : Nat := s.get F.HIF_RING_PTR_PHASE r

/-- Write one entry to device-written ring `r`, advance its tail, invert the phase at a wrap (R350) and signal it. The
octets already carry the phase. -/
def State.ringWrite (s : State) (r : Nat) (e : Bytes) : State :=
  let p := s.get F.HIF_RING_PTR_DEVPTR r
  let s := s.emit (.dma (s.get F.HIF_RING_BASE_BASE r + p * ringEntry r) e)
  let q := (p + 1) % s.ringSize r
  let s := s.set F.HIF_RING_PTR_DEVPTR q r
  let s := if q = 0 then s.set F.HIF_RING_PTR_PHASE (1 - s.get F.HIF_RING_PTR_PHASE r) r else s
  s.signalRing r

/-! ### Alerts (R375) -/

/-- Set an alert source. A bit that goes from 0 to 1 lets ALERT_N assert again after an Alert Response. -/
def State.alert (s : State) (b : Nat) : State :=
  let a := s.get F.HIF_SB_ALERT_ALERT
  if a.testBit b then s
  else { s.set F.HIF_SB_ALERT_ALERT (a ||| 2 ^ b) with sb := { s.sb with araWon := false } }

/-- ALERT_N is low: an unmasked alert is pending and no Alert Response has released the line since. -/
def State.alertLow (s : State) : Bool :=
  decide (s.get F.HIF_SB_ALERT_ALERT &&& s.get F.HIF_SB_CTRL_AMASK ≠ 0) && !s.sb.araWon

/-! ### Event-ring entries (R364 to R366) -/

/-- Octets of an event entry: TYPE, PHASE and flags, UNIT, EVSEQ, payload (R365). -/
def eventEntry (ty phase fl unit seq : Nat) (payload : Bytes) : Bytes :=
  le 2 ty ++ [BitVec.ofNat 8 (phase + 2 * fl), BitVec.ofNat 8 unit] ++ le 4 seq ++ padTo 24 payload

/-- Take the next EVSEQ of event ring `k` (R366). The spec does not say with which number a ring begins: DESIGN CHOICE (assumption 17),
0, the reset value that the model gives every counter without one. -/
def State.nextEvSeq (s : State) (k : Nat) : State :=
  { s with hif := { s.hif with evSeq := Store.set 0 s.hif.evSeq k ((Store.get 0 s.hif.evSeq k + 1) % 2 ^ 32)
                               evAny := s.hif.evAny ||| 2 ^ k } }

/-- An entry for event ring `k` was lost (R351). -/
def State.loseEvent (s : State) (k : Nat) : State :=
  let s := (s.bump F.HIF_RING_STAT_DROP (128 + k)).raise F.HIF_EVT_DROP
  { s with hif := { s.hif with evLost := Store.set 0 s.hif.evLost k (satAdd 32 (Store.get 0 s.hif.evLost k) 1) } }

/-- Post an event to EVk, or lose it when the ring is full; EVSEQ advances either way. True when it was written. -/
def State.postEvent? (s : State) (k ty fl unit : Nat) (payload : Bytes) : Bool × State :=
  let r := 128 + k
  if s.ringFull r then (false, (s.loseEvent k).nextEvSeq k)
  else (true, (s.ringWrite r (eventEntry ty (s.ringPhase r) fl unit (Store.get 0 s.hif.evSeq k) payload)).nextEvSeq k)

/-- Post an event, whatever becomes of it. -/
def State.postEvent (s : State) (k ty fl unit : Nat) (payload : Bytes) : State := (s.postEvent? k ty fl unit payload).2

/-- The main domain runs and may post events: an event of a domain that is down, or before the link, has no ring. -/
def State.postMain (s : State) (k ty fl unit : Nat) (payload : Bytes) : State :=
  if s.mainUp then s.postEvent k ty fl unit payload else s

/-! ### Completions (R361, R362, R373) -/

abbrev stOk : Nat := 0x0000
abbrev stBadOpcode : Nat := 0x0001
abbrev stBadParam : Nat := 0x0002
abbrev stClaimConflict : Nat := 0x0003
abbrev stStepRefused : Nat := 0x0004
abbrev stNotReady : Nat := 0x0005
abbrev stNvmFail : Nat := 0x0006
abbrev stPrecondFail : Nat := 0x0007
abbrev stBusy : Nat := 0x0008
abbrev stAborted : Nat := 0x0009
abbrev stWriteCollided : Nat := 0x000A
abbrev stUntraced : Nat := 0x000B

/-- Octets of a completion entry (R361). -/
def completionEntry (result tag status cr phase head : Nat) : Bytes :=
  le 8 result ++ le 2 tag ++ le 2 status ++ [BitVec.ofNat 8 cr, BitVec.ofNat 8 phase] ++ le 2 head

/-- Places in flight of the begun commands of ring `r` with this TAG, oldest first. -/
def begunAt (r tag : Nat) (l : List Flight) : List Nat :=
  (l.zipIdx.filter (fun p => p.1.ring = r && p.1.tag = tag && decide (p.1.stage = .begun))).map (·.2)

/-- Write the completion of the command at place `i` in flight: QUIET suppresses it when the status is OK (R358); a full CP holds it
and the command stays in flight (R351). -/
def State.completeAt (s : State) (i status result : Nat) (quiet : Bool) : State :=
  match s.hif.inflight[i]? with
  | none => s
  | some f =>
    let cp := 32 + s.get F.HIF_RING_CFG_CPSEL f.ring
    let e := completionEntry result f.tag status f.ring (s.ringPhase cp) f.head
    if quiet && status = stOk then { s with hif := { s.hif with inflight := s.hif.inflight.eraseIdx i } }
    else if s.ringFull cp then { s with hif := { s.hif with inflight := s.hif.inflight.set i { f with stage := .held cp e } } }
    else { s with hif := { s.hif with inflight := s.hif.inflight.eraseIdx i } }.ringWrite cp e

/-- Write the completion of the command of ring `r` with this TAG that has begun last. -/
def State.completeRing (s : State) (r tag status result : Nat) (quiet : Bool) : State :=
  match (begunAt r tag s.hif.inflight).getLast? with
  | some i => s.completeAt i status result quiet
  | none => s

/-- Place the completion of a sideband command in HIF_SB_CMD; PHASE inverts at each one and CMD_DONE is set (R373). -/
def State.completeSb (s : State) (tag status result : Nat) : State :=
  let ph := 1 - b2n s.sb.phase
  let s := s.set F.HIF_SB_CMD_CMD (leNat (completionEntry result tag status 0xFF ph 0))
  { (s.lower F.HIF_SB_STAT_CMD_BUSY).alert 0 with sb := { (s.lower F.HIF_SB_STAT_CMD_BUSY |>.alert 0).sb with phase := !s.sb.phase } }

/-- A write of `b` through port B from mailbox offset `a` on (R391, R392): true where it meets a write of port A at the word that `clash`
names, which then holds what port A leaves; the words before it stand, the others are not written. A write of fewer than 16 octets keeps
the errors and the tag of a word that cannot be corrected (R385, `part`). -/
def State.portBWrite (s : State) (a : Nat) (b : Bytes) (clash : Option (Nat × Bytes)) (part : Bool := false) :
    Bool × State :=
  match clash with
  | some (j, x) =>
    if 16 * j < b.length then
      let at' := (a + 16 * j) % 65536
      let s := s.mailboxWrite a (b.take (16 * j))
      let k := mailboxKey (at' / 16)
      let r := if part then s.readWord k else (false, s)
      let t := r.2.mailboxWrite at' (padTo 16 x)
      let s := (if r.1 then t.setWord k (r.2.wordMask k) true else t).bump F.MEM_COLL_COUNT
      (true, ((s.set F.MEM_COLL_ADDR (at' / 16)).raise F.MEM_EVT_COLL).alert 5)
    else (false, s.mailboxWrite a b)
  | none => (false, s.mailboxWrite a b)

/-- Complete a command from either source. -/
def State.complete (s : State) (src : Src) (tag status : Nat) (quiet : Bool) (result : Nat := 0) : State :=
  match src with
  | .ring r => s.completeRing r.val tag status result quiet
  | .sideband => s.completeSb tag status result

end Sys2Proof.Machine

namespace Sys2Proof
open Machine

/-- FENCE and QUIET of a descriptor (R358). -/
def Cmd.fence (c : Cmd) : Bool := c.flags.toNat.testBit 0
def Cmd.quiet (c : Cmd) : Bool := c.flags.toNat.testBit 1

/-- Complete the command `c`. -/
def Cmd.done (c : Cmd) (s : State) (status : Nat) (result : Nat := 0) : State :=
  s.complete c.src c.tag.toNat status c.quiet result

/-- The octets that a command reads (R359): host memory by DMA on a ring, the mailbox for the sideband. -/
def Cmd.input (c : Cmd) (s : State) (n : Nat) : Bytes :=
  match c.src with
  | .ring _ => padTo n c.data
  | .sideband => s.mailboxRead c.b.toNat n

/-- Deliver result octets and complete: to host memory, or to the mailbox through port B, where a collision makes the status
WRITE_COLLIDED (R392). -/
def Cmd.deliver (c : Cmd) (s : State) (b : Bytes) (status : Nat) (result : Nat := 0) : State :=
  match c.src with
  | .ring _ => c.done (s.emit (.dma c.b.toNat b)) status result
  | .sideband =>
    let r := s.portBWrite c.b.toNat b c.clash c.part
    c.done r.2 (if r.1 then stWriteCollided else status) result

end Sys2Proof
end

