-- ==== Sys2Proof/Machine/Claims.lean ====
section
/-!
DEFINITION. The resource claim table (R222 to R225) and the bonding of resources (R4, R5).
-/
namespace Sys2Proof.Machine

end Sys2Proof.Machine

namespace Sys2Proof
open Machine

/-- Agent number of an owner ID (R223). -/
def Agent.code : Agent → Nat
  | .profile => 0
  | .host => 1
  | .sideband => 2
  | .psm => 3

end Sys2Proof

namespace Sys2Proof.Machine

/-- Claim indices (R222). -/
def claimTio (n : Nat) : Nat := n
def claimCko (n : Nat) : Nat := 16 + n
def claimPg (k : Nat) : Nat := 24 + k
def claimCu (k : Nat) : Nat := 40 + k
def claimLq (q : Nat) : Nat := 56 + q
def claimPort (n : Nat) : Nat := 184 + n
def claimPool (n : Nat) : Nat := 216 + n

/-- The resource at a claim index is bonded and may be claimed (R5, R222). -/
def State.claimable (s : State) (i : Nat) : Bool :=
  let v := s.fuses.variant
  if i < 16 then decide (i < v.tios)
  else if i < 24 then decide (i - 16 < v.ckos)
  else if i < 56 then true
  else if i < 184 then decide ((i - 56) / 4 < v.ports)
  else if i < 216 then decide (i - 184 < v.ports)
  else if i < 248 then decide (i - 216 < v.ports)
  else false

/-- The owner ID of a resource; 0 is free. -/
def State.owner (s : State) (i : Nat) : Nat := s.get F.TA_CLAIM_OWNER i

/-- An agent may claim, reconfigure or release: the resource is free, its own, or the profile loader's and the agent is the
host (R224). -/
def State.mayTake (s : State) (a : Agent) (i : Nat) : Bool :=
  let o := s.owner i
  decide (o = 0) || decide (o / 64 = a.code) || (decide (o / 64 = 0) && decide (a = .host))

/-- Enter a claim with its feature code; a claim already held keeps its agent (R224). -/
def State.take (s : State) (a : Agent) (i feature : Nat) : State :=
  let o := s.owner i
  (s.set F.TA_CLAIM_OWNER (if o = 0 then 64 * a.code + feature else 64 * (o / 64) + feature) i).raise F.TA_CLAIM_HELD i

/-- Free a resource. -/
def State.release (s : State) (i : Nat) : State := (s.set F.TA_CLAIM_OWNER 0 i).lower F.TA_CLAIM_HELD i

/-- Record a refused claim or release in a register's CLAIM_REF and OWNER, and in the block's event bit (R224). -/
def State.refuseClaim (s : State) (owner : Nat) (ref own evt : Fld) (i evtI : Nat) : State :=
  ((s.raise ref i).set own owner i).raise evt evtI

end Sys2Proof.Machine
end

