-- ==== Sys2Proof/Machine/Commands.lean ====
section
/-!
DEFINITION. What every run-time command shares (R32, R353 to R359, R373): when it may begin, the checks of its descriptor, the
error of a transfer, and its completion, at once or later.
-/
namespace Sys2Proof.Machine

/-- A flight record of ring `r` that has not begun. -/
def Flight.waiting (f : Flight) : Bool :=
  match f.stage with
  | .fetched _ => true
  | _ => false

/-- The commands of ring `r` that were fetched before the one with this TAG that is still waiting. -/
def flightsBefore (r tag : Nat) (l : List Flight) : List Flight :=
  (l.filter (fun f => f.ring = r)).takeWhile (fun f => !(f.tag = tag && f.waiting))

/-- The command may begin (R356): the earlier commands of its ring have begun, none of them in flight is a FENCE, and a FENCE
waits until they have completed. One that no fetch has entered needs room in flight (R355). -/
def State.mayBegin (s : State) (r tag : Nat) (fence : Bool) : Bool :=
  let b := flightsBefore r tag s.hif.inflight
  let entered := s.hif.inflight.any (fun f => f.ring = r && f.tag = tag && f.waiting)
  let b := if entered then b else s.hif.inflight.filter (fun f => f.ring = r)
  (entered || decide (s.hif.inflight.length < s.eff F.HIF_XCTRL_INFLIGHT_MAX)) &&
  if fence then b.isEmpty else b.all (fun f => !f.waiting && !f.flags.testBit 0)

/-- A command of ring `r` begins: its flight record changes from fetched to begun; one that no fetch has entered is entered. -/
def beginFlight (r tag flags head : Nat) : List Flight → List Flight
  | [] => [⟨r, tag, flags, head, .begun⟩]
  | f :: t => if f.ring = r && f.tag = tag && f.waiting then { f with stage := .begun } :: t
              else f :: beginFlight r tag flags head t

/-- The command of this ring and TAG is in flight. -/
def State.inFlight (s : State) (r tag : Nat) : Bool := s.hif.inflight.any (fun f => f.ring = r && f.tag = tag)

/-- A command of ring `r` with this TAG runs on after an interface reset (R357). -/
def State.orphan (s : State) (r tag : Nat) : Bool := s.hif.orphans.contains (r, tag)

/-- It has ended. -/
def State.dropOrphan (s : State) (r tag : Nat) : State := { s with hif := { s.hif with orphans := s.hif.orphans.erase (r, tag) } }

/-- Complete a command whose execution ended after it began (R355, R357, R373): of equal TAGs the oldest; nothing where a reset has
taken the command out of flight meanwhile. -/
def State.finish (s : State) (src : Src) (tag status : Nat) (quiet : Bool) (result : Nat := 0) : State :=
  match src with
  | .ring r =>
    if s.orphan r.val tag then s.dropOrphan r.val tag
    else match (begunAt r.val tag s.hif.inflight).head? with
      | some i => s.completeAt i status result quiet
      | none => s
  | .sideband => if s.on F.HIF_SB_STAT_CMD_BUSY then s.completeSb tag status result else s

/-- Refuse a sideband transaction after its command code (R372): NACK, with the reason in LAST. -/
def State.sbRefuse (s : State) (status : Nat) : State := (s.set F.HIF_SB_STAT_LAST status).emit (.sbNack status)

/-- A transfer returned an error (R353, R376). -/
def State.dmaError (s : State) : State := s.raise F.HIF_EVT_DMA_ERR

/-- Where a command may be issued and what it needs. -/
structure Needs where
  sb : Bool            -- the sideband accepts it (R359)
  main : Bool          -- from the sideband it needs the main domain (R24)
  deriving DecidableEq, Repr

end Sys2Proof.Machine

namespace Sys2Proof
open Machine

/-- FLAGS [7:2] and the reserved parameter bits of the opcode are 0 (R358, R359): masks of the bits of A, B and C in use. On
the sideband an address uses bits [15:0] of B. -/
def Cmd.reservedOk (c : Cmd) (ma mb mc : Nat) (addr : Bool) : Bool :=
  let mb := if addr then (match c.src with
    | .ring _ => 2 ^ 64 - 1
    | .sideband => 0xFFFF) else mb
  decide (c.flags.toNat < 4) && decide (c.a.toNat &&& ma = c.a.toNat) && decide (c.b.toNat &&& mb = c.b.toNat)
    && decide (c.c.toNat &&& mc = c.c.toNat)

/-- A transfer of the command, reading `n` octets: an error on the link, or an uncorrectable word of the mailbox, ends it with
ABORTED and result 2, and nothing of it takes effect (R353, R386). -/
def Cmd.xfer (c : Cmd) (s : State) (n : Nat) (k : State → State) : State :=
  match c.src with
  | .ring _ => if c.dmaErr then c.done s.dmaError stAborted 2 else k s
  | .sideband =>
    let r := s.mailboxCheck c.b.toNat n
    if r.1 then c.done r.2 stAborted 2 else k r.2

/-- Run a command (R32, R353, R356, R358, R373): from a ring only while the main domain runs, NOT_READY before start-up step 10;
from the sideband one at a time, NOT_READY where it needs a main domain that is not running. A bad descriptor completes with
BAD_PARAM. `k` is the command's own rule. -/
def Cmd.run (c : Cmd) (s : State) (n : Needs) (ok : Bool) (k : State → State) : State :=
  match c.src with
  | .ring r =>
    if !s.mainUp || !s.mayBegin r.val c.tag.toNat c.fence then s
    else
      let head := s.get F.HIF_RING_PTR_DEVPTR r.val
      let l := beginFlight r.val c.tag.toNat c.flags.toNat head s.hif.inflight
      let s := { s with hif := { s.hif with inflight := l } }
      if !s.ready then c.done s stNotReady
      else if !ok then c.done s stBadParam
      else k s
  | .sideband =>
    if s.pwr.stby ≠ .up then s
    else if s.on F.HIF_SB_STAT_CMD_BUSY then s.sbRefuse stBusy
    else
      let s := s.raise F.HIF_SB_STAT_CMD_BUSY
      if !n.sb then c.done s stBadOpcode
      else if n.main && !s.ready then c.done s stNotReady
      else if !ok then c.done s stBadParam
      else k s

/-- What a command that has waited does when its wait ends: nothing where a reset has discarded it; after an interface reset its effect
without its completion (R357). -/
def Cmd.resume (c : Cmd) (s : State) (k : State → State) : State :=
  match c.src with
  | .ring r =>
    if s.orphan r.val c.tag.toNat then
      let l := s.hif.inflight
      let t := k (({ s with hif := { s.hif with inflight := [] } } : State).dropOrphan r.val c.tag.toNat)
      { t with hif := { t.hif with inflight := l } }
    else if s.inFlight r.val c.tag.toNat then k s
    else s
  | .sideband => if s.on F.HIF_SB_STAT_CMD_BUSY then k s else s

/-- 32-bit number at octet `o` of C's 16 octets (bytes 16 to 31 of the descriptor). -/
def Cmd.cAt (c : Cmd) (o n : Nat) : Nat := bits c.c.toNat (8 * o) (8 * n)

end Sys2Proof
end

