-- ==== Sys2Proof/Machine/CalOps.lean ====
section
/-!
DEFINITION. The calibration set in use (R326 to R328, R340): which set corrects a raw time, how a capture is corrected and how
an edge is placed.
-/
namespace Sys2Proof.Machine

/-! ### Offsets of the values (R340) -/

/-- Path constant of a port: side 0 line, 1 host; mode 0 10G, 1 25G, 2 25G with RS-FEC; direction 0 receive, 1 transmit. -/
def calPort (n side mode dir : Nat) : Nat := 0x40 + 48 * n + 4 * (6 * side + 2 * mode + dir)

/-- TIO plane constants. -/
def calTioIn (n : Nat) : Nat := 0x640 + 8 * n
def calTioOut (n : Nat) : Nat := 0x644 + 8 * n

/-- CKO constant. -/
def calCko (n : Nat) : Nat := 0x6C0 + 4 * n

/-- Capture-line constant of line 88 + i. -/
def calLine (i : Nat) : Nat := 0x6E0 + 4 * i

/-- Sensor trim word j (16 bits each). DESIGN CHOICE (assumption 8): R340 gives the trims' 256 bytes no inner layout. -/
def calTrim (j : Nat) : Nat := 0x700 + 2 * j

/-- Correction C_d[k]. -/
def calTap (d k : Nat) : Nat := 0x800 + 512 * d + k

/-! ### A copy in main NVM (R340, R341) -/

/-- Octet `i` of a signed value, least significant first. -/
def octetOf (v : Int) (i : Nat) : Byte := BitVec.ofInt 8 (v / 2 ^ (8 * i))

/-- The header of a copy. -/
def CalCopy.header (c : CalCopy) : Bytes :=
  padTo 64 ([0x5A, 0x4E, 0x43, 0x41] ++ le 2 1 ++ le 2 c.flags ++ le 4 c.gen ++ le 4 c.opsec ++ le 4 c.pcc ++ le 2 c.jtemp)

/-- The commit word; zeros where the copy is torn. -/
def CalCopy.commitWord (c : CalCopy) : Bytes := if c.valid then le 4 0xC0A15EA1 ++ le 4 c.gen ++ le 8 0 else le 16 0

/-- Octet `x` of a copy: header, 32-bit constants, 16-bit sensor trims, 8-bit tap corrections, zeros, commit word. -/
def CalCopy.octet (c : CalCopy) (x : Nat) : Byte :=
  let v (w : Nat) : Byte := octetOf (Store.get 0 c.vals (x / w * w)) (x % w)
  if x < 0x40 then c.header.getD x 0
  else if x < 0x700 then v 4
  else if x < 0x800 then v 2
  else if x < 0xBE00 then v 1
  else if x < 0xFFF0 then 0
  else c.commitWord.getD (x - 0xFFF0) 0

/-- What a copy's octets must be at start-up step 8 (R342): MAGIC and version, the commit word, and its generation that of the header. -/
def CalCopy.committed (c : CalCopy) : Bool :=
  decide (leAt c.header 0 4 = 0x41434E5A) && decide (leAt c.header 4 2 = 1) && decide (leAt c.commitWord 0 4 = 0xC0A15EA1)
    && decide (leAt c.commitWord 4 4 = leAt c.header 8 4)

/-- The main-NVM sector that holds octet `x` of copy `k`. -/
def calSector (k x : Nat) : Nat := (if k = 0 then 768 else 784) + x / 4096

/-! ### The set in force (R40, R328) -/

/-- The values of the set in force now. -/
def State.calSet (s : State) : List (Nat × Int) := if s.cal.cur then s.cal.set1 else s.cal.set0

/-- The values of the other set. -/
def State.calOther (s : State) : List (Nat × Int) := if s.cal.cur then s.cal.set0 else s.cal.set1

/-- The value that corrects at raw time `r`: the set in force from the last switch on, the previous set before it. -/
def State.calVal (s : State) (r : Raw) (off : Nat) : Int :=
  Store.get 0 (if s.cal.swAt ≤ r then s.calSet else s.calOther) off

/-- DLL `d` is locked; the three capture lines 88 to 90 report no lock of their own. -/
def State.dllLocked (s : State) (d : Nat) : Bool := decide (88 ≤ d) || (s.get F.CK_DLL_LOCK_LOCK).testBit d

/-! ### The phases of a run (R329, R335) -/

abbrev stepSense : Nat := 0
abbrev stepDll : Nat := 1
abbrev stepPort : Nat := 2
abbrev stepRef : Nat := 3

/-- SCLK cycles in `n` milliseconds. -/
def msCycles (n : Nat) : Nat := 781250 * n

/-- A phase of a run: its step, in a run-time run the port that it has in CAL, and its length in milliseconds. -/
structure CalPhase where
  step : Nat
  port : Option Nat
  ms : Nat
  deriving DecidableEq, Repr

/-- The phases of a run: the steps in order; in a run-time run the ports one at a time, each once for both its steps, and then the balls
and capture lines. DESIGN CHOICE (assumption 10): R329 does not say whether ports or balls come first. -/
def CalRun.phases (r : CalRun) : List CalPhase :=
  let ph (k ms : Nat) (port : Option Nat := none) : List CalPhase := if r.steps.testBit k then [⟨k, port, ms⟩] else []
  ph stepSense 2 ++ ph stepDll 60
    ++ (if r.kind = 1 then ph stepPort 8
        else (List.range 32).flatMap (fun n => if r.ports.testBit n then ph stepPort 38 (some n) ++ ph stepRef 3 (some n) else []))
    ++ ph stepRef 42

/-- How many phases have begun `t` cycles after the start; one more than there are once all have ended. -/
def phasesBegun : List CalPhase → Nat → Nat
  | [], _ => 1
  | p :: ps, t => if t < msCycles p.ms then 1 else phasesBegun ps (t - msCycles p.ms) + 1

/-- The phase in progress. -/
def State.calPhase (s : State) : Option CalPhase :=
  match s.cal.run, s.cal.phase with
  | some r, i + 1 => r.phases[i]?
  | _, _ => none

/-- SCLK cycles that the phases before the `i`-th of a run take. -/
def CalRun.before (r : CalRun) (i : Nat) : Nat := (r.phases.take i).foldl (fun t p => t + msCycles p.ms) 0

/-- The input of ball `n` is blind at raw time `w` (R329): for 1 ms of the REF_ALIGN of the balls, the last phase of a run-time run. -/
def State.tioBlind (s : State) (n : Nat) (w : Raw) : Bool :=
  match s.cal.run with
  | some r =>
    let t := s.cal.runAt + r.before (r.phases.length - 1) + msCycles (Config.tioBlind n % 42)
    r.kind ≠ 1 && r.steps.testBit stepRef && decide (t ≤ w / tapsPerCycle) && decide (w / tapsPerCycle < t + msCycles 1)
  | none => false

/-! ### Captures and placements (R192, R327) -/

/-- The delivered raw time of a sample that the line reads at raw time `w`: 16 w + C_d[k] and the constant of the capture
point, subtracted on receive and input and added on transmit and output, rounded once to the nearest tap, ties to even. An
unlocked DLL measures at tap 0. The set is that in force at the delivered timestamp (R107), which `whole` makes of the corrected
sample: the present one where the timestamp that it gives falls in its time, else the one before. -/
def State.calCapture (s : State) (d off : Nat) (subtract : Bool) (w : Raw) (whole : Raw → Raw := id) : Raw :=
  let w := if s.dllLocked d then w else w / 512 * 512
  let under (t : List (Nat × Int)) : Raw :=
    let k := Store.get 0 t off
    (roundEven (16 * (w : Int) + Store.get 0 t (calTap d (w % 512)) + (if subtract then -k else k)) 16).toNat
  let r := under s.calSet
  if s.cal.swAt ≤ whole r then r else under s.calOther

/-- A capture of the Atoll's 32 kHz edge by its line (R22, R326). -/
def State.atollEdge (s : State) (w : Raw) : Raw := s.calCapture 90 (calLine 2) true w

/-- A reading under its sensor's gain (R326). DESIGN CHOICE (assumption 8): gains are in units of 10^-4, applied before an offset, rounded
to nearest with ties to even. -/
def State.gained (s : State) (j : Nat) (v : Int) : Int := roundEven (v * (10000 + s.calVal s.raw (calTrim j))) 10000

/-- The reading of junction sensor `i` under its trims. -/
def State.junction (s : State) (i : Nat) (v : Int) : Int := s.gained (4 + i) v + s.calVal s.raw (calTrim i)

/-- The nearer of two candidate taps to a target in 1/16 tap; the first on a tie. -/
def nearer (target : Int) (pos : Raw → Int) (a b : Raw) : Raw :=
  if (pos b - target).natAbs < (pos a - target).natAbs then b else a

/-- The raw time at which line `d` makes an edge meant for raw time `x` on an output with constant at `off`: the tap whose
corrected place lies nearest to 16 x - K, ties to the lower tap. An unlocked DLL places at tap 0 of the cycle. -/
def State.calPlace (s : State) (d off : Nat) (x : Raw) : Raw :=
  let target := 16 * (x : Int) - s.calVal x off
  let t0 := (target / 16).toNat
  if s.dllLocked d then
    let pos (t : Raw) : Int := 16 * (t : Int) + s.calVal x (calTap d (t % 512))
    (List.range 25).foldl (fun best i => nearer target pos best (t0 + i - 12)) (t0 - 12)
  else t0 / 512 * 512

end Sys2Proof.Machine
end

