-- ==== Sys2Proof/Machine/Timebase.lean ====
section
/-!
DEFINITION. The timebase (R41 to R69): conversion arithmetic, epochs and their history, generations and revisions, the state
machine, slews and steps; and the announced uncertainty that follows its state (R171). Units: raw times in taps of 2.5 ps,
ZTIME and offsets in 2^-16 ns, rates in 2^-48.
-/
namespace Sys2Proof.Machine

/-! ### Conversion (R49, R50) -/

/-- Elapsed time in 2^-16 ns of `d` taps at a rate (R49). -/
def elapsed (d rate : Int) : Int := ((d + d * rate / 2 ^ 48) * 4096 + 12) / 25

/-- Conversion of a raw time under an epoch (R49). -/
def Epoch.convert (e : Epoch) (r : Raw) : Int := e.offset + elapsed ((r : Int) - e.raw0) e.rate

/-- A raw time on the scale RAWCT times 2.5 ps, in 2^-16 ns: local time in COLD (R110, R137, R156). -/
def coldTime (r : Raw) : Int := elapsed r 0

/-- Quotient rounded up; the divisor is positive. -/
def ceilDiv (n d : Int) : Int := -((-n) / d)

/-- The smallest raw time whose conversion is at or after `t` (R50). -/
def Epoch.invert (e : Epoch) (t : Int) : Int :=
  e.raw0 + ceilDiv (ceilDiv (25 * (t - e.offset) - 12) 4096 * 2 ^ 48) (2 ^ 48 + e.rate)

/-- The epoch history as a conversion that starts in this SCLK cycle sees it: an epoch published in this very cycle is not there
yet (R27). DESIGN CHOICE (assumption 47): before the very first epoch there is no previous one, the spec does not say what a
conversion in the cycle of its publication uses, and the model uses the new one. -/
def State.liveHist (s : State) : List HistSlot :=
  match s.tb.hist with
  | h :: h' :: t => if h.pub.raw0 / tapsPerCycle < s.cyc then h :: h' :: t else h' :: t
  | l => l

/-- The epoch that a conversion made in this SCLK cycle uses: one published in this very cycle is not used yet (R27), but for the
very first (assumption 47). -/
def State.liveEpoch (s : State) : Option Epoch :=
  match s.tb.cur with
  | none => none
  | some e => if e.raw0 / tapsPerCycle < s.cyc then some e else
      match s.tb.hist with
      | _ :: h :: _ => some h.pub
      | _ => some e

/-- The slot of the epoch in force at raw time `r`: the greatest RAW0 not exceeding it (R54, R107). -/
def slotAt (r : Raw) : List HistSlot → Option HistSlot
  | [] => none
  | h :: t => if h.pub.raw0 ≤ r then some h else slotAt r t

/-- ZTIME of a raw time under the epoch in force at it; in COLD the scale of RAWCT (R107, R137, R156). DESIGN CHOICE (assumption
47): for a raw time before the oldest epoch held no epoch is in force, the spec does not say how it is converted for insertion or
measurement, and the model continues the current epoch backwards. -/
def State.zt (s : State) (r : Raw) : Int :=
  match s.tb.cur with
  | none => coldTime r
  | some e => if e.raw0 ≤ r then e.convert r else
      match slotAt r s.tb.hist with
      | some h => h.pub.convert r
      | none => e.convert r

/-- The residence value V (R110): ZTIME less the sum of the offsets applied by the epochs up to the one in force at `r`, modulo
2^48; before the first epoch the scale of COLD. -/
def State.residence (s : State) (r : Raw) : Nat :=
  toBits 48 (match s.tb.cur, slotAt r s.tb.hist with
    | some _, some h => s.zt r - h.sum
    | some _, none => if s.tb.hist.length < 4096 then coldTime r else s.zt r - s.tb.sumOfs
    | none, _ => coldTime r)

/-- ZTIME in the layout of R11, 12 octets: fraction, nanoseconds, seconds. -/
def ztBytes (t : Int) : Bytes :=
  let u := t.toNat
  le 2 (u % 65536) ++ le 4 (u / 65536 % 1000000000) ++ le 6 (u / 65536000000000)

/-- A raw time in the 80-bit layout of R10. -/
def rawBytes (r : Raw) : Bytes := le 10 (r % 2 ^ 73)

/-- An epoch record as 32 octets (R44). -/
def Epoch.bytes (e : Epoch) : Bytes :=
  rawBytes e.raw0 ++ le 5 (toBits 40 e.rate)
    ++ [BitVec.ofNat 8 (e.state + 8 * b2n e.calset + 16 * b2n e.untraced + 32 * e.kind)]
    ++ ztBytes e.offset ++ le 2 e.index ++ le 2 e.gen

/-! ### States and registers -/

abbrev tbCold : Nat := 0
abbrev tbSeeded : Nat := 1
abbrev tbAcquiring : Nat := 2
abbrev tbLocked : Nat := 3
abbrev tbHoldover : Nat := 4
abbrev tbReroute : Nat := 5
abbrev tbDegraded : Nat := 6

/-- TB_STATE (R59). -/
def State.tbState (s : State) : Nat := s.get F.TB_STATUS_STATE

/-- Step-refusal threshold in 2^-16 ns (R63). -/
def State.jumpThr (s : State) : Int := (s.eff F.TB_JUMP_THR_JUMP_THR : Int) * 65536

/-- Lock threshold in 2^-16 ns, times 1000: LOCK_THR is in ps. -/
def State.lockThr1000 (s : State) : Int := (s.eff F.TB_LOCK_LOCK_THR : Int) * 65536

/-- The largest rate magnitude (R65). -/
abbrev rateMax : Int := 2 ^ 39 - 1

/-- F, the frequency estimate (R166). -/
def State.freq (s : State) : Int := s.int F.SRV_FREQ_FREQ

/-- The rate in force: frequency estimate plus slew, clamped (R65). -/
def State.liveRate (s : State) : Int :=
  clampInt (-rateMax) rateMax (s.freq + (match s.tb.slew with
    | some w => w.rate
    | none => 0))

/-! ### Announced uncertainty (R171) -/

abbrev auUnknown : Nat := 0xFFFFFFFF

/-- AU in a state where it is computed from a number, saturated below "unknown". -/
def auSat (n : Nat) : Nat := min n 0xFFFFFFFE

/-- AU as the state of the timebase gives it: unknown in COLD and DEGRADED; from the outage in SEEDED (R31); UP + M + |e| + 35 if
UNTRACED in ACQUIRING and LOCKED; growing in HOLDOVER and REROUTE by HO_FREQ per millisecond since entry, unknown where it was
unknown at entry. -/
def State.auState (s : State) : Nat :=
  let st := s.tbState
  if st = tbCold || st = tbDegraded then auUnknown
  else if st = tbSeeded then
    auSat (100000 * s.get F.AT_OUTAGE_OUTAGE + 35000000 + s.get F.SRV_UNC_UP_UP)
  else if st = tbHoldover || st = tbReroute then
    if s.srv.auBase = auUnknown then auUnknown
    else auSat (s.srv.auBase + s.get F.SRV_HO_HO_FREQ * ((s.raw - s.srv.auEntry) / 400000000))
  else auSat (s.get F.SRV_UNC_UP_UP + s.srv.m + s.srv.auBase + (if s.on F.TB_STATUS_UNTRACED then 35 else 0))

/-- AU as it reads: unknown while TAINT stands (R171). -/
def State.au (s : State) : Nat := if s.on F.SRV_STATUS_TAINT then auUnknown else s.auState

/-- The |e| that AU takes in ACQUIRING and LOCKED, in ps. DESIGN CHOICE (assumption 53): it is rounded to the nearest ps; between
entry to ACQUIRING and the first update it is 0 after a step and the offset slewed after a slew (R171 names only the last update). -/
def State.auUpdate (s : State) (e : Int) : State :=
  { s with srv := { s.srv with auBase := (e.natAbs * 1000 + 32768) / 65536 } }

/-- Enter a timebase state. HOLDOVER and REROUTE take the AU in force at entry as their base; passing from one to the other
starts the growth again from there. Measurements collected for an update are lost where the state reached forms none (R62). -/
def State.enterTb (s : State) (st : Nat) : State :=
  let au := s.auState
  let s1 := s.set F.TB_STATUS_STATE st
  let s1 : State := if st = tbAcquiring || st = tbLocked then s1 else { s1 with srv := { s1.srv with acc := [] } }
  if st = tbHoldover || st = tbReroute then
    { s1 with srv := { s1.srv with auBase := au, auEntry := s.raw } }
  else if st = tbLocked then { s1 with tb := { s1.tb with lockedAt := s.raw } }
  else s1

/-! ### Epochs (R44 to R47, R51) -/

abbrev kRate : Nat := 0
abbrev kRebase : Nat := 1
abbrev kSlewStart : Nat := 2
abbrev kSlewEnd : Nat := 3
abbrev kStep : Nat := 4
abbrev kSeed : Nat := 5
abbrev kCal : Nat := 6
abbrev kRevision : Nat := 7

/-- The order in which causes that meet in one cycle name the epoch's KIND (R45); lower goes first. -/
def kindRank (k : Nat) : Nat :=
  if k = kStep then 0 else if k = kSeed then 1 else if k = kCal then 2 else if k = kSlewEnd then 3
  else if k = kSlewStart then 4 else if k = kRate then 5 else 6

/-- Module delays written since the last epoch take effect at an epoch boundary (R108). -/
def State.takeModDelays (s : State) : State :=
  { s with tb := { s.tb with
      modRx := (List.range 32).foldl (fun t n => Store.set 0 t n (s.get F.STR_MOD_RX_DLY n)) s.tb.modRx
      modTx := (List.range 32).foldl (fun t n => Store.set 0 t n (s.get F.STR_MOD_TX_DLY n)) s.tb.modTx } }

/-- The key of the first of the four code words of an epoch's slot: the published record, then its latest revision (R51, R379). -/
def slotKey (index : Nat) : Nat := sramKey (0x90000 + 4 * (index % 4096))

/-- Put a record into the history ring: the oldest slot of a full ring is overwritten and HIST_WRAP is set (R51). -/
def State.pushHist (s : State) (e : Epoch) : State :=
  let s := if s.tb.hist.length ≥ 4096 then s.raise F.TB_EVT_HIST_WRAP else s
  { s with tb := { s.tb with cur := some e, hist := ((⟨e, e, s.tb.sumOfs⟩ : HistSlot) :: s.tb.hist).take 4096 } }.writeWords (slotKey e.index) 4

/-- The rate of an epoch that cause `kind` begins: REBASE and CAL keep the rate of the epoch in force (R47); every other cause
takes the frequency estimate with the slew (R65). -/
def State.epochRate (s : State) (kind : Nat) : Int :=
  match s.tb.cur with
  | some c => if kind = kRebase || kind = kCal then c.rate else s.liveRate
  | none => s.liveRate

/-- Begin an epoch at raw time `r` for cause `kind`, with the rate in force, and with an offset applied (STEP and SEED only;
0 otherwise, R46). A second cause in the same SCLK cycle joins the epoch already begun in it (R45). The SPX engines' STATUS words
restart with the new epoch (R134) through the epoch index. -/
def State.beginEpoch (s : State) (kind : Nat) (r : Raw) (delta : Int) : State :=
  let st := s.tbState
  let base := s.zt r
  let rate := s.epochRate kind
  let s := { s with tb := { s.tb with sumOfs := s.tb.sumOfs + delta } }
  let fresh : Epoch := ⟨r, rate, base + delta, st, s.tb.calset, s.on F.TB_STATUS_UNTRACED, kind, s.tb.nextIndex, s.get F.TB_GEN_GEN⟩
  let push (s : State) : State :=
    { s.pushHist fresh with tb := { (s.pushHist fresh).tb with nextIndex := (s.tb.nextIndex + 1) % 65536 } }
  let s := match s.tb.cur with
    | some c =>
      if c.raw0 / tapsPerCycle = r / tapsPerCycle then
        let k := if kindRank kind < kindRank c.kind then kind else c.kind
        let e := { c with rate := rate, offset := c.offset + delta, state := st, kind := k, calset := s.tb.calset
                          untraced := s.on F.TB_STATUS_UNTRACED, gen := s.get F.TB_GEN_GEN }
        { s with tb := { s.tb with cur := some e, hist := (⟨e, e, s.tb.sumOfs⟩ : HistSlot) :: s.tb.hist.drop 1 } }.writeWords (slotKey e.index) 4
      else push s
    | none => push s
  let s := if (st = tbHoldover || st = tbReroute) && s.tb.hoFirst.isNone
    then { s with tb := { s.tb with hoFirst := some r } } else s
  s.takeModDelays

/-- The next generation (R56). -/
def State.nextGen (s : State) : State := s.incr F.TB_GEN_GEN

/-! ### Slews and steps (R65, R66) -/

/-- Stop a slew with a SLEW_END epoch at raw time `r`; nothing where no slew is in progress. -/
def State.stopSlew (s : State) (r : Raw) : State :=
  match s.tb.slew with
  | none => s
  | some _ =>
    ({ s with tb := { s.tb with slew := none } }.lower F.TB_STATUS_SLEWING).beginEpoch kSlewEnd r 0

/-- Cycles that closing `x` times 2^-kp (in 2^-16 ns) takes at `sigma` ppm (R65). -/
def slewCycles (x : Nat) (kp sigma : Nat) : Nat :=
  (ceilDiv (x * 100000000) (65536 * sigma * 128 * 2 ^ kp)).toNat

/-- Start a slew of `x` times 2^-kp (2^-16 ns, positive forward), replacing the remainder of one in progress (R65). DESIGN CHOICE
(assumption 47), three points the spec leaves open: the residual that truncation left joins the next correction in its rate, while
D is computed from |s| without it; a correction of exactly 0, whose D is 0, starts no slew and only ends one in progress; and where
a slew replaces one in progress the epoch's KIND is SLEW_START, the end of the replaced one being no cause of its own. -/
def State.startSlew (s : State) (x : Int) (kp : Nat) : State :=
  if x = 0 then s.stopSlew s.raw else
  let d := slewCycles x.natAbs kp (s.eff F.TB_SLEW_SLEW_MAX)
  let num := x * (100 * 2 ^ 32) / 2 ^ kp + s.tb.slewResid
  let rate := Int.tdiv num (d * 128)
  let w : Slew := ⟨rate, s.raw, s.raw + d * tapsPerCycle⟩
  ({ s with tb := { s.tb with slew := some w, slewResid := num - rate * (d * 128) } }.raise F.TB_STATUS_SLEWING).beginEpoch
    kSlewStart s.raw 0

/-- Apply an offset as a step: generation incremented, STEP epoch, STEP_APPLIED (R56, R66). -/
def State.applyStep (s : State) (x : Int) : State :=
  (s.nextGen.beginEpoch kStep s.raw x).raise F.TB_EVT_STEP_APPLIED

/-- HOLDOVER is entered: any slew stops with a SLEW_END epoch (R62). DESIGN CHOICE (assumption 47): the worked examples (the
hindsight conversion; the link restore of R170) begin an epoch at the instant HOLDOVER is entered, while R45 and R61 name no cause
but a slew that ends; the model begins one only where a slew stops, and a holdover without a slew or a REBASE holds no record to
revise. -/
def State.enterHoldover (s : State) : State := (s.enterTb tbHoldover).stopSlew s.raw

/-! ### Revision (R57, R58) -/

/-- The revised copy of one published record (R57). -/
def revise (v : Revision) (e : Epoch) : Epoch :=
  let span : Int := (v.rawE : Int) - v.rawS
  { e with
    offset := e.offset - roundEven (v.e * ((e.raw0 : Int) - v.rawS)) span
    rate := clampInt (-rateMax) rateMax (e.rate - roundEven (v.e * 25 * 2 ^ 36) span)
    kind := kRevision
    gen := v.gen }

/-- A record lies in the interval under revision; the current epoch does not (R58). -/
def Revision.affects (v : Revision) (e : Epoch) : Bool := v.rawS ≤ e.raw0 && e.raw0 < v.bound

/-- Slots of the history that a revision affects. -/
def Revision.slots (v : Revision) (h : List HistSlot) : List HistSlot := h.filter (fun x => v.affects x.pub)

/-- Ask for a revision with first consistent offset `e`, from the first epoch of HOLDOVER or REROUTE to raw time `rawE`; it begins
in the next SCLK cycle (`State.passTo`, R57, R58). Nothing is revised where REVISE = 0 or the interval holds no record. Where the
offset is 0 and no epoch begins ACQUIRING, `rawE` is the instant itself, and the epoch still in force stays as it is (R58). A revision
asked for while another is being written has its records rewritten after that one's (assumption 47). -/
def State.startRevision (s : State) (e : Int) (rawE : Raw) : State :=
  match s.tb.hoFirst with
  | none => s
  | some rawS =>
    let s := { s with tb := { s.tb with hoFirst := none } }
    let v : Revision := ⟨e, rawS, rawE, min rawE ((s.tb.cur.map Epoch.raw0).getD rawE), 0, 0, 0, 0, false⟩
    let hit := v.slots s.tb.hist
    if !s.on F.TB_CTRL_REVISE || hit.isEmpty then s
    else
      let v := { v with newest := (hit.head?.map (·.pub.index)).getD 0, oldest := (hit.getLast?.map (·.pub.index)).getD 0 }
      { s with tb := { s.tb with revisions := s.tb.revisions ++ [v] } }

/-- Rewrite the latest copy of every affected slot whose place from the newest is at least `v.next`. -/
def reviseFrom (v : Revision) : Nat → List HistSlot → List HistSlot
  | _, [] => []
  | i, h :: t =>
    (if v.next ≤ i && v.affects h.pub then { h with latest := revise v h.pub } else h) :: reviseFrom v (i + 1) t

/-- The code words of the latest copies of these records are written. -/
def State.writeLatest (s : State) (l : List HistSlot) : State := l.foldl (fun s h => s.writeWords (slotKey h.pub.index + 4) 2) s

/-- Rewrite the affected record at the next place from the newest; one record an SCLK cycle (R58). -/
def State.reviseNext (s : State) : State :=
  match s.tb.revisions with
  | [] => s
  | v :: rest =>
    let hit := (s.tb.hist.drop v.next).take 1 |>.filter (fun h => v.affects h.pub)
    let h' := s.tb.hist.take v.next ++ reviseFrom v v.next (hit.take 1) ++ s.tb.hist.drop (v.next + hit.length)
    { s with tb := { s.tb with hist := h', revisions := { v with next := v.next + 1 } :: rest } }.writeLatest hit

/-- The oldest affected record of the revision being written has been rewritten: REVISING clears unless another waits, REVISED is
set and TB_REVISED is posted (R58). -/
def State.finishRevision (s : State) : State :=
  match s.tb.revisions with
  | [] => s
  | v :: rest =>
    let s := s.writeLatest (v.slots (s.tb.hist.drop v.next))
    let s := { s with tb := { s.tb with hist := reviseFrom v 0 s.tb.hist, revisions := rest } }
    let s := (s.put F.TB_STATUS_REVISING (!rest.isEmpty)).raise F.TB_EVT_REVISED
    s.postMain (s.get F.HIF_EVMAP_TB) 0x05 0 0 (le 2 v.oldest ++ le 2 v.newest ++ le 2 v.gen)

/-! ### Step refusal and proposals (R31, R60 to R64, R166) -/

/-- What an evaluation did with a proposal. -/
inductive Verdict where
  | applied | refused | discarded
  deriving DecidableEq, Repr

/-- Hold a refused proposal: STEP_PEND, TB_PEND_OFS, a new TB_PEND_ID, STEP_REFUSED and its event and alert (R63, R375). -/
def State.holdStep (s : State) (p : Int) : State :=
  let s := ((s.raise F.TB_STATUS_STEP_PEND).setInt F.TB_PEND_OFS_PEND_OFS p).incr F.TB_PEND_ID_PEND_ID
  let s := (s.raise F.TB_EVT_STEP_REFUSED).alert 4
  s.postMain (s.get F.HIF_EVMAP_TB) 0x04 0 0
    (le 8 (s.get F.TB_PEND_OFS_PEND_OFS) ++ le 2 (s.get F.TB_PEND_ID_PEND_ID) ++ le 2 (s.get F.TB_GEN_GEN))

/-- A pending step is withdrawn by a consistent source (R61). -/
def State.withdrawStep (s : State) : State :=
  if s.on F.TB_STATUS_STEP_PEND then (s.lower F.TB_STATUS_STEP_PEND).raise F.TB_EVT_STEP_WITHDRAWN else s

/-- The bound of the first offset in SEEDED (R31): 0.1 ppm of the outage plus 35 us plus TB_JUMP_THR, in 2^-16 ns. -/
def State.seedBound (s : State) : Int :=
  ((s.get F.AT_OUTAGE_OUTAGE : Int) * 100 + 35000) * 65536 + s.jumpThr

/-- ACQUIRING is entered: the counts of the lock criterion start afresh. -/
def State.enterAcquiring (s : State) : State :=
  { s.enterTb tbAcquiring with tb := { (s.enterTb tbAcquiring).tb with lockRun := 0, lostRun := 0, newSource := false } }

/-- Present a proposal `p` (2^-16 ns, positive moves time forward) to the timebase (R61). Within the threshold, P times
2^-kp is slewed (R166). `resolving` marks the proposal
that resolves a re-route on the source port (R145). DESIGN CHOICE (assumption 47): R66 keeps ACQUIRING until an accepted backward
slew has ended, while R61 and R166 refuse a proposal above TB_JUMP_THR in ACQUIRING; during such a slew the model refuses it too and
goes to HOLDOVER. -/
def State.propose (s : State) (p : Int) (kp : Nat) (resolving : Bool) : Verdict × State :=
  let st := s.tbState
  let big := decide (s.jumpThr < p.natAbs)
  if st = tbCold then
    -- applied as a step of any size, GEN 0 (R31, R56)
    let s := { s with srv := { s.srv with synt := true } }
    (.applied, ((s.enterAcquiring).beginEpoch kStep s.raw p).raise F.TB_EVT_STEP_APPLIED)
  else if st = tbSeeded then
    if (p.natAbs : Int) ≤ s.seedBound then
      let s := { s.withdrawStep with srv := { s.withdrawStep.srv with synt := true } }
      (.applied, s.enterAcquiring.applyStep p)
    else (.refused, s.holdStep p)
  else if st = tbAcquiring || st = tbLocked then
    if big then (.refused, (s.holdStep p).enterHoldover)
    else
      let s := if st = tbLocked && s.tb.newSource then s.enterAcquiring
               else { s with tb := { s.tb with newSource := false } }
      (.applied, s.startSlew p kp)
  else if st = tbHoldover then
    if big then (.refused, s.holdStep p)
    else
      let s := (s.withdrawStep.enterAcquiring).startSlew p kp
      (.applied, s.startRevision (-p) s.raw)
  else if st = tbReroute && resolving then
    if big then (.refused, (s.holdStep p).enterHoldover)
    else
      let s := s.enterAcquiring.startSlew p kp
      (.applied, s.startRevision (-p) s.raw)
  else (.discarded, s)

/-- Source loss (R60, R61): ACQUIRING, LOCKED and REROUTE go to HOLDOVER; any other state is unchanged. -/
def State.sourceLoss (s : State) : State :=
  let st := s.tbState
  if st = tbAcquiring || st = tbLocked || st = tbReroute then s.enterHoldover else s

/-- A round-trip step or a link restore on the source port (R61, R144): REROUTE, with the rate kept and STEP_PEND cleared. -/
def State.tbRerouted (s : State) : State :=
  let st := s.tbState
  if st = tbAcquiring || st = tbLocked || st = tbHoldover then
    (s.enterTb tbReroute).lower F.TB_STATUS_STEP_PEND
  else s

/-- SYN_UNLOCK is set (R61): DEGRADED from every state but COLD, keeping the current epoch. -/
def State.tbDegrade (s : State) : State :=
  let st := s.tbState
  if st = tbCold || st = tbDegraded then s
  else { s.enterTb tbDegraded with tb := { (s.enterTb tbDegraded).tb with fromSeeded := decide (st = tbSeeded) } }

/-- SYN0 has locked again (R61). On leaving DEGRADED for HOLDOVER, AU stays unknown (R171). -/
def State.tbUndegrade (s : State) : State :=
  if s.tbState = tbDegraded then
    if s.tb.fromSeeded then s.enterTb tbSeeded else s.enterHoldover
  else s

/-- Lock criterion and lock lost at a servo update with estimate `e`; `slewing` is whether a slew was in progress before the
update's own (R60, R61). -/
def State.judgeLock (s : State) (e : Int) (slewing : Bool) : State :=
  let within := decide ((e.natAbs : Int) * 1000 ≤ s.lockThr1000)
  let n := s.eff F.TB_LOCK_LOCK_N
  let ok := if within && !slewing then s.tb.lockRun + 1 else 0
  let bad := if within then 0 else s.tb.lostRun + 1
  let s := { s with tb := { s.tb with lockRun := ok, lostRun := bad } }
  if s.tbState = tbAcquiring && decide (n ≤ ok) then
    { s.enterTb tbLocked with tb := { (s.enterTb tbLocked).tb with lostRun := 0 } }
  else if s.tbState = tbLocked && decide (n ≤ bad) then s.enterAcquiring.raise F.TB_EVT_LOCK_LOST
  else s

/-- The update with estimate `e`, in LOCKED, is the one at which the lock is lost (R60). -/
def State.lockLostAt (s : State) (e : Int) : Bool :=
  s.tbState = tbLocked && decide (s.lockThr1000 < (e.natAbs : Int) * 1000) && decide (s.eff F.TB_LOCK_LOCK_N ≤ s.tb.lostRun + 1)

/-- Close an update with estimate `e` whose proposal was applied to `before`, giving `s`: the lock criterion and lock lost are
judged on the slew in progress before the update's own (R60). Where the proposal was the first from a new source in LOCKED, both
lock lost and the source change lead to ACQUIRING, which has been entered; lock lost, first in the order of R62, then leaves its
event. -/
def State.closeUpdate (s before : State) (e : Int) : State :=
  if before.tbState = tbLocked && before.tb.newSource then (if before.lockLostAt e then s.raise F.TB_EVT_LOCK_LOST else s)
  else s.judgeLock e before.tb.slew.isSome

/-- Apply the pending step whose acceptance a command asks for (R61, R64, R66): in SEEDED always a step; otherwise a forward
step, a backward step with TB_MONO = 0, or a backward slew. -/
def State.acceptStep (s : State) : State :=
  let p := s.int F.TB_PEND_OFS_PEND_OFS
  let st := s.tbState
  let s := s.lower F.TB_STATUS_STEP_PEND
  if st = tbSeeded then
    ({ s with srv := { s.srv with synt := true } }.enterAcquiring.applyStep p).auUpdate 0
  else
    let s := s.enterAcquiring
    let s := if 0 ≤ p || !s.on F.TB_CTRL_MONO then (s.applyStep p).auUpdate 0
             else ((s.startSlew p 0).raise F.TB_EVT_BACK_SLEW).auUpdate p
    s.startRevision (-p) s.raw

end Sys2Proof.Machine
end

