-- ==== Sys2Proof/Machine/Gens.lean ====
section
/-!
DEFINITION. Square-wave generators: the CKO outputs (R194 to R196) and the period generators (R215 to R218), and the edges they
make. Generator g is CKOg for g below 8 and PG(g-8) above.
-/
namespace Sys2Proof.Machine

/-- Two microseconds in taps. -/
abbrev twoUs : Nat := 800000

/-- Generator `g`. -/
def State.gen (s : State) (g : Nat) : Gen := Store.get Gen.idle s.ck.gens g

/-- Replace it. -/
def State.setGen (s : State) (g : Nat) (x : Gen) : State := { s with ck := { s.ck with gens := Store.set Gen.idle s.ck.gens g x } }

/-- EN of a generator. -/
def State.genEn (s : State) (g : Nat) : Bool := if g < 8 then s.on F.CK_CKO_CTRL_EN g else s.on F.TA_PG_CTRL_EN (g - 8)

/-- Its scale: ZTIME (true) or raw. -/
def State.genTime (s : State) (g : Nat) : Bool := if g < 8 then s.on F.CK_CKO_CTRL_SRC g else s.on F.TA_PG_CTRL_SCALE (g - 8)

/-- Period in 2^-16 ns. -/
def State.genPer (s : State) (g : Nat) : Nat := if g < 8 then s.eff F.CK_CKO_PER_PER g else s.eff F.TA_PG_PER_PER (g - 8)

/-- Grid phase. -/
def State.genPhase (s : State) (g : Nat) : Nat :=
  if g < 8 then s.get F.CK_CKO_PH_PHASE g else s.get F.TA_PG_PHASE_PHASE (g - 8) % s.genPer g

/-- Active phase: half the period, or WIDTH within its limits. -/
def State.genWidth (s : State) (g : Nat) : Nat :=
  if g < 8 then s.genPer g / 2 else max 327680 (min (s.genPer g - 327680) (s.get F.TA_PG_WIDTH_WIDTH (g - 8)))

/-- A raw time on a generator's scale. -/
def State.genScale (s : State) (g : Nat) (r : Raw) : Int := if s.genTime g then s.zt r else coldTime r

/-- The tap nearest to an instant on a scale, ZTIME under the epoch in force or raw; the lower on a tie. -/
def State.rawAt (s : State) (time : Bool) (x : Int) : Raw :=
  match (if time then s.tb.cur else none) with
  | some e =>
    let r := e.invert x
    let a := x - e.convert (r - 1).toNat
    let b := e.convert r.toNat - x
    if a ≤ b then (r - 1).toNat else r.toNat
  | none => (roundEven (x * 25) 4096).toNat

/-- The tap nearest to an instant on the generator's scale. -/
def State.genRaw (s : State) (g : Nat) (x : Int) : Raw := s.rawAt (s.genTime g) x

/-- The first grid instant at or after `x`. -/
def State.gridFrom (s : State) (g : Nat) (x : Int) : Int :=
  let p : Int := s.genPer g
  x + (s.genPhase g - x) % p

/-- The balls in MODE 3 that select a period generator (R215). -/
def State.pgBalls (s : State) (k : Nat) : List Nat :=
  (List.range s.fuses.variant.tios).filter (fun n => s.get F.TA_TIO_CTRL_MODE n = 3 && decide (s.get F.TA_TIO_CTRL_PGSEL n = k))

/-- The ball that a period generator drives (R217). -/
def State.pgBall (s : State) (k : Nat) : Option Nat := (s.pgBalls k).head?

/-- Signed TIO skew of the test block (R405), within its limits. -/
def State.tioSkew (s : State) (n : Nat) : Int := clampInt (-400) 400 (s.int F.TST_TIOSKEW_SKEW n)

/-- Where an edge meant for raw time `r` is made on ball `n`: placement by its DLL, then the skew of the test block. -/
def State.tioPlace (s : State) (n : Nat) (r : Raw) : Raw := (s.calPlace (8 + n) (calTioOut n) r + s.tioSkew n).toNat

/-- A TIO ball takes logic level `high` at raw time `r`: LEVEL and the edge at the ball, inverted by INV (R215). -/
def State.driveTio (s : State) (n : Nat) (high : Bool) (r : Raw) : State :=
  let s := s.put F.TA_TIO_CTRL_LEVEL high n
  s.emit (.edge n (high != s.on F.TA_TIO_CTRL_INV n) (s.tioPlace n r))

/-- A generator's edge at raw time `r`: on its CKO ball (line 16 + n of the outputs) or on its TIO ball. -/
def State.genEmit (s : State) (g : Nat) (high : Bool) (r : Raw) : State :=
  if g < 8 then s.emit (.edge (16 + g) high (s.calPlace g (calCko g) r))
  else match s.pgBall (g - 8) with
    | some n => s.driveTio n high r
    | none => s

/-- ACTIVE and REPHASE of a generator. -/
def State.genActive (s : State) (g : Nat) (b : Bool) : State :=
  if g < 8 then s.put F.CK_CKO_STAT_ACTIVE b g else s.put F.TA_PG_CTRL_ACTIVE b (g - 8)
def State.genRephase (s : State) (g : Nat) (b : Bool) : State :=
  if g < 8 then s.put F.CK_CKO_STAT_REPHASE b g else s.put F.TA_PG_CTRL_REPHASE b (g - 8)

/-- The rising edge at instant `x` of the scale: high (an output still high from an earlier phase makes no edge), and the falling edge one active phase later (R194, R196). The settings in
force now serve until the next rising edge (R195); REPHASE shows whether the edge lies off their grid (R196). COUNT counts down; the
last edge stops the generator after its active phase (R217). -/
def State.genRise (s : State) (g : Nat) (x : Int) (r : Raw) : State :=
  let y := s.gen g
  let fall := s.genRaw g (x + s.genWidth g)
  let s := s.setGen g { y with
    waiting := none, next := some (fall, false), lastRise := some x, high := true
    stopping := y.stopping || decide (y.left = 1), left := y.left - 1, ofs := s.tb.sumOfs
    time := s.genTime g, per := s.genPer g, phase := s.genPhase g, width := s.genWidth g }
  let s := (s.genActive g true).genRephase g (decide ((x - s.genPhase g) % (s.genPer g : Int) ≠ 0))
  if y.high then s else s.genEmit g true r

/-- The end of a generator's last active phase: it stays low; a period generator's EN reads 0 (R195, R217), unless EN has gone to 1
again within that phase and the generator waits for its new start. -/
def State.genStopped (s : State) (g : Nat) : State :=
  let y := s.gen g
  let again : Gen := if y.waiting.isSome then { Gen.idle with waiting := y.waiting, left := y.left } else Gen.idle
  let s := ((s.setGen g again).genActive g false).genRephase g false
  if g < 8 || y.waiting.isSome then s else s.lower F.TA_PG_CTRL_EN (g - 8)

/-- What a slew faster than 200 ppm adds to a period on the ZTIME scale: the output does not follow it beyond its re-phasing
(R196). -/
def State.genDrift (s : State) (g : Nat) : Int :=
  match s.tb.slew with
  | some w => if (s.gen g).time && decide (56294995342 < w.rate.natAbs) then (s.gen g).per * w.rate / 2 ^ 48 else 0
  | none => 0

/-- The next rising edge after the one at `x` (R196): one period later, the low phase lengthened or shortened by at most
PER * 2e-4 / (1 + 2e-4) towards the nearer grid instant, a tie by lengthening; no re-phasing while SYN_UNLOCK is set. Also
whether the edges lie off the grid. DESIGN CHOICE (assumption 55): only the low phase is shortened, so that a rising edge never comes
before the fall, where that bound is the smaller one. -/
def State.genNext (s : State) (g : Nat) (x : Int) : Int × Bool :=
  let p : Int := (s.gen g).per
  let n := x + p + s.genDrift g
  let off := (n - (s.gen g).phase) % p
  let lim := p / 5001
  if off = 0 then (n, false)
  else if s.on F.CK_STATUS_SYN_UNLOCK then (n, true)
  else if off < p - off then (n - min off (min lim (p - (s.gen g).width)), true)
  else (n + min (p - off) lim, true)

/-- What a step since the last rising edge added to the scale under it (R196). -/
def State.genShift (s : State) (g : Nat) : Int := if (s.gen g).time then s.tb.sumOfs - (s.gen g).ofs else 0

/-- The raw time of the edge that comes next, `r` as it was planned: on the ZTIME scale it follows the epoch in force, but for the
offsets applied (R194, R196). -/
def State.genDue (s : State) (g : Nat) (r : Raw) (rise : Bool) : Raw :=
  let y := s.gen g
  match y.lastRise with
  | some x => if y.time && s.tb.cur.isSome then s.rawAt true (x + s.genShift g + (if rise then 0 else (y.width : Int))) else r
  | none => r

/-- Edges wait for the halt to end (R188, R218). -/
def State.halted (s : State) : Bool := s.on F.CK_STATUS_HALT

/-- The falling edge: low, and the next rising edge is due, or the generator stops; a CKO output in a halt holds low (R188). -/
def State.genFall (s : State) (g : Nat) (r : Raw) : State :=
  let y := s.gen g
  let s := s.genEmit g false r
  if y.stopping then s.genStopped g
  else
    let n := s.genNext g ((y.lastRise.getD 0) + s.genShift g)
    let t := (s.setGen g { y with
      high := false, next := if s.halted then none else some (s.rawAt y.time n.1, true), lastRise := some n.1
      ofs := s.tb.sumOfs })
    let t := if n.2 then t.genRephase g true else t
    if s.halted then t.genActive g false else t

/-- A step under a running generator has put its edges off the grid: REPHASE (R196). -/
def State.genOffGrid (s : State) (g : Nat) : State :=
  let y := s.gen g
  let off := match y.lastRise with
    | some x => decide (s.genShift g ≠ 0) && decide ((x + s.genShift g - y.phase) % (y.per : Int) ≠ 0)
    | none => false
  if off then s.genRephase g true else s

/-- One edge of generator `g`, if it is due by raw time `now`. -/
def State.genTick (s : State) (g : Nat) (now : Raw) : State :=
  let y := s.gen g
  match y.next with
  | none => s
  | some (r, rise) =>
    let s := s.genOffGrid g
    let r := s.genDue g r rise
    if now < r then s
    else if rise then
      (if s.halted then s
       else s.genRise g (if y.time = s.genTime g then (y.lastRise.getD 0) + s.genShift g else s.genScale g r) r)
    else if s.halted && decide (8 ≤ g) then s
    else s.genFall g r

/-- Every generator makes at most one edge. -/
def State.gensTick (s : State) : State := (List.range 24).foldl (fun s g => s.genTick g (s.raw + 511)) s

/-- EN went to 1, or a halt ended: the generator waits for the first grid instant at least 2 us later (R195, R217). An active phase
in progress completes first, and no rising edge of the old run follows it. -/
def State.genArm (s : State) (g : Nat) : State :=
  let y := s.gen g
  let left := if g < 8 then 0 else s.get F.TA_PG_COUNT_COUNT (g - 8)
  s.setGen g { (if y.high then { y with stopping := true } else Gen.idle) with waiting := some (s.raw + twoUs), left := left }

/-- EN went to 0, or TRAIN_STOP (R195, R217): the active phase completes and no rising edge follows. -/
def State.genStop (s : State) (g : Nat) : State :=
  let y := s.gen g
  if y.high then s.setGen g { y with waiting := none, stopping := true }
  else (s.setGen g { y with waiting := none }).genStopped g

/-- The start instant has come (R195, R217): an enabled, waiting generator rises at the first grid instant at least 2 us after
its enable. On the ZTIME scale it waits while the timebase is COLD, and then no instant already past serves. -/
def State.genStart (s : State) (g : Nat) : State :=
  match (s.gen g).waiting with
  | none => s
  | some b =>
    if !s.genEn g || s.halted || (s.genTime g && s.tbState = tbCold) then s
    else
      let x := s.gridFrom g (s.genScale g (max b s.raw))
      let r := s.genRaw g x
      let s := s.reach r
      let s := if (s.gen g).high then s.genTick g r else s
      if (s.gen g).high then s else s.genRise g x r

/-- A halt begins (R188, R218): CKO outputs complete their active phase and hold low; TIO outputs hold their level, and no generator
makes an edge until the release. -/
def State.gensHalt (s : State) : State :=
  (List.range 24).foldl (fun (s : State) g =>
    let y := s.gen g
    if g < 8 && y.high then s else (s.setGen g { y with next := none }).genActive g false) s

/-- A generator at the end of a halt (R188, R195, R218): a TIO output that it left high falls at once; one that was stopping has
stopped, and every other enabled one starts anew at the first grid instant at least 2 us later. -/
def State.genRelease (s : State) (g : Nat) : State :=
  let y := s.gen g
  if g < 8 then (if s.genEn g then s.genArm g else s)
  else
    let s := if y.high then (s.setGen g { y with high := false, next := none }).genEmit g false s.raw else s
    if s.genEn g && (!y.stopping || y.waiting.isSome) then
      let s := s.genArm g
      s.setGen g { s.gen g with left := y.left }
    else s.genStopped g

/-- A halt ends. -/
def State.gensRelease (s : State) : State := (List.range 24).foldl (fun (s : State) g => s.genRelease g) s

/-! ### The ends of a CKO claim -/

/-- CKO output `n` is disabled and its claim released. -/
def State.ckoOff (s : State) (n : Nat) : State :=
  ((s.lower F.CK_CKO_CTRL_EN n).genStop n).release (claimCko n)

end Sys2Proof.Machine
end

