-- ==== Sys2Proof/Machine/Frames.lean ====
section
/-!
DEFINITION. Frames as octet strings: the parser and classes of R87 and R88, and the rewrites of the insertion unit on a frame
(R111, R114, R119 to R121).
-/
namespace Sys2Proof.Machine

/-- The switches of STR_PARSE and STR_ETM that the parser reads (R87, R88). -/
structure ParseCfg where
  eth : Bool
  ipv4 : Bool
  ipv6 : Bool
  vlan2 : Bool
  v6ext : Bool
  etype : Nat
  mask : Nat
  deriving DecidableEq, Repr

/-- The encapsulations of R87. -/
inductive Encap where
  | ethernet | ipv4 | ipv6
  deriving DecidableEq, Repr

/-- What the parser finds: the EtherType after the accepted VLAN tags and its offset; for a frame that carries a PTP
encapsulation, which one, the offsets of the UDP header and of the PTP header, and whether it passes every check of R87. -/
structure Parsed where
  etype : Nat
  etOff : Nat
  encap : Option Encap
  udpOff : Nat
  ptpOff : Nat
  good : Bool
  deriving DecidableEq, Repr

/-- A VLAN TPID (R87). -/
def isTpid (t : Nat) : Bool := t = 0x8100 || t = 0x88A8 || t = 0x9100

/-- Offset of the EtherType field after the accepted VLAN tags. -/
def etherOff (two : Bool) (d : Bytes) : Nat :=
  if isTpid (beAt d 12 2) then (if two && isTpid (beAt d 16 2) then 20 else 16) else 12

/-- The IPv6 next header after the extension headers that R87 accepts: its value and offset of what it heads; `fuel` headers
and `room` octets are still allowed. -/
def skipExt (d : Bytes) : Nat → Nat → Nat → Nat → Nat × Nat
  | 0, _, nh, off => (nh, off)
  | fuel + 1, room, nh, off =>
    if nh = 0 || nh = 60 then
      let len := 8 + 8 * beAt d (off + 1) 1
      if len ≤ room then skipExt d fuel (room - len) (beAt d off 1) (off + len) else (nh, off)
    else (nh, off)

/-- The PTP header at `off`: version 2, whole within the first 192 octets after the destination address, messageLength within
`room` octets (R87). -/
def ptpHeaderOk (d : Bytes) (off room : Nat) : Bool :=
  decide (beAt d (off + 1) 1 % 16 = 2) && decide (off + 34 ≤ 6 + 192) && decide (off + 34 + 4 ≤ d.length)
    && decide (beAt d (off + 2) 2 ≤ room)

/-- The parser (R87): what a frame, destination address to FCS, carries. -/
def parseFrame (c : ParseCfg) (d : Bytes) : Parsed :=
  let eo := etherOff c.vlan2 d
  let et := beAt d eo 2
  let none' : Parsed := ⟨et, eo, none, 0, 0, false⟩
  if et = 0x88F7 && c.eth then
    ⟨et, eo, some .ethernet, 0, eo + 2, ptpHeaderOk d (eo + 2) (d.length - 4 - (eo + 2))⟩
  else if et = 0x0800 && c.ipv4 then
    let ip := eo + 2
    let ihl := beAt d ip 1 % 16
    let u := ip + 4 * ihl
    let port := beAt d (u + 2) 2
    if beAt d (ip + 9) 1 = 17 && (port = 319 || port = 320) then
      let ulen := beAt d (u + 4) 2
      ⟨et, eo, some .ipv4, u, u + 8,
        decide (beAt d ip 1 / 16 = 4) && decide (5 ≤ ihl) && decide (onesSum (sub d ip (4 * ihl)) = 0xFFFF)
          && decide (beAt d (ip + 6) 2 % 0x4000 = 0) && decide (8 ≤ ulen) && ptpHeaderOk d (u + 8) (ulen - 8)⟩
    else none'
  else if et = 0x86DD && c.ipv6 then
    let ip := eo + 2
    let (nh, u) := skipExt d (if c.v6ext then 2 else 0) 64 (beAt d (ip + 6) 1) (ip + 40)
    let port := beAt d (u + 2) 2
    if nh = 17 && (port = 319 || port = 320) then
      let ulen := beAt d (u + 4) 2
      ⟨et, eo, some .ipv6, u, u + 8,
        decide (beAt d ip 1 / 16 = 6) && decide (8 ≤ ulen) && ptpHeaderOk d (u + 8) (ulen - 8)⟩
    else none'
  else none'

/-- The frame is recognised under R87. -/
def Parsed.recognised (p : Parsed) : Bool := p.encap.isSome && p.good

/-- It carries a PTP encapsulation and fails another check of R87 (R88). -/
def Parsed.malformed (p : Parsed) : Bool := p.encap.isSome && !p.good

/-- PTP fields of a recognised frame. -/
def Parsed.msgType (p : Parsed) (d : Bytes) : Nat := beAt d p.ptpOff 1 % 16
def Parsed.msgLen (p : Parsed) (d : Bytes) : Nat := beAt d (p.ptpOff + 2) 2

/-- The class of a frame, 0 to 4 for C0 to C4 (R88). -/
def frameClass (c : ParseCfg) (d : Bytes) : Nat :=
  let p := parseFrame c d
  let t := p.msgType d
  if p.recognised && decide (t ≤ 3) then 0
  else if p.recognised && decide (8 ≤ t) && decide (t ≤ 13) then 1
  else if p.malformed then 4
  else if p.etype = 0x8809 && beAt d (p.etOff + 2) 1 = 0x0A then 2
  else if c.mask ≠ 0 && p.etype &&& c.mask = c.etype &&& c.mask then 3
  else 4

/-- correctionField arithmetic (R114): none where the field is out of range. -/
def cfArith (c : Nat) (subtract : Bool) (v : Nat) : Option Nat :=
  let hi := c / 2 ^ 48
  let lo := c % 2 ^ 48
  if hi ≠ 0 && hi ≠ 0xFFFF then none
  else if subtract then some (hi * 2 ^ 48 + (lo + 2 ^ 48 - v % 2 ^ 48) % 2 ^ 48)
  else
    let l := (lo + v) % 2 ^ 48
    some ((if l.testBit 47 then 0xFFFF * 2 ^ 48 else 0) + l)

/-- The trailer rule of R120: messageLength even and UDP length at least messageLength + 10. -/
def Parsed.trailerOk (p : Parsed) (d : Bytes) : Bool :=
  decide (p.encap ≠ some .ipv6)
    || (decide (p.msgLen d % 2 = 0) && decide (p.msgLen d + 10 ≤ beAt d (p.udpOff + 4) 2))

/-- A field of `len` octets at PTP offset `o` lies within the message and before the FCS (R111). -/
def Parsed.fits (p : Parsed) (d : Bytes) (o len : Nat) : Bool :=
  decide (o + len ≤ p.msgLen d) && decide (p.ptpOff + o + len + 4 ≤ d.length)

/-- Write `v` at PTP offset `o`, with the checksum rule of the encapsulation: UDP/IPv4 sets its checksum to 0 (R119); UDP/IPv6
adjusts the trailer by the one's complement difference (R120). The FCS is not yet recomputed. -/
def Parsed.rewrite (p : Parsed) (d : Bytes) (o : Nat) (v : Bytes) : Bytes :=
  let d' := putAt d (p.ptpOff + o) v
  match p.encap with
  | some .ipv4 => putAt d' (p.udpOff + 6) [0, 0]
  | some .ipv6 =>
    let tr := p.ptpOff + p.msgLen d
    let delta := onesAdd (onesSum v) (onesNeg (onesSum (sub d (p.ptpOff + o) v.length)))
    putAt d' tr (be 2 (onesAdd (beAt d tr 2) (onesNeg delta)))
  | _ => d'

/-- The frame after rewrites, with the FCS of R121. -/
def refcs (old new : Bytes) : Bytes :=
  let n := old.length - 4
  new.take n ++ fcsAfter (old.take n) (new.take n) (old.drop n)

end Sys2Proof.Machine
end

