-- ==== Sys2Proof/Machine/RecOps.lean ====
section
/-!
DEFINITION. The event recorder's staging (R307 to R316): record images, triggers, samples and the queue, used by every family
that names a recorder trigger.
-/
namespace Sys2Proof.Machine

/-! ### Triggers (R311) -/

abbrev trPowerUp : Nat := 0x0001
abbrev trImport : Nat := 0x0002
abbrev trMonUnion : Nat := 0x0003
abbrev trLogMedia : Nat := 0x0004
abbrev trDown : Nat := 0x0005
abbrev trPeriodic : Nat := 0x0010
abbrev trHost : Nat := 0x0011
abbrev trSqFail : Nat := 0x0020
abbrev trCkHalt : Nat := 0x0021
abbrev trFallback : Nat := 0x0022
abbrev trClaimBroken : Nat := 0x0023
abbrev trStickyClear : Nat := 0x0024
abbrev trSelftestFail : Nat := 0x0025
abbrev trGovOver : Nat := 0x0026
abbrev trCal : Nat := 0x0030

/-- Urgent triggers. -/
def trUrgent (t : Nat) : Bool := decide (t < 0x10)

/-- Optional triggers are staged only while enabled in REC_TRIG_EN. -/
def State.trEnabled (s : State) (t : Nat) : Bool :=
  !(decide (0x20 ≤ t) && decide (t < 0x27)) || (s.get F.REC_TRIG_EN_EN).testBit (t - 0x20)

/-! ### Accumulators (R308 to R310) -/

/-- LO and STEP of each quantity (R308). -/
def quantityBins : List (Int × Int) :=
  [(-640, 96), (-640, 96), (690, 4), (840, 4), (1140, 4), (1700, 8), (2700, 40), (2000, 50), (0, 60), (0, 90), (-200000, 12500),
   (0, 32), (0, 2000), (0, 1), (0, 8000), (0, 1024), (0, 1), (0, 4096), (0, 8192), (0, 1), (0, 1), (0, 65536), (0, 1),
   (-16384, 1024)]

/-- The bin of a value (R310). -/
def histBin (q : Nat) (v : Int) : Nat :=
  let p := quantityBins.getD q (0, 1)
  (clampInt 0 31 ((v - p.1) / p.2)).toNat

/-- The lowest histogram slot that names a quantity in the interval (R310). -/
def State.histSlot (s : State) (q : Nat) : Option Nat := (List.range 8).find? (fun j => decide (s.recd.hsel.getD j 31 = q))

/-- Extremes of a quantity. -/
def State.ext (s : State) (q : Nat) : Ext := Store.get Ext.empty s.recd.ext q

/-- The accumulator word of a quantity (R379). -/
def accKey (q : Nat) : Nat := sramKey (0x94800 + q)

/-- A sample reads the quantity's word and writes it back; one that cannot be read stays poisoned (R385, R386). -/
def State.touchAcc (s : State) (q : Nat) : State :=
  let r := s.readWord (accKey q)
  if r.1 then r.2 else r.2.writeWord (accKey q)

/-- One sample of a quantity (R308, R309): extremes with their operating second, and the largest of the second. -/
def State.recSample (s : State) (q : Nat) (v : Int) : State :=
  let s := s.touchAcc q
  let x := clampInt (-8388607) 8388607 v
  let t := s.get F.REC_OPSEC_OPSEC % 2 ^ 32
  let e := s.ext q
  let e := if !e.valid then { e with min := x, max := x, minT := t, maxT := t, valid := true }
    else
      let e := if x < e.min then { e with min := x, minT := t } else e
      if e.max < x then { e with max := x, maxT := t } else e
  let e := { e with sat := e.sat || decide (x ≠ v)
                    sec := some (match e.sec with
                      | none => x
                      | some m => max m x) }
  { s with recd := { s.recd with ext := Store.set Ext.empty s.recd.ext q e } }

/-- The end of a second: every quantity in a histogram enters it with the largest sample of the second (R309). -/
def State.recSecond (s : State) : State :=
  (List.range 24).foldl (fun s q =>
    let e := s.ext q
    match e.sec with
    | none => s
    | some v =>
      let s := { s with recd := { s.recd with ext := Store.set Ext.empty s.recd.ext q { e with sec := none } } }
      match s.histSlot q with
      | none => s
      | some j =>
        let k := 32 * j + histBin q v
        { s with recd := { s.recd with hist := Store.set 0 s.recd.hist k (satAdd 16 (Store.get 0 s.recd.hist k) 1) } }) s

/-- A new interval begins (R309). What the second in progress has for its histogram stays. -/
def State.recInterval (s : State) : State :=
  let s := s.writeWords (accKey 0) 24
  { s with recd := { s.recd with
      ext := (s.recd.ext.filter (fun p => p.2.sec.isSome)).map (fun p => (p.1, { Ext.empty with sec := p.2.sec })), hist := [], istart := s.get F.REC_OPSEC_OPSEC
      hsel := [s.get F.REC_HSEL0_SLOT0, s.get F.REC_HSEL0_SLOT1, s.get F.REC_HSEL0_SLOT2, s.get F.REC_HSEL0_SLOT3,
               s.get F.REC_HSEL1_SLOT4, s.get F.REC_HSEL1_SLOT5, s.get F.REC_HSEL1_SLOT6, s.get F.REC_HSEL1_SLOT7] } }

/-! ### Images (R315, R316) -/

/-- One extremes entry of 16 octets; one whose word is poisoned reads as not VALID (R386). -/
def State.extBytes (s : State) (q : Nat) : Bytes :=
  let e := s.ext q
  let valid := e.valid && !s.poisoned (accKey q)
  (if valid then le 3 (toBits 24 e.min) ++ le 3 (toBits 24 e.max) ++ le 4 e.minT ++ le 4 e.maxT else List.replicate 14 0)
    ++ [BitVec.ofNat 8 ((s.histSlot q).getD 0xFF), BitVec.ofNat 8 (b2n valid + 2 * b2n e.sat)]

/-- The record image of a trigger: TYPE, the interval flag, DETAIL and the histogram or import area. SUPPR and PRES are
written when the record is. -/
def State.recImage (s : State) (type trig seq detail : Nat) (ireset : Bool) (area : Bytes) : Bytes :=
  [0x5A, 0x4E, 0x52, 0x43] ++ [BitVec.ofNat 8 type, BitVec.ofNat 8 (2 * b2n ireset)] ++ le 2 trig ++ le 4 seq
    ++ le 5 (s.get F.REC_OPSEC_OPSEC) ++ le 4 (s.get F.REC_PCC_PCC) ++ le 2 0
    ++ [BitVec.ofNat 8 (s.tbState + 8 * b2n (s.on F.TB_STATUS_UNTRACED))] ++ le 4 s.recd.istart ++ le 4 detail
    ++ (List.range 24).flatMap s.extBytes ++ area ++ List.replicate 96 0

/-- The histogram area (R315): 8 slots of 32 counts. -/
def State.histBytes (s : State) : Bytes := (List.range 256).flatMap (fun k => le 2 (Store.get 0 s.recd.hist k))

/-! ### The staging queue (R312, R313) -/

/-- Keep QLEN and the standby mirror of the queue (R324). -/
def State.recSync (s : State) : State :=
  { s.set F.REC_STATUS_QLEN s.recd.queue.length with recd := { s.recd with staged := s.recd.queue.length } }

/-- A trigger was not staged (R313). -/
def State.recSuppress (s : State) : State :=
  ((s.bump F.REC_SUPPR_PEND_PEND).bump F.REC_SUPPR_TOTAL_TOTAL).raise F.REC_EVT_SUPPR

/-- The first word of an image's KiB in the staging queue (R379). -/
def imageKey (i : Image) : Nat := sramKey (0x94000 + 64 * i.place)

/-- The lowest KiB of the staging queue that no image holds. -/
def State.imagePlace (s : State) : Nat :=
  ((List.range 32).find? (fun k => s.recd.queue.all (fun i => i.place ≠ k))).getD 31

/-- Place an image behind the urgent images already waiting. The head stays first while it is being written. -/
def insertUrgent (i : Image) : List Image → List Image
  | [] => [i]
  | h :: t => if h.urgent then h :: insertUrgent i t else i :: h :: t

/-- Remove the newest normal image. -/
def dropNormal : List Image → Option (List Image)
  | [] => none
  | h :: t =>
    match dropNormal t with
    | some t' => some (h :: t')
    | none => if h.urgent then none else some t

/-- Place an image in the queue, in words of its own: urgent ahead of every normal one, behind the head that is being written. -/
def State.recPlace (s : State) (i : Image) : State :=
  let i := { i with place := s.imagePlace }
  let s := s.writeWords (imageKey i) 64
  let q := s.recd.queue
  let q' := if !i.urgent then q ++ [i]
    else if s.recd.writing.isSome then
      match q with
      | [] => [i]
      | h :: t => h :: insertUrgent i t
    else insertUrgent i q
  { s with recd := { s.recd with queue := q' } }.recSync

/-- Displace the newest normal image that is not being written; none where there is none. -/
def State.recDisplace (s : State) : Option State :=
  let q := s.recd.queue
  let q' := if s.recd.writing.isSome then
      match q with
      | [] => none
      | h :: t => (dropNormal t).map (h :: ·)
    else dropNormal q
  q'.map (fun q => { s with recd := { s.recd with queue := q } }.recSuppress)

/-- Stage an image under trigger `trig` (R311 to R313), if the recorder works. -/
def State.recStage (s : State) (type trig detail : Nat) (ireset : Bool) (area : Bytes) : State :=
  if s.on F.REC_STATUS_RO_MODE then s.recSuppress
  else
    let s := (s.readWords (accKey 0) 24).2
    let i : Image := ⟨trUrgent trig, trig, s.recImage type trig (s.get F.REC_SEQ_SEQ) detail ireset area, false, 0⟩
    if s.recd.queue.length < 32 then (s.recPlace i).incr F.REC_SEQ_SEQ
    else if i.urgent then
      match s.recDisplace with
      | some s => (s.recPlace i).incr F.REC_SEQ_SEQ
      | none => s.recSuppress
    else s.recSuppress

/-- A recorder trigger with its DETAIL. Before start-up step 10 the recorder stages nothing (R319). -/
def State.recTrigger (s : State) (trig detail : Nat) : State :=
  if s.mainUp && s.on F.REC_STATUS_READY && s.trEnabled trig then s.recStage 1 trig detail false s.histBytes else s

end Sys2Proof.Machine
end

