-- ==== Sys2Proof/Machine/Servo.lean ====
section
/-!
DEFINITION. Source selection and the servo (R163 to R175), and the selection of the frequency source (R181).
-/
namespace Sys2Proof.Machine

/-! ### Candidates (R163) -/

/-- The role of port `n` that governs: ROLE 3 acts as NONE (R154). -/
def State.role (s : State) (n : Nat) : Nat := let r := s.get F.PTP_PCTRL_ROLE n; if r = 3 then 0 else r

/-- PROFILE = 1: IEEE 802.1AS. -/
def State.gptp (s : State) : Bool := s.on F.PTP_CTRL_PROFILE

/-- The SPX condition of a candidate's port. -/
def State.spxEligible (s : State) (n : Nat) : Bool :=
  s.get F.SPX_STATUS_SESS n = 3 && s.on F.SPX_STATUS_REC_VALID n && !s.on F.SPX_STATUS_PARTNER_COLD n && !s.on F.SPX_PINFO_SRC n

/-- Three announce intervals of port `n`, in taps (R163); the interval is that of PTP_PINT.LOG_ANN (R155). -/
def State.annLife (s : State) (n : Nat) : Nat :=
  let l := clampInt (-10) 4 (s.int F.PTP_PINT_LOG_ANN n)
  if 0 ≤ l then 1200000000000 * 2 ^ l.toNat else 1200000000000 / 2 ^ (-l).toNat

/-- An Announce with clockClass at most `c` was received on port `n` within three announce intervals (R163). -/
def State.annWithin (s : State) (n c : Nat) : Bool :=
  (s.ptp n).anns.any (fun a => decide (a.1 ≤ c) && decide (s.raw ≤ a.2 + s.annLife n))

/-- The PTP condition of candidate `k` on port `n`. -/
def State.ptpEligible (s : State) (k n : Nat) : Bool :=
  s.role n = 1 && s.annWithin n (s.get F.SRV_SRC_CLASS_MAX k)
    && (!s.gptp || s.on F.PTP_PSTAT_AS_CAPABLE n)

/-- The port of candidate `k`. -/
def State.srcPort (s : State) (k : Nat) : Nat := s.get F.SRV_SRC_PORT k

/-- The highest CLASS_MAX of the enabled candidates that take PTP from port `n`. -/
def State.classLimit (s : State) (n : Nat) : Option Nat :=
  (List.range 8).foldl (fun o k =>
    if s.on F.SRV_SRC_EN k && decide (s.srcPort k = n) && (s.get F.SRV_SRC_METHOD k = 0 || s.get F.SRV_SRC_METHOD k = 2)
    then some (max (o.getD 0) (s.get F.SRV_SRC_CLASS_MAX k)) else o) none

/-- Candidate `k` is eligible. -/
def State.eligible (s : State) (k : Nat) : Bool :=
  let n := s.srcPort k
  s.on F.SRV_SRC_EN k && s.bonded n && s.on F.STR_STATUS_L_LOCK n
    && (match s.get F.SRV_SRC_METHOD k with
        | 0 => s.spxEligible n || s.ptpEligible k n
        | 1 => s.spxEligible n
        | 2 => s.ptpEligible k n
        | _ => false)

/-- Candidate `k` is qualified. -/
def State.qualified (s : State) (k : Nat) : Bool := (s.get F.SRV_STATUS_QUAL).testBit k

/-- Set or clear a candidate's qualification. -/
def State.setQual (s : State) (k : Nat) (b : Bool) : State :=
  let q := s.get F.SRV_STATUS_QUAL
  s.set F.SRV_STATUS_QUAL (if b then q ||| 2 ^ k else if q.testBit k then q - 2 ^ k else q)

/-- Candidate `a` is better than `b`: lower PRIO, or equal PRIO at a lower index (R164). -/
def State.better (s : State) (a b : Nat) : Bool :=
  let pa := s.get F.SRV_SRC_PRIO a
  let pb := s.get F.SRV_SRC_PRIO b
  decide (pa < pb) || (decide (pa = pb) && decide (a < b))

/-- The best qualified candidate. -/
def State.bestSrc (s : State) : Option Nat :=
  (List.range 8).foldl (fun o k =>
    if s.qualified k then
      match o with
      | none => some k
      | some b => if s.better k b then some k else some b
    else o) none

/-- Software proposes: XEN = 1 and HW_PROP = 0 (R169). -/
def State.swProposes (s : State) : Bool := s.on F.SRV_CTRL_XEN && !s.on F.SRV_XCTRL_HW_PROP

/-- The method in use for the selected candidate: 0 none, 1 SPX, 2 PTP, 3 SRV_PROPOSE (R164, R176). -/
def State.methodNow (s : State) : Nat :=
  if s.swProposes then 3
  else if !s.on F.SRV_STATUS_SEL_VALID then 0
  else
    let k := s.get F.SRV_STATUS_SEL
    let n := s.srcPort k
    match s.get F.SRV_SRC_METHOD k with
    | 0 => if s.get F.SPX_STATUS_SESS n = 3 && !s.on F.SPX_STATUS_STARVED n && !s.on F.SPX_STATUS_FALLBACK n then 1 else 2
    | 1 => 1
    | 2 => 2
    | _ => 0

/-- A source change: the new source's first proposal is judged afresh and measurements of the old one are dropped (R61, R164). -/
def State.sourceChanged (s : State) : State :=
  { s with tb := { s.tb with newSource := true }, srv := { s.srv with acc := [] } }

/-- Keep METHOD; a change of method within the candidate is a source change (R164), also where no method or SRV_PROPOSE stood
between the two. -/
def State.reviewMethod (s : State) (sameCand : Bool) : State :=
  let m := s.methodNow
  let hw := m = 1 || m = 2
  let old := s.srv.lastMethod
  let s := s.set F.SRV_STATUS_METHOD m
  let s := { s with srv := { s.srv with lastMethod := if hw then m else if sameCand then old else 0 } }
  if sameCand && hw && old ≠ 0 && old ≠ m then (s.raise F.SRV_EVT_METHOD_CHANGE).sourceChanged else s

/-- Select candidate `k`. -/
def State.selectSrc (s : State) (k : Nat) : State :=
  let same := s.srv.everSel && decide (s.get F.SRV_STATUS_SEL = k)
  let s := (s.set F.SRV_STATUS_SEL k).raise F.SRV_STATUS_SEL_VALID
  let s := { s with srv := { s.srv with everSel := true } }
  let s := if same then s else (s.raise F.SRV_EVT_SRC_CHANGE).sourceChanged
  (s.lower F.SRV_STATUS_WTR_RUN).reviewMethod same

/-- The selector evaluates (R164, R165). DESIGN CHOICE (assumption 53): R165 suspends the rules of R164 other than the first while
FORCED; the method of an AUTO candidate and METHOD_CHANGE, which no other rule would give it, go on under FORCED. -/
def State.select (s : State) : State :=
  let cur := s.get F.SRV_STATUS_SEL
  let held := s.srv.everSel && s.qualified cur
  let s := if s.on F.SRV_STATUS_FORCED && !held then (s.lower F.SRV_STATUS_FORCED).raise F.SRV_EVT_SRC_LOST else s
  if s.on F.SRV_STATUS_FORCED then (s.raise F.SRV_STATUS_SEL_VALID).reviewMethod true
  else match s.bestSrc with
    | none =>
      let s := if s.on F.SRV_STATUS_SEL_VALID then s.raise F.SRV_EVT_NO_SOURCE else s
      ((s.lower F.SRV_STATUS_SEL_VALID).lower F.SRV_STATUS_WTR_RUN).reviewMethod true
    | some b =>
      if !held then s.selectSrc b
      else
        let s := s.raise F.SRV_STATUS_SEL_VALID
        if s.better b cur && s.on F.SRV_CTRL_REVERT then
          if s.get F.SRV_WTR_WTR = 0 then s.selectSrc b else (s.raise F.SRV_STATUS_WTR_RUN).reviewMethod true
        else (s.lower F.SRV_STATUS_WTR_RUN).reviewMethod true

/-- Eligibility has changed somewhere: candidates that stopped being eligible lose qualification at once, the last selected
one requalifies at once, and the selector evaluates (R163). -/
def State.srvReview (s : State) : State :=
  let s := (List.range 8).foldl (fun (s : State) k =>
    if s.eligible k then
      (if s.srv.everSel && decide (s.get F.SRV_STATUS_SEL = k) then s.setQual k true else s)
    else s.setQual k false) s
  s.select

/-- The port that the timebase's selected source lies on: SEL keeps the last selected candidate (R164). -/
def State.isSourcePort (s : State) (n : Nat) : Bool := s.srv.everSel && decide (s.srcPort (s.get F.SRV_STATUS_SEL) = n)

/-! ### Measurements and updates (R166 to R169) -/

/-- Post a measurement to the event ring when MEAS_EVT = 1 (R169): method 0 SPX, 1 PTP. -/
def State.postMeas (s : State) (n fl : Nat) (e rtt delta : Int) (unc : Nat) : State :=
  if s.on F.SRV_CTRL_MEAS_EVT then
    s.postMain (s.get F.HIF_EVMAP_SRV) 0x08 fl n
      (le 8 (toBits 64 e) ++ le 8 (toBits 64 rtt) ++ le 4 (toBits 32 delta) ++ le 4 unc)
  else s

/-- A measurement of port `n` by `method` (1 SPX, 2 PTP) reaches the servo: collected for the next update in ACQUIRING and
LOCKED, a proposal on its own in COLD, SEEDED and HOLDOVER, discarded in DEGRADED; in REROUTE only the proposal that
resolves the route counts (R145, R166). DESIGN CHOICE (assumption 47): with software proposing (R169) no measurement is a proposal,
the resolving one of R145 neither, and SRV_PROPOSE is NOT_READY in REROUTE; a resolved route then leaves REROUTE by source loss
alone. -/
def State.deliver (s : State) (n method : Nat) (e : Int) (unc : Nat) (resolving : Bool) : State :=
  if !(s.isSourcePort n) || s.swProposes then s
  else if !resolving && !(s.on F.SRV_STATUS_SEL_VALID && decide (s.get F.SRV_STATUS_METHOD = method)) then s
  else
    let st := s.tbState
    if st = tbAcquiring || st = tbLocked then
      { s with srv := { s.srv with acc := ⟨e, unc⟩ :: s.srv.acc } }
    else
      let s := { s with srv := { s.srv with m := unc } }
      let r := s.propose (-e) (s.get F.SRV_XCTRL_KP_ACQ) resolving
      if r.1 = .applied then r.2.auUpdate (if st = tbHoldover || st = tbReroute then e else 0) else r.2

/-- The seed of F (R168): the partner's transmit frequency relative to SCLK over the last 16 phase averages, plus the RATE of
the held record, in 2^-48; none while fewer than 17 averages are known. -/
def State.syntSeed (s : State) (n : Nat) : Option Int :=
  let x := s.spx n
  match x.phases.head?, x.phases[16]?, x.record with
  | some (r1, p1), some (r0, p0), some rec =>
    if r0 < r1 then some (roundEven ((p1 - p0) * 2 ^ 48) ((r1 : Int) - r0) + rec.rate) else none
  | _, _, _ => none

/-- The publication interval of the state in force, ns (R48). -/
def State.pubInterval (s : State) : Nat :=
  if s.tbState = tbLocked then s.eff F.TB_PUB_PUB_LOCKED * 1000000 else s.eff F.TB_PUB_PUB_ACQ * 1000

/-- Mean of measurements, rounded to nearest, ties to even (R166). -/
def meanMeas (l : List Meas) : Int := roundEven (l.foldl (fun a m => a + m.e) 0) l.length

/-- y, the SYN0 adjustment in force, in 2^-48 (R178). -/
def State.synAdj (s : State) : Int := s.int F.CK_SYN_ADJ_ADJ

/-- y after `dt` ns of movement towards the DPLL's target, at most SLEW ppb per second (R183); held while SYN_UNLOCK (R187). -/
def State.adjAfter (s : State) (dt : Int) : Int :=
  let lim := (s.eff F.CK_DPLL_SLEW : Int) * dt * 2 ^ 48 / 10 ^ 18
  if s.on F.CK_STATUS_SYN_UNLOCK then s.synAdj else clampInt (s.synAdj - lim) (s.synAdj + lim) s.ck.target

/-- A rate as it stands after y has changed: (1 + R)(1 + y_old) / (1 + y_new) - 1, rounded to nearest (R183). -/
def rateForAdj (r y0 y1 : Int) : Int := clampInt (-rateMax) rateMax (roundEven ((2 ^ 48 + r) * (2 ^ 48 + y0)) (2 ^ 48 + y1) - 2 ^ 48)

/-- Give the epoch just begun another rate. -/
def State.setEpochRate (s : State) (r : Int) : State :=
  { s with tb := { s.tb with
      cur := s.tb.cur.map (fun e => { e with rate := r })
      hist := match s.tb.hist with
        | h :: t => ⟨{ h.pub with rate := r }, { h.latest with rate := r }, h.sum⟩ :: t
        | [] => [] } }

/-- Publish a RATE epoch at a publication instant `dt` ns after the one before, with the application of y that goes with it
(R48, R183). -/
def State.rateEpoch (s : State) (dt : Int) : State :=
  let y0 := s.synAdj
  let y1 := s.adjAfter dt
  if y0 = y1 then s.beginEpoch kRate s.raw 0
  else
    let r := rateForAdj s.liveRate y0 y1
    let s := (s.setInt F.CK_SYN_ADJ_ADJ y1).setInt F.SRV_FREQ_FREQ (rateForAdj s.freq y0 y1)
    (s.beginEpoch kRate s.raw 0).setEpochRate r

/-- One update of the hardware servo with estimate `e` (R166): the proposal, the slew, F and the RATE epoch, then the lock
criterion (R60, R62). DESIGN CHOICE (assumption 53): the gains and the interval are those of the state at the publication instant, so
the first update from a new source in LOCKED, which enters ACQUIRING, takes those of LOCKED; a refused update leaves its M in the AU
that HOLDOVER takes at entry, beside the |e| of the update applied last. -/
def State.servoUpdate (s : State) (e : Int) : State :=
  let before := s
  let locked := decide (s.tbState = tbLocked)
  let kp := s.get (if locked then F.SRV_XCTRL_KP_LOCK else F.SRV_XCTRL_KP_ACQ)
  let ki := s.get (if locked then F.SRV_XCTRL_KI_LOCK else F.SRV_XCTRL_KI_ACQ)
  let dt : Int := s.pubInterval
  let s := s.setInt F.SRV_EST_EST e
  let seed := if s.srv.synt && s.on F.SRV_CTRL_SYNT_EN && decide (s.get F.SRV_STATUS_METHOD = 1)
    then s.syntSeed (s.srcPort (s.get F.SRV_STATUS_SEL)) else none
  let s := { s with srv := { s.srv with synt := false } }
  let f0 := seed.getD s.freq
  match s.propose (-e) kp false with
  | (.applied, s) =>
    let f := clampInt (-rateMax) rateMax (f0 - roundEven (e * 2 ^ 32) (2 ^ ki * dt))
    (((s.setInt F.SRV_FREQ_FREQ f).rateEpoch dt).auUpdate e).closeUpdate before e
  | (_, s) => s

/-- A publication instant (R48, R166): in ACQUIRING and LOCKED only. Under SRV_PROPOSE, F of the command is published (R169). -/
def State.publication (s : State) : State :=
  let st := s.tbState
  if !(st = tbAcquiring || st = tbLocked) then s
  else if s.swProposes then
    match s.srv.swRate with
    | none => s
    | some f =>
      let s := { s.setInt F.SRV_FREQ_FREQ f with srv := { (s.setInt F.SRV_FREQ_FREQ f).srv with swRate := none } }
      s.rateEpoch s.pubInterval
  else
    let l := s.srv.acc
    let s := { s with srv := { s.srv with acc := [] } }
    if l.isEmpty then s
    else
      let lim := (s.get F.SRV_XCTRL_OUT_MUL : Int) * s.lockThr1000
      let out := l.filter (fun m => st = tbLocked && decide (lim ≠ 0) && decide (lim < (m.e.natAbs : Int) * 1000))
      let keep := l.filter (fun m => !(st = tbLocked && decide (lim ≠ 0) && decide (lim < (m.e.natAbs : Int) * 1000)))
      let s := if out.isEmpty then s
        else (s.bump F.SRV_CNT_OUTLIER_OUTLIER 0 out.length).raise F.SRV_EVT_OUTLIER
      let used := if keep.isEmpty then l else keep
      let s := { s with srv := { s.srv with m := (used.head?.map Meas.unc).getD 0 } }
      (s.servoUpdate (meanMeas used)).select

/-! ### The commands' effects (R165, R169, R173, R175) -/

/-- SRV_SELECT: force or release a candidate; the status it completes with. -/
def State.srvSelect (s : State) (k : Nat) : Nat × State :=
  if k = 0xFF then (stOk, (s.lower F.SRV_STATUS_FORCED).select)
  else if k ≥ 8 then (stBadParam, s)
  else if !s.qualified k then (stNotReady, s)
  else (stOk, (s.selectSrc k).raise F.SRV_STATUS_FORCED)

/-- SRV_PROPOSE with offset `e` and rate `f` where their flags are set (R169, R175); the conditions in their order. -/
def State.srvPropose (s : State) (ofs rate : Bool) (e f : Int) (unc : Nat) : Nat × State :=
  let st := s.tbState
  if rate && decide (rateMax < f.natAbs) then (stBadParam, s)
  else if !s.swProposes || st = tbReroute || st = tbDegraded then (stNotReady, s)
  else
    let s := if rate then { s with srv := { s.srv with swRate := some f } } else s
    if !ofs then (stOk, s)
    else
      let before := s
      let s := ({ s with srv := { s.srv with m := unc, synt := false } }.set F.SRV_STATUS_METHOD 3).setInt F.SRV_EST_EST e
      match s.propose (-e) 0 false with
      | (.applied, s) =>
        let s := s.auUpdate e
        (stOk, if st = tbAcquiring || st = tbLocked then s.closeUpdate before e else s)
      | (.refused, s) => (stStepRefused, s)
      | (.discarded, s) => (stNotReady, s)

/-- The TAINT response (R173). -/
def State.taint (s : State) : State := (s.raise F.SRV_STATUS_TAINT).raise F.SRV_EVT_TAINT_SET

/-! ### Frequency candidates (R181) -/

abbrev dpllFreerun : Nat := 0
abbrev dpllLocking : Nat := 1
abbrev dpllLocked : Nat := 2
abbrev dpllHoldover : Nat := 3

/-- Candidate `k`'s measured frequency lies within PULL of nominal at y = 0 (R181). -/
def State.inPull (s : State) (k : Nat) : Bool :=
  match s.ck.measured[k]? with
  | some f => decide (f.natAbs ≤ 1000 * s.eff F.CK_FSEL_PULL)
  | none => false

/-- A frequency candidate is eligible (R181). -/
def State.fsrcEligible (s : State) (k : Nat) : Bool :=
  let n := s.get F.CK_FSRC_PORT k
  s.on F.CK_FSRC_EN k
    && (if s.on F.CK_FSRC_TYPE k then s.bonded n && s.on F.STR_STATUS_L_LOCK n && s.inPull k
        else !s.on F.CK_STATUS_REF_LOSS && s.on F.CK_STATUS_SYN_LOCK)

/-- Candidate `a` is better than `b`. -/
def State.fsrcBetter (s : State) (a b : Nat) : Bool :=
  let pa := s.get F.CK_FSRC_PRIO a
  let pb := s.get F.CK_FSRC_PRIO b
  decide (pa < pb) || (decide (pa = pb) && decide (a < b))

/-- The best qualified candidate. -/
def State.fsrcBest (s : State) : Option Nat :=
  (List.range 4).foldl (fun o k =>
    if s.ck.qual.testBit k then
      match o with
      | none => some k
      | some b => if s.fsrcBetter k b then some k else some b
    else o) none

/-- Select a candidate: a change is an event, and the DPLL locks to it (R182). -/
def State.fsrcTake (s : State) (k : Nat) : State :=
  let same := s.ck.everSel && decide (s.get F.CK_STATUS_FSEL = k)
  let was := s.on F.CK_STATUS_FSEL_VALID
  let s := { (s.set F.CK_STATUS_FSEL k).raise F.CK_STATUS_FSEL_VALID with
    ck := { ((s.set F.CK_STATUS_FSEL k).raise F.CK_STATUS_FSEL_VALID).ck with everSel := true, wtrRun := false } }
  let s := if same then s else s.raise F.CK_EVT_FSRC_CHANGE
  if same && was then s else s.set F.CK_STATUS_DPLL dpllLocking

/-- No candidate is qualified: the DPLL holds y (R182). -/
def State.fsrcNone (s : State) : State :=
  let s := { s.lower F.CK_STATUS_FSEL_VALID with ck := { (s.lower F.CK_STATUS_FSEL_VALID).ck with wtrRun := false } }
  let d := s.get F.CK_STATUS_DPLL
  if d = dpllLocking || d = dpllLocked then
    let s := { s with ck := { s.ck with target := s.synAdj } }
    (s.set F.CK_STATUS_DPLL dpllHoldover).raise F.CK_EVT_DPLL_HOLDOVER
  else s

/-- The selector evaluates. -/
def State.fsrcSelect (s : State) : State :=
  let cur := s.get F.CK_STATUS_FSEL
  let held := s.ck.everSel && s.ck.qual.testBit cur
  match s.fsrcBest with
  | none => s.fsrcNone
  | some b =>
    if !held then s.fsrcTake b
    else if s.fsrcBetter b cur && s.on F.CK_FSEL_REVERT then
      if s.get F.CK_FSEL_WTR = 0 then s.fsrcTake b else { s.fsrcTake cur with ck := { (s.fsrcTake cur).ck with wtrRun := true } }
    else s.fsrcTake cur

/-- Eligibility has changed: candidates that stopped being eligible lose qualification at once. -/
def State.fsrcReview (s : State) : State :=
  let q := (List.range 4).foldl (fun q k => if s.fsrcEligible k || !q.testBit k then q else q - 2 ^ k) s.ck.qual
  { s with ck := { s.ck with qual := q } }.fsrcSelect

end Sys2Proof.Machine
end

