-- ==== Sys2Proof/Machine/TaOps.lean ====
section
/-!
DEFINITION. Instants of timed actions (R203, R205): the raw time at which a part of a committed occurrence falls due.
-/
namespace Sys2Proof.Machine

/-- SCALE of an entry: RAW. -/
def Action.raw (a : Action) : Bool := a.ctrl.testBit 1

/-- Target of occurrence `k` (R203). -/
def Action.targetOf (a : Action) (k : Nat) : Int :=
  if a.raw then (a.target : Int) + roundEven ((k * a.period * 25 : Nat) : Int) 4096 else (a.target : Int) + (k * a.period : Nat)

/-- The raw time of an instant: on the raw scale itself, else by the epoch in force (R50), which in the cycle of a publication is the
one before (R27); none in COLD. -/
def State.instantRaw (s : State) (raw : Bool) (t : Int) : Option Raw :=
  if raw then some t.toNat
  else match s.liveEpoch with
    | some e => some (e.invert t).toNat
    | none => none

/-- The instant of a part on its entry's scale. -/
def partInstant (g : Staged) (p : Part) : Int :=
  if g.entry.raw then g.target + roundEven ((p.ofs * 25 : Nat) : Int) 4096 else g.target + (p.ofs : Nat)

/-- The raw time of a part of a committed occurrence under the epoch in force (R205). Occurrences on the ZTIME scale are not
committed in COLD, so an epoch exists; without one the instant stands for itself. -/
def State.partRaw (s : State) (g : Staged) (p : Part) : Raw :=
  (s.instantRaw g.entry.raw (partInstant g p)).getD (partInstant g p).toNat

/-- The raw time of an instant `t` moved by `shift`, under the epoch in force at that raw time, of epochs newest first that end at `stop`;
where an epoch's begin has jumped over it, that begin, with true (R205). -/
def rawUnder (t shift : Int) (stop : Option Raw) : List HistSlot → Raw × Bool
  | [] => (stop.getD 0, true)
  | h :: l =>
    let r := (h.pub.invert t + shift).toNat
    if r < h.pub.raw0 then rawUnder t shift (some h.pub.raw0) l
    else match stop with
      | none => (r, false)
      | some e => if r < e then (r, false) else (e, true)

/-- The raw time of a part still to come (R205, R206), and whether a step forward has put it into the past. -/
def State.laterAt (s : State) (x : LaterPart) : Raw × Bool :=
  let t := partInstant x.occ x.part
  if x.occ.entry.raw || s.liveHist.isEmpty then ((t + x.shift).toNat, false) else rawUnder t x.shift none s.liveHist

/-- The raw time of a part still to come. -/
def State.laterRaw (s : State) (x : LaterPart) : Raw := (s.laterAt x).1

end Sys2Proof.Machine
end

