-- ==== Sys2Proof/Machine/Strait.lean ====
section
/-!
DEFINITION. The Strait datapath (R70 to R101) and the timestamp points (R102 to R122): the buffer pool, insertion,
the launch guard and origination. Departures are in Egress.lean, port states and ingress in Ports.lean.
-/
namespace Sys2Proof.Machine

/-! ### Lane modes and timestamps -/

/-- The port runs at 25.78125 Gb/s (R70). -/
def State.is25 (s : State) (n : Nat) : Bool := s.on F.STR_CTRL_RATE n

/-- A side runs RS-FEC (R70). -/
def State.fec (s : State) (n : Nat) (sd : Side) : Bool :=
  s.is25 n && (match sd with
    | .line => s.on F.STR_CTRL_LFEC n
    | .host => s.on F.STR_CTRL_HFEC n)

/-- Taps per wire word (R104). -/
def State.wordTaps (s : State) (n : Nat) : Nat := if s.is25 n then 1024 else 2560

/-- Taps per octet: 0.32 ns or 0.8 ns (R92). -/
def State.octetTaps (s : State) (n : Nat) : Nat := if s.is25 n then 128 else 320

/-! ### RS-FEC (R72) -/

/-- Symbols of a codeword of RS(528,514) that its decoder corrects: half of the 14 check symbols. -/
abbrev fecSymbols : Nat := 7

end Sys2Proof.Machine

namespace Sys2Proof
open Machine

/-- The offsets of a received frame at which an /E/ stands after the decoder (R72, R73): those received, and with RS-FEC every octet
of a codeword that it cannot correct; a codeword that it can leaves its octets as they were sent. -/
def RxFrame.decoded (fec : Bool) (f : RxFrame) : List Nat :=
  f.errs ++ (if fec then (f.codewords.filter (fun c => decide (fecSymbols < c.wrong))).flatMap (fun c =>
    (List.range c.octets).map (fun i => c.first + i)) else [])

/-- Control content as it leaves the decoder: an error control character where its codeword cannot be corrected (R72). -/
def Control.decoded (fec : Bool) (wrong : Nat) (c : Control) : Control := if fec && decide (fecSymbols < wrong) then .error else c

/-- A frame of `d` octets with /E/ at the offsets `es` is cut at `k` octets: an /E/ ends it, the rest is discarded (R79, R86). -/
def cutFrame (k : Nat) (d : Bytes) (es : List Nat) : Bytes × List Nat := (d.take k, es.filter (fun i => decide (i < k)) ++ [k])

/-- The lane of the start character, which is the lane of the timestamp point (R103). -/
def Stamp.lane (st : Stamp) : Nat :=
  match st.pos with
  | .block lane4 => if lane4 then 4 else 0
  | .codeword _ _ _ lane => lane

/-- The same capture with its timestamp point in lane 0 (R133). -/
def Stamp.laneZero (st : Stamp) : Stamp :=
  match st.pos with
  | .block _ => ⟨st.w, .block false⟩
  | .codeword age j k _ => ⟨st.w, .codeword age j k 0⟩

/-- Codewords since the last alignment marker (R72); 0 on a side without RS-FEC. -/
def Stamp.age (st : Stamp) : Nat :=
  match st.pos with
  | .block _ => 0
  | .codeword age _ _ _ => age

/-- Bit position of the timestamp point in its reference unit (R103, R105). -/
def Pos.bit : Pos → Nat
  | .block lane4 => if lane4 then 34 else 2
  | .codeword _ j k lane => 257 * j + 1 + 64 * k + 8 * lane

end Sys2Proof

namespace Sys2Proof.Machine

/-- round(b * P / 66) taps (R104). -/
def State.posTaps (s : State) (n : Nat) (p : Pos) : Nat := (2 * p.bit * s.wordTaps n + 66) / 132

/-- Raw time by which the captures of one egress are told apart in octets (R92): the wire word's, and the octet of the timestamp
point in its reference unit. -/
def State.startAt (s : State) (n : Nat) (st : Stamp) : Raw :=
  st.w + s.octetTaps n * (match st.pos with
    | .block lane4 => if lane4 then 4 else 0
    | .codeword _ j k lane => 8 * (4 * j + k) + lane)

/-- Codewords from one alignment marker to the next (R72), and the octets they carry: 640 each, less the marker's slot of 32. -/
abbrev markerEvery : Nat := 1024
abbrev markerOctets : Nat := 640 * markerEvery - 32

/-- A capture `d` octets later on the same lane (earlier where `d` is negative); its octet lane stays within the block grid, and slot 0
of a codeword with an alignment marker carries none (R105, R211). -/
def State.shiftStamp (s : State) (n : Nat) (st : Stamp) (d : Int) : Stamp :=
  let word : Int := s.wordTaps n
  match st.pos with
  | .block lane4 =>
    let o : Int := (if lane4 then 4 else 0) + d
    ⟨((st.w : Int) + o / 8 * word).toNat, .block (decide (4 ≤ o % 8))⟩
  | .codeword age j k lane =>
    let o : Int := ((640 * age + 8 * (4 * j + k) + lane : Nat) : Int) - 32 + d
    let i := (o % markerOctets).toNat + 32
    let c : Int := o / markerOctets * markerEvery + ((i / 640 : Nat) : Int) - age
    ⟨((st.w : Int) + c * (80 * word)).toNat, .codeword (i / 640) (i % 640 / 32) (i / 8 % 4) (i % 8)⟩

/-- Calibration mode of a side: 0 10G, 1 25G, 2 25G with RS-FEC (R340). -/
def State.calMode (s : State) (n : Nat) (sd : Side) : Nat := if !s.is25 n then 0 else if s.fec n sd then 2 else 1

/-- Offset in the calibration set of a port's path constant (R340): direction 0 receive, 1 transmit. -/
def State.pathOff (s : State) (n : Nat) (sd : Side) (dir : Nat) : Nat :=
  0x40 + 48 * n + 4 * (6 * (if sd = .line then 0 else 1) + 2 * s.calMode n sd + dir)

/-- The raw time of an ingress timestamp point at the capture point's reference plane (R104, R107, R108, R327, R405). -/
def State.rxStamp (s : State) (n : Nat) (sd : Side) (st : Stamp) : Raw :=
  let whole (w : Raw) : Raw :=
    let t := w + s.posTaps n st.pos
    match sd with
    | .line => (((t + 512 : Nat) : Int) - Store.get 0 s.tb.modRx n + clampInt (-400) 400 (s.int F.TST_TSOFS_RX n) - 512).toNat
    | .host => t
  whole (s.calCapture (24 + 2 * n) (s.pathOff n sd 0) true st.w whole)

/-- The raw time of a departure (R104, R106, R108, R405). -/
def State.txStamp (s : State) (n : Nat) (sd : Side) (st : Stamp) : Raw :=
  let whole (w : Raw) : Raw :=
    let t := w + s.posTaps n st.pos
    match sd with
    | .line => ((t : Int) + Store.get 0 s.tb.modTx n + clampInt (-400) 400 (s.int F.TST_TSOFS_TX n)).toNat
    | .host => t
  whole (s.calCapture (25 + 2 * n) (s.pathOff n sd 1) false st.w whole)

/-! ### Buffer pool (R95 to R99, R383, R386) -/

/-- Cells of a stored frame of `len` octets (R95). -/
def cellsFor (len : Nat) : Nat := (len + 16 + 255) / 256

/-- Free cells of the awake groups. -/
def State.awakeFree (s : State) : Nat :=
  (List.range 8).foldl (fun a g => if s.groupAwake g then a + s.groupFree g else a) 0

/-- The cell granted next: of the lowest awake group with a free cell (R383), the lowest free one; none where no awake group has one.
DESIGN CHOICE (assumption 41): which cell of a group is granted the spec does not say. -/
def State.grantCell (s : State) : Option Nat :=
  ((List.range 8).find? (fun g => s.groupAwake g && decide (0 < s.groupFree g))).map (fun g => freeFrom (4096 * g) s.mem.cells)

/-- The lowest group in retention starts to wake when the awake free cells fall below WAKE_LOW; one group wakes at a time (R383). -/
def State.wakeGroups (s : State) : State :=
  if s.awakeFree < s.eff F.MEM_RET_CFG_WAKE_LOW && s.get F.MEM_STATUS_WAKING = 0 then
    match (List.range 8).find? (fun g => (s.get F.MEM_STATUS_RET).testBit g) with
    | some g => (s.set F.MEM_STATUS_RET (s.get F.MEM_STATUS_RET - 2 ^ g)).set F.MEM_STATUS_WAKING
        (s.get F.MEM_STATUS_WAKING ||| 2 ^ g)
    | none => s
  else s

/-- Reservation cells port `n` may still take. -/
def State.resvLeft (s : State) (n : Nat) : Nat := s.get F.STR_POOL_RESV n - s.get F.STR_POOL_STAT_RESV_USED n

/-- Shared cells port `n` may still take: the shared area and SHR_MAX (R97). -/
def State.sharedLeft (s : State) (n : Nat) : Nat :=
  min (s.get F.STR_POOL_SHR_MAX n - s.get F.STR_POOL_STAT_SHR_USED n) (s.get F.MEM_POOL_FREE_FREE)

/-- Mark a cell in use or free. -/
def State.markCell (s : State) (i : Nat) (used : Bool) : State :=
  { s with mem := { s.mem with cells := Store.set false s.mem.cells i used } }

/-- Take one cell for port `n`: the reservation first, then the shared area (R97). -/
def State.takeCell (s : State) (n : Nat) : Option (Cell × State) :=
  s.grantCell.bind (fun i =>
    if 0 < s.resvLeft n then
      some (⟨i, false⟩, ((s.markCell i true).set F.STR_POOL_STAT_RESV_USED (s.get F.STR_POOL_STAT_RESV_USED n + 1) n).wakeGroups)
    else if 0 < s.sharedLeft n then
      let f := s.get F.MEM_POOL_FREE_FREE - 1
      let s' := ((s.markCell i true).set F.MEM_POOL_FREE_FREE f).set F.MEM_POOL_FREE_MIN_FREE (min f (s.get F.MEM_POOL_FREE_MIN_FREE))
      let s' := s'.set F.STR_POOL_STAT_SHR_USED (s.get F.STR_POOL_STAT_SHR_USED n + 1) n
      some (⟨i, true⟩, { s' with mem := { s'.mem with rrPort := (n + 1) % 32 } }.wakeGroups)
    else none)

/-- Return one cell to the reservation or shared area it came from (R97). -/
def State.freeCell (n : Nat) (s : State) (c : Cell) : State :=
  let s := s.markCell c.idx false
  if c.shared then
    (s.incr F.MEM_POOL_FREE_FREE).set F.STR_POOL_STAT_SHR_USED (s.get F.STR_POOL_STAT_SHR_USED n - 1) n
  else s.set F.STR_POOL_STAT_RESV_USED (s.get F.STR_POOL_STAT_RESV_USED n - 1) n

/-- Return cells. -/
def State.freeCells (n : Nat) (s : State) (l : List Cell) : State := l.foldl (fun s c => s.freeCell n c) s

/-- Return a frame's cells. -/
def State.freeFrame (n : Nat) (s : State) (f : PFrame) : State := s.freeCells n f.cells

/-- Cells of the frames in progress on an egress whose last octet has left by raw time `t` are free again (R91). -/
def State.settleSide (s : State) (n : Nat) (sd : Side) (t : Raw) : State :=
  let l := (s.egress n sd).leaving
  let gone := l.filter (fun p => decide (p.2 ≤ t))
  if gone.isEmpty then s
  else (s.modEgress n sd (fun e => { e with leaving := l.filter (fun p => !decide (p.2 ≤ t)) })).freeCells n (gone.map Prod.fst)

/-- The same on both sides of a port. -/
def State.freeLeft (s : State) (n : Nat) (t : Raw) : State := (s.settleSide n .line t).settleSide n .host t

/-- Keys of the first `words` words of a frame's cells, in order: the header of 16 bytes, then the octets (R95, R379). -/
def cellKeys (cells : List Cell) (words : Nat) : List Nat :=
  (cells.flatMap (fun c => (List.range 16).map (fun w => sramKey (16 * c.idx + w)))).take words

/-- The descriptor of a held or launch-queue frame: two octets at the place of its first cell (R379). -/
def descKeys (cells : List Cell) : List Nat := (cells.take 1).map (fun c => sramKey (0x9B000 + c.idx / 8))

/-- A frame with a descriptor in that region. -/
def PFrame.queued (f : PFrame) : Bool :=
  match f.src with
  | .held | .launch _ => true
  | _ => false

/-- A frame is queued: its descriptor is written into its word, of which the rest, and a tag, stand (R385). -/
def State.describe (s : State) (cells : List Cell) : State :=
  (descKeys cells).foldl (fun s k => s.storeWord k (s.wordMask k) (s.poisoned k)) s

/-- Words of a stored frame of `len` octets. -/
def frameWords (len : Nat) : Nat := (len + 16 + 15) / 16

/-- Take up to `k` cells. -/
def State.takeUpTo (s : State) (n : Nat) : Nat → List Cell × State
  | 0 => ([], s)
  | k + 1 =>
    match s.takeCell n with
    | none => ([], s)
    | some (c, s') =>
      let r := s'.takeUpTo n k
      (c :: r.1, r.2)

/-- A frame of `d` octets with /E/ at the offsets `es` is cut at what its cells hold (R99). -/
def PFrame.cutShort (f : PFrame) : PFrame :=
  let c := cutFrame (256 * f.cells.length - 16) f.data f.errs
  { f with data := c.1, errs := c.2 }

/-- The held frame that is still arriving on an egress needs its next cell, and its octets are stored in it; without one it ends with
an /E/ there, and the rest is discarded (R91, R99). -/
def State.arriveCell (s : State) (n : Nat) (sd : Side) : State :=
  let e := s.egress n sd
  match e.held.getLast? with
  | none => s.modEgress n sd (fun e => { e with arriving := [] })
  | some f =>
    match s.takeCell n with
    | some (c, s) =>
      (s.modEgress n sd (fun e => { e with held := e.held.dropLast ++ [{ f with cells := f.cells ++ [c] }], arriving := e.arriving.drop 1 })).writeEach
        ((cellKeys [c] 16).take (frameWords f.data.length - 16 * f.cells.length))
    | none =>
      ((s.modEgress n sd (fun e => { e with held := e.held.dropLast ++ [f.cutShort], arriving := [] })).bump F.STR_CNT_POOL_TRUNC_N n).raise
        F.STR_EVT_POOL_TRUNC n

/-- The cells that a held frame needs by now, in order, cells that have left before each one freed first; at most `k`. -/
def State.arriveDue (s : State) (n : Nat) (sd : Side) : Nat → State
  | 0 => s
  | k + 1 =>
    match (s.egress n sd).arriving with
    | t :: _ => if t ≤ s.raw then ((s.freeLeft n t).arriveCell n sd).arriveDue n sd k else s
    | [] => s

/-- All the cells that it still needs, at once. -/
def State.arriveRest (s : State) (n : Nat) (sd : Side) : State :=
  (List.range (s.egress n sd).arriving.length).foldl (fun s _ => if (s.egress n sd).arriving.isEmpty then s else s.arriveCell n sd) s

/-- Port `n`'s cells as they stand now: held frames have taken theirs as they arrived, and those of frames in progress are free once
their last octet has left (R91). -/
def State.settle (s : State) (n : Nat) : State :=
  let s := s.arriveDue n .line (s.egress n .line).arriving.length
  (s.arriveDue n .host (s.egress n .host).arriving.length).freeLeft n s.raw

/-- Raw times at which the cells after the first of a frame of `len` octets are needed, whose first octet comes at `t0` (R91, R95). -/
def arrivals (octet t0 len : Nat) : List Raw := (List.range (cellsFor len - 1)).map (fun i => t0 + octet * (256 * (i + 1) - 16))

/-- Take cells for a frame of `len` octets as far as they go, and store it in them: what stands in each word is written whole. -/
def State.storeFrame (s : State) (n len : Nat) : List Cell × State :=
  let r := (s.settle n).takeUpTo n (cellsFor len)
  (r.1, r.2.writeEach (cellKeys r.1 (frameWords len)))

/-- Cells for a whole frame of `len` octets, or none taken. -/
def State.takeFrame (s : State) (n len : Nat) : Option (List Cell × State) :=
  let r := s.storeFrame n len
  if r.1.length = cellsFor len then some r else none

/-- Change a port's reservation: what it gains the shared area loses (R96, R101). DESIGN CHOICE (assumption 48): the spec does not
say what a raise finds when the shared area has fewer free cells than it asks for, nor what a lowering below RESV_USED does; the
model accepts both, FREE stops at 0, and cells in use keep their origin. -/
def State.setResv (s : State) (n v : Nat) : State :=
  let f := s.get F.MEM_POOL_FREE_FREE + s.get F.STR_POOL_RESV n - v
  let s := s.set F.MEM_POOL_RESV_RESV_SUM (s.get F.MEM_POOL_RESV_RESV_SUM + v - s.get F.STR_POOL_RESV n)
  ((s.set F.STR_POOL_RESV v n).set F.MEM_POOL_FREE_FREE f).set F.MEM_POOL_FREE_MIN_FREE (min f (s.get F.MEM_POOL_FREE_MIN_FREE))

/-! ### Elastic stage (R77, R100) -/

/-- The watermarks and the start threshold that govern: bits [1:0] are ignored, a HIGH not above LOW + 8 acts as LOW + 8, START lies
in 4 to 60. -/
def State.elasLow (s : State) (n : Nat) : Nat := s.get F.STR_ELAS_LOW n / 4 * 4
def State.elasHigh (s : State) (n : Nat) : Nat := max (s.elasLow n + 8) (s.get F.STR_ELAS_HIGH n / 4 * 4)
def State.elasStart (s : State) (n : Nat) : Nat := max 4 (min 60 (s.get F.STR_ELAS_START n / 4 * 4))

/-- The fill of a side's stage. -/
def fillFld : Side → Fld
  | .line => F.STR_STATUS_L_FILL
  | .host => F.STR_STATUS_H_FILL

/-- Record the fill, at most 64 octets. -/
def State.setFill (s : State) (n : Nat) (sd : Side) (fill : Nat) : State := s.set (fillFld sd) (min 64 fill) n

/-- Columns that leave the stage for `k` idle columns that come to its head at `fill`, and the fill after it: one is deleted above HIGH
where 5 octets of gap remain, `g` columns of the gap having left before, and one inserted below LOW (R77). -/
def State.elasticColumns (s : State) (n fill k : Nat) (g : Nat := 0) : Nat × Nat :=
  if s.elasHigh n < fill && decide (0 < k) && decide (5 ≤ 4 * (g + k - 1)) then (k - 1, fill - 4)
  else if fill < s.elasLow n then (k + 1, fill + 4)
  else (k, fill)

/-- The capture of a live frame's departure when its first octet comes to the stage's head at `fill`: it waits, whole blocks, until
the stage holds START octets of it (R77). -/
def State.afterStart (s : State) (n fill : Nat) (tx : Stamp) : Stamp :=
  if fill < s.elasStart n then s.shiftStamp n tx (8 * ((s.elasStart n - fill + 7) / 8 : Nat)) else tx

/-! ### Frame-receive rings (R363) -/

/-- The octets of a stored frame as its words are read: 16 zeros for an uncorrectable word (R386). -/
def zeroWords : List Bool → Bytes → Bytes
  | [], d => d
  | b :: t, d => (if b then List.replicate (d.take 16).length 0 else d.take 16) ++ zeroWords t (d.drop 16)

/-- Deliver a copy of a frame to ring FR`ring`: octets, then the entry; a full ring takes nothing (R99, R351). -/
def State.deliverCopy (s : State) (n : Nat) (sd : Side) (ring cls : Nat) (raw : Raw) (v : Nat) (sub err : Bool) (len : Nat)
    (d : Bytes) : Bool × State :=
  let r := 64 + ring
  if s.ringFull r then (false, (s.bump F.HIF_RING_STAT_DROP r).raise F.HIF_EVT_DROP)
  else
    let sz := 2 ^ (11 + s.get F.HIF_RING_BLOG2_BLOG2 r)
    let b := d.take sz
    let s := s.emit (.dma (s.get F.HIF_RING_BUF_BUF r + s.get F.HIF_RING_PTR_DEVPTR r * sz) b)
    let info := b2n (decide (sd = .host)) + 2 * cls + 16 * b2n (decide (sz < d.length)) + 32 * b2n sub + 64 * b2n err
    (true, s.ringWrite r (rawBytes raw ++ le 6 v ++ le 2 b.length ++ le 2 len ++
      [BitVec.ofNat 8 n, BitVec.ofNat 8 info] ++ List.replicate 9 0 ++ [BitVec.ofNat 8 (s.ringPhase r)]))

/-! ### Insertion (R111 to R121) -/

/-- The parser's settings of a port. -/
def State.parseCfg (s : State) (n : Nat) : ParseCfg :=
  ⟨s.on F.STR_PARSE_ETH n, s.on F.STR_PARSE_IPV4 n, s.on F.STR_PARSE_IPV6 n, s.on F.STR_PARSE_VLAN n, s.on F.STR_PARSE_V6EXT n,
    s.get F.STR_ETM_ETYPE n, s.get F.STR_ETM_MASK n⟩

/-- One correctionField operation on a recognised frame: counted refusals of R111, R114 and, by the caller, R120. -/
def State.cfOp (s : State) (n : Nat) (p : Parsed) (d : Bytes) (subtract : Bool) (v : Nat) : Bool × State × Bytes :=
  if !p.fits d 8 8 then (false, (s.bump F.STR_CNT_TSOP_BAD_N n).raise F.STR_TS_EVT_TSOP_BAD n, d)
  else match cfArith (beAt d (p.ptpOff + 8) 8) subtract v with
    | none => (false, (s.bump F.STR_CNT_CF_RANGE_N n).raise F.STR_TS_EVT_CF_RANGE n, d)
    | some c =>
      (true, s.bump (if subtract then F.STR_CNT_TC_SUB_N else F.STR_CNT_TC_ADD_N) n, p.rewrite d 8 (be 8 c))

/-- ORIGIN at departure time `t` (R111, R114, R115). DESIGN CHOICE (assumption 48): in COLD a message too short for originTimestamp
counts ORG_COLD alone; the spec gives these reasons no order. -/
def State.originOp (s : State) (n : Nat) (p : Parsed) (d : Bytes) (t : Int) : State × Bytes :=
  if s.tbState = tbCold then ((s.bump F.STR_CNT_ORG_COLD_N n).raise F.STR_TS_EVT_ORG_COLD n, d)
  else if !p.fits d 34 10 then ((s.bump F.STR_CNT_TSOP_BAD_N n).raise F.STR_TS_EVT_TSOP_BAD n, d)
  else
    let u := t.toNat
    let d := p.rewrite d 34 (be 6 (u / ztPerSec) ++ be 4 (u / 65536 % 1000000000))
    let s := s.bump F.STR_CNT_ORIGIN_N n
    match cfArith (beAt d (p.ptpOff + 8) 8) false (u % 65536) with
    | none => ((s.bump F.STR_CNT_CF_RANGE_N n).raise F.STR_TS_EVT_CF_RANGE n, d)
    | some c => (s, p.rewrite d 8 (be 8 c))

/-- What an egress asks of a frame. -/
structure EgressOps where
  origin : Bool
  add : Bool
  capture : Bool
  deriving DecidableEq, Repr

/-- The stream rules of the line egress (R112); host-side capture points have none. -/
def State.streamOps (s : State) (n : Nat) (sd : Side) (d : Bytes) : EgressOps :=
  let c := s.parseCfg n
  let p := parseFrame c d
  let t := p.msgType d
  if sd = .host || frameClass c d ≠ 0 then ⟨false, false, false⟩
  else
    let org := s.on F.STR_TS_CTRL_ORG_EN n && t = 0 && !(beAt d (p.ptpOff + 6) 1).testBit 1
      && decide (beAt d (p.ptpOff + 4) 1 = s.get F.STR_TS_CTRL_ORG_DOM n)
    ⟨org, !org && (s.get F.STR_TS_CTRL_ADD_MT n).testBit t, (s.get F.STR_TS_CTRL_CAP_MT n).testBit t⟩

/-- The operations that TSOP and CAP of an injected frame ask for (R113). -/
def State.frameOps (s : State) (n : Nat) (sd : Side) (f : PFrame) : EgressOps :=
  match f.src with
  | .held => s.streamOps n sd f.data
  | _ =>
    match f.tsop with
    | 0 => ⟨false, false, f.cap⟩
    | 1 => ⟨true, false, f.cap⟩
    | 2 => ⟨false, true, f.cap⟩
    | _ => let o := s.streamOps n sd f.data
           { o with capture := o.capture || f.cap }

/-- Post a CAPTURE entry, or count it lost (R117). `q` is the queue of a launched frame. -/
def State.postCapture (s : State) (n : Nat) (sd : Side) (raw : Raw) (ptp : Nat × Nat × Nat) (q : Option Nat) : State :=
  let fl := b2n (decide (sd = .host)) + 2 * b2n q.isSome
  let r := s.postEvent? (s.get F.HIF_EVMAP_STR) 0x03 fl n
    (rawBytes raw ++ [BitVec.ofNat 8 ptp.1, BitVec.ofNat 8 ptp.2.1] ++ le 2 ptp.2.2 ++ [BitVec.ofNat 8 (q.getD 0)])
  if r.1 then r.2.bump F.STR_CNT_CAP_N n
  else (r.2.bump F.STR_CNT_CAP_DROP_N n).raise F.STR_TS_EVT_CAP_DROP n

/-- The egress operations on a frame that departs at raw time `raw`: the frame as it leaves, and whether a CAPTURE was granted
(R111 to R121). `class0` only: others count in TSOP_BAD. An /E/ stops
every rewrite (R121). DESIGN CHOICE (assumption 48): a rewrite that finds no IPv6 trailer counts
NO_TRAILER alone, an ORIGIN in COLD among them; the spec gives these reasons no order. -/
def State.insert (s : State) (n : Nat) (f : PFrame) (o : EgressOps) (raw : Raw) : State × Bytes × Bool :=
  let c := s.parseCfg n
  let d := f.data
  let p := parseFrame c d
  let c0 := decide (frameClass c d = 0)
  let bad (s : State) : State := (s.bump F.STR_CNT_TSOP_BAD_N n).raise F.STR_TS_EVT_TSOP_BAD n
  let launch := match f.src with
    | .launch _ => true
    | _ => false
  if !f.errs.isEmpty then (s, d, (c0 || launch) && o.capture)
  else if !c0 then
    let s := if o.origin || o.add then bad s else s
    let s := if o.capture && !launch then bad s else s
    (s, d, o.capture && launch)
  else
    let s := if o.origin && decide (2 < p.msgType d) then bad s else s
    let o := { o with origin := o.origin && decide (p.msgType d ≤ 2) }
    let rewrites := o.origin || o.add
    if rewrites && !p.trailerOk d then
      ((s.bump F.STR_CNT_NO_TRAILER_N n).raise F.STR_TS_EVT_NO_TRAILER n, d, o.capture)
    else
      let r1 := if o.origin then s.originOp n p d (s.zt raw) else (s, d)
      let r2 := if o.add then
          (let x := r1.1.cfOp n p r1.2 false (r1.1.residence raw)
           (x.2.1, x.2.2))
        else r1
      (r2.1, (if r2.2 = d then d else refcs d r2.2), o.capture)

/-- STAMP of a launched frame (R212): twelve octets of ZTIME at the departure, FCS recomputed. -/
def State.stampFrame (s : State) (d : Bytes) (ofs : Nat) (raw : Raw) : Bytes :=
  let u := (s.zt raw).toNat
  refcs d (putAt d ofs (be 6 (u / ztPerSec) ++ be 4 (u / 65536 % 1000000000) ++ be 2 (u % 65536)))

/-! ### Frames out of the pool (R99, R386) -/

/-- A stored frame is read for its departure: an uncorrectable word of its octets ends it with an /E/ there; without its header, the
first word, or the descriptor of a held or launch-queue frame, none leaves. DESIGN CHOICE (assumption 41) on the header, of which R386
does not speak apart. -/
def State.readFrame (s : State) (n : Nat) (f : PFrame) : Option PFrame × State :=
  let q := if f.queued then s.readUntil 0 (descKeys f.cells) else (none, s)
  if q.1.isSome then (none, q.2) else
  let s := q.2
  let r := s.readUntil 0 (cellKeys f.cells (frameWords f.data.length))
  match r.1 with
  | none => (some f, r.2)
  | some 0 => (none, r.2)
  | some (i + 1) =>
    let c := cutFrame (16 * i) f.data f.errs
    (some { f with data := c.1, errs := c.2 }, (r.2.bump F.STR_CNT_POOL_TRUNC_N n).raise F.STR_EVT_POOL_TRUNC n)

/-- The cells of a frame in progress, each with the raw time at which its last octet has left (R91): `t0` is that of the timestamp
point. -/
def leavingCells (octet t0 : Nat) (len : Nat) : Nat → List Cell → List (Cell × Raw)
  | _, [] => []
  | i, c :: t => (c, t0 + octet * min len (256 * (i + 1) - 16)) :: leavingCells octet t0 len (i + 1) t

/-! ### Egress (R90 to R94) -/

/-- Time a frame and its 12-octet gap take on the wire, with preamble, in taps (R92). -/
def State.wireTaps (s : State) (n len : Nat) : Nat := (len + 8 + 12) * s.octetTaps n

/-- The raw times of the LAUNCH parts of an occurrence on an egress. -/
def State.launchesOf (s : State) (n : Nat) (sd : Side) (g : Staged) : List Raw :=
  (g.entry.parts.filter (fun p => p.op = 1 && decide (p.res / 4 = n)
    && decide (s.on F.TA_LQ_CTRL_SIDE p.res = decide (sd = .host)))).map (fun p => s.partRaw g p)

/-- The raw times of the pending launches of an egress (R92): of every committed occurrence, of the next occurrence of every armed entry
that is not committed yet and can be (R203), and of the parts still to come of an occurrence already executed (R205). -/
def State.launches (s : State) (n : Nat) (sd : Side) : List Raw :=
  s.ta.stage.flatMap (s.launchesOf n sd)
    ++ (s.ta.table.filter (fun p => p.2.valid && (p.2.raw || s.tb.cur.isSome))).flatMap (fun p =>
      s.launchesOf n sd ⟨p.1, p.2, p.2.targetOf p.2.k, 0, false, []⟩)
    ++ (s.ta.later.filter (fun x => x.part.op = 1 && decide (x.part.res / 4 = n)
      && decide (s.on F.TA_LQ_CTRL_SIDE x.part.res = decide (sd = .host)))).map s.laterRaw

/-- The launch slot of raw time `t` on the block grid of the capture `st` (R211): when its timestamp point, octet lane 0, crosses
the reference plane, the first such crossing at or after `t`. With RS-FEC at the nominal positions of the codewords, from slot 1 on in
one that carries an alignment marker. -/
def State.slotFrom (s : State) (n : Nat) (sd : Side) (st : Stamp) (t : Raw) : Int :=
  if s.fec n sd then
    let cw : Int := 80 * s.wordTaps n
    let at' (i : Nat) : Int := s.txStamp n sd ⟨st.w, .codeword 0 (i / 4) (i % 4) 0⟩
    let q := ((t : Int) - at' 0) / cw
    let first (c : Int) : Nat := if (st.age + c) % markerEvery = 0 then 4 else 0
    match (List.range 80).find? (fun i => decide (first q ≤ i) && decide ((t : Int) ≤ at' i + q * cw)) with
    | some i => at' i + q * cw
    | none => at' (first (q + 1)) + (q + 1) * cw
  else
    let p : Int := s.txStamp n sd ⟨st.w, .block false⟩
    p + ceilDiv ((t : Int) - p) (s.wordTaps n) * s.wordTaps n

/-- The launch guard (R92): a frame whose timestamp point is captured as `st` ends, with its gap, by the start block of every
launch that is still to come. Both timestamp points follow their start by the preamble. -/
def State.guardOk (s : State) (n : Nat) (sd : Side) (len : Nat) (st : Stamp) : Bool :=
  let p : Int := s.txStamp n sd st
  (s.launches n sd).all (fun l =>
    let q := s.slotFrom n sd st l
    decide (q < p) || decide (p + s.wireTaps n len ≤ q))

/-- Pool cells of the held frames of an egress (R93). -/
def Egress.backlog (e : Egress) : Nat := e.held.foldl (fun a f => a + f.cells.length) 0

/-- Queue a device-originated frame, or say that no cell was found (R90, R99). -/
def State.originate (s : State) (n : Nat) (d : Bytes) (tsop : Nat) (cap : Bool) (src : FrameSrc) : Bool × State :=
  match s.takeFrame n d.length with
  | none => (false, s)
  | some (cells, s) =>
    (true, s.modEgress n .line (fun e => { e with orig := e.orig ++ [⟨d, [], cells, tsop, cap, none, src⟩] }))

/-! ### Port states (R83) -/

abbrev psDisabled : Nat := 0
abbrev psAcquire : Nat := 1
abbrev psTraining : Nat := 2
abbrev psUp : Nat := 3
abbrev psHalted : Nat := 4
abbrev psCal : Nat := 5

/-- The state of port `n`. -/
def State.pstate (s : State) (n : Nat) : Nat := s.get F.STR_STATUS_STATE n

/-- A direction is live; it is named by its receiving side. -/
def State.live (s : State) (n : Nat) : Side → Bool
  | .line => s.on F.STR_STATUS_L_LOCK n
  | .host => s.on F.STR_STATUS_H_LOCK n

/-- An egress is forwarding (R86, R213): the port in UP, or in ACQUIRE with the direction that feeds the egress live. -/
def State.forwarding (s : State) (n : Nat) (sd : Side) : Bool :=
  decide (s.pstate n = psUp) || (decide (s.pstate n = psAcquire) && s.live n sd.other)

/-- What a transmitter of a port sends of itself (R75, R82, R83). -/
inductive Transmit where
  | electricalIdle | forward | localFault | retime | idleOnly
  deriving DecidableEq, Repr

/-- What the transmitter of side `sd` sends: in ACQUIRE and UP what the opposite receiver takes in while its direction is live, and
local fault while it is not; remote fault is never its own (R75, R82, R83, R84). -/
def State.transmits (s : State) (n : Nat) (sd : Side) : Transmit :=
  match s.pstate n with
  | 1 | 3 => if s.live n sd.other then .forward else .localFault
  | 2 => .retime
  | 4 => .localFault
  | 5 => .idleOnly
  | _ => .electricalIdle

/-- The rail condition of a port (R83): no rail named, AUTO = 0, or the rail in GOOD (R264) and not held off (R276). -/
def State.railOk (s : State) (n : Nat) : Bool :=
  let k := s.get F.STR_CTRL_RAIL n
  !s.on F.STR_CTRL_AUTO n || decide (24 ≤ k) || (decide (s.get F.SQ_RAIL_ST_ST k = railGood) && !s.on F.SQ_RAIL_ST_HELD k)

/-- The port's partition is in SERVICE (R409). -/
def State.serviced (s : State) (n : Nat) : Bool := s.on F.PSM_STAT_SERVICE (n / 8)

/-- The port is to run (R84): EN, the rail condition, its partition not in SERVICE; ports are enabled only after the set-up
registers are loaded (R29 steps 8 and 11). -/
def State.enabled (s : State) (n : Nat) : Bool := s.on F.STR_CTRL_EN n && s.railOk n && !s.serviced n && s.pwr.step8

/-- Source address of discovery frames and PTP messages of a port (R126, R155). -/
def State.portSa (s : State) (n : Nat) : Bytes := 2#8 :: be 4 (s.fuses.serial % 2 ^ 32) ++ [BitVec.ofNat 8 n]

end Sys2Proof.Machine
end

