-- ==== Sys2Proof/Machine/PtpMsg.lean ====
section
/-!
DEFINITION. PTP messages that the termination assist originates (R154 to R156, R159, R160, R162, R172): their octets and their
way into the line egress. Header fields that the rules leave to the standards they name follow IEEE 1588-2019 (assumption 30).
-/
namespace Sys2Proof.Machine

/-! ### Settings of a port (R154) -/

/-- Peer delay: DM, forced by PROFILE = 1. -/
def State.p2p (s : State) (n : Nat) : Bool := s.gptp || s.on F.PTP_PCTRL_DM n

/-- Event messages are sent one-step: ONESTEP, not under PROFILE = 1 nor GEN = 1 (R154, R162). -/
def State.oneStep (s : State) (n : Nat) : Bool := s.on F.PTP_PCTRL_ONESTEP n && !s.gptp && !s.on F.PTP_AUTH_GEN

/-- majorSdoId in force (R153). -/
def State.majorSdo (s : State) : Nat := if s.gptp then 1 else s.get F.PTP_CTRL_MAJOR_SDO

/-- sourcePortIdentity of port `n` (R155). -/
def State.portIdent (s : State) (n : Nat) : Bytes := be 8 (s.get F.PTP_CLKID_CLKID) ++ be 2 (n + 1)

/-- A logarithm of PTP_PINT within its limits (R177). -/
def State.logInt (s : State) (f : Fld) (n : Nat) : Int := clampInt (-10) 4 (s.int f n)

/-- The slot that PTP_AUTH selects holds no key (R162). -/
def State.slotEmpty (s : State) : Bool := !s.on F.AT_KEY_VALID (s.get F.PTP_AUTH_SLOT)

/-- The key of that slot. -/
def State.authKey (s : State) : Bytes := Store.get [] s.ato.keys (s.get F.PTP_AUTH_SLOT)

/-! ### Octets -/

/-- Seconds and nanoseconds of a time in 2^-16 ns, as a PTP timestamp. -/
def ptpTime (t : Int) : Bytes := let u := t.toNat
                                 be 6 (u / ztPerSec) ++ be 4 (u / 65536 % 1000000000)

/-- Its fraction of a nanosecond. -/
def ptpFrac (t : Int) : Nat := t.toNat % 65536

/-- A PTP timestamp as a time in 2^-16 ns. -/
def ptpTimeAt (m : Bytes) (off : Nat) : Int := ((beAt m off 6 * ztPerSec + beAt m (off + 6) 4 * 65536 : Nat) : Int)

/-- The ICV of a message under a key: the first 16 octets of the HMAC with correctionField taken as zero (R162). -/
def icv (key m : Bytes) : Bytes := (hmacSha256 key (putAt m 8 (List.replicate 8 0))).take 16

/-- controlField of a message type (IEEE 1588-2019, Table 42). -/
def controlField (t : Nat) : Nat :=
  match t with
  | 0 => 0
  | 1 => 1
  | 8 => 2
  | 9 => 3
  | _ => 5

/-- The 34 octets of a header. `len` is messageLength. -/
def State.ptpHeader (s : State) (n t len seq : Nat) (flags cf : Nat) (log : Int) : Bytes :=
  [BitVec.ofNat 8 (s.majorSdo * 16 + t), 0x12#8] ++ be 2 len
    ++ [BitVec.ofNat 8 (s.get F.PTP_CTRL_DOMAIN), BitVec.ofNat 8 (s.get F.PTP_CTRL_MINOR_SDO)] ++ be 2 flags ++ be 8 cf
    ++ be 4 0 ++ s.portIdent n ++ be 2 seq ++ [BitVec.ofNat 8 (controlField t), BitVec.ofNat 8 (toBits 8 log)]

/-- The message with the AUTHENTICATION TLV that GEN = 1 appends (R162). -/
def State.withAuth (s : State) (m : Bytes) : Bytes :=
  if s.on F.PTP_AUTH_GEN then
    let m := putAt m 2 (be 2 (m.length + 26)) ++ be 2 0x8009 ++ be 2 22 ++ [BitVec.ofNat 8 (s.get F.PTP_AUTH_SPP), 0#8]
      ++ be 4 (s.get F.AT_KEY_KEYID (s.get F.PTP_AUTH_SLOT))
    m ++ icv s.authKey m
  else m

/-- The frame around a message (R155). -/
def State.ptpFrame (s : State) (n t : Nat) (m : Bytes) : Bytes :=
  let peer := t = 2 || t = 3 || t = 0xA || s.gptp || s.on F.PTP_PCTRL_DA n
  let da : Bytes := if peer then [0x01, 0x80, 0xC2, 0, 0, 0x0E] else [0x01, 0x1B, 0x19, 0, 0, 0]
  let b := da ++ s.portSa n ++ be 2 0x88F7 ++ m
  let b := b ++ List.replicate (60 - b.length) 0
  b ++ fcsOf b

/-- Send a message on the line side: nothing where the egress does not forward or GEN = 1 finds no key; a message without a cell
is counted and not sent (R86, R155, R162). True where it is on its way. -/
def State.sendPtp (s : State) (n t : Nat) (m : Bytes) (tsop : Nat) (cap : Bool) (src : FrameSrc) : Bool × State :=
  if !s.forwarding n .line || (s.on F.PTP_AUTH_GEN && s.slotEmpty) then (false, s)
  else
    let r := s.originate n (s.ptpFrame n t (s.withAuth m)) tsop cap src
    (r.1, r.2.bump (if r.1 then F.PTP_CNT_TX_ORIG_TX_ORIG else F.PTP_CNT_TX_NOCELL_TX_NOCELL) n)

/-- A message of header and body. -/
def State.ptpMsg (s : State) (n t seq flags cf : Nat) (log : Int) (body : Bytes) : Bytes :=
  s.ptpHeader n t (34 + body.length) seq flags cf log ++ body

/-- twoStepFlag. -/
abbrev flagTwoStep : Nat := 0x0200

/-! ### Follow_Up and responses (R155, R156, R159, R160) -/

/-- The Follow_Up information TLV (R160). -/
def State.followTlv (s : State) : Bytes :=
  be 2 3 ++ be 2 28 ++ [0x00, 0x80, 0xC2, 0, 0, 1] ++ be 4 0 ++ s.srv.gmTlv ++ be 4 0

/-- The Follow_Up of a Sync that departed at `raw`; none in COLD. -/
def State.sendFollowUp (s : State) (n seq : Nat) (raw : Raw) : State :=
  if s.tbState = tbCold then s
  else
    let t := s.zt raw
    let body := ptpTime t ++ (if s.gptp then s.followTlv else [])
    (s.sendPtp n 8 (s.ptpMsg n 8 seq 0 (ptpFrac t) (s.logInt F.PTP_PINT_LOG_SYNC n) body) 0 false (.ptp 8 seq false)).2

/-- The Pdelay_Resp_Follow_Up of a response that departed at `raw`. -/
def State.sendRespFollowUp (s : State) (n : Nat) (j : PtpJob) (raw : Raw) : State :=
  let t := s.zt raw
  let m := s.ptpMsg n 0xA j.seq 0 ((j.cf + ptpFrac t) % 2 ^ 64) 127 (ptpTime t ++ j.ident)
  (s.sendPtp n 0xA m 0 false (.ptp 0xA j.seq false)).2

/-- Answer a request (R156, R159): a Delay_Resp, not in COLD; a one-step Pdelay_Resp with ADD; a two-step one with CAPTURE. -/
def State.answer (s : State) (n : Nat) (j : PtpJob) : State :=
  let t := s.zt j.t2
  if j.msgType = 1 then
    if s.tbState = tbCold then s
    else (s.sendPtp n 9 (s.ptpMsg n 9 j.seq 0 ((j.cf + ptpFrac t) % 2 ^ 64) (s.logInt F.PTP_PINT_LOG_DREQ n) (ptpTime t ++ j.ident))
      0 false (.resp j false)).2
  else if s.oneStep n then
    let v := s.residence j.t2
    let c := (cfArith j.cf true v).getD (toBits 64 ((j.cf : Int) - v))
    (s.sendPtp n 3 (s.ptpMsg n 3 j.seq 0 c 127 (be 10 0 ++ j.ident)) 2 false (.resp j false)).2
  else
    (s.sendPtp n 3 (s.ptpMsg n 3 j.seq flagTwoStep (toBits 64 (-(ptpFrac t : Int))) 127 (ptpTime t ++ j.ident)) 0 true
      (.resp j true)).2

/-- The responder is busy with a request of this requester: its answer waits in the egress (R159). -/
def State.answering (s : State) (n : Nat) (ident : Bytes) : Bool :=
  (s.egress n .line).orig.any (fun f => match f.src with
    | .resp j _ => decide (j.ident = ident)
    | _ => false)

/-- A request: answered now, or queued behind the answer to the same requester, in place of one queued before. -/
def State.request (s : State) (n : Nat) (j : PtpJob) : State :=
  if s.answering n j.ident then s.modPtp n (fun x => { x with jobs := x.jobs.filter (fun k => k.ident ≠ j.ident) ++ [j] })
  else s.answer n j

/-- An answer has departed: its follow-up, then the request queued behind it. -/
def State.answered (s : State) (n : Nat) (j : PtpJob) (follow : Bool) (raw : Raw) : State :=
  let s := if follow then s.sendRespFollowUp n j raw else s
  match (s.ptp n).jobs.find? (fun k => k.ident = j.ident) with
  | none => s
  | some k => (s.modPtp n (fun x => { x with jobs := x.jobs.filter (fun i => i.ident ≠ j.ident) })).answer n k

/-- A PTP message of the assist has departed at `raw` (R155, R157): a two-step Sync has its Follow_Up, a request its time. -/
def State.ptpDeparted (s : State) (n t seq : Nat) (follow : Bool) (raw : Raw) : State :=
  let mark (r : PtpReq) : PtpReq := if r.seq = seq then { r with t3 := some raw } else r
  if t = 0 && follow then s.sendFollowUp n seq raw
  else if t = 1 then s.modPtp n (fun x => { x with dreq := x.dreq.map mark })
  else if t = 2 then s.modPtp n (fun x => { x with pdreq := x.pdreq.map mark })
  else s

/-! ### Announce (R172) -/

/-- Bounds of clockAccuracy 0x17 to 0x2B, in tenths of a ps (IEEE 1588-2019, Table 5). -/
def accuracyBounds : List Nat :=
  [10, 25, 100, 250, 1000, 2500, 10000, 25000, 100000, 250000, 1000000, 2500000, 10000000, 25000000, 100000000, 250000000,
    1000000000, 2500000000, 10000000000, 25000000000, 100000000000]

/-- The smallest clockAccuracy whose bound is at least `au` ps; 0xFE for an unknown one. -/
def clockAccuracy (au : Nat) : Nat :=
  if au = auUnknown then 0xFE else 0x17 + (accuracyBounds.takeWhile (fun b => decide (b < 10 * au))).length

/-- clockClass, clockAccuracy, and the timeTraceable and frequencyTraceable flags, from those of the template (R172). -/
def State.announceClock (s : State) (cls : Nat) (tt ft : Bool) : Nat × Nat × Bool × Bool :=
  let st := s.tbState
  if s.on F.SRV_STATUS_TAINT || st = tbSeeded then (s.get F.PTP_CLASS_CLASS_TAINT, 0xFE, false, false)
  else if st = tbAcquiring || st = tbLocked then (cls, clockAccuracy s.au, tt && decide (st = tbLocked), ft)
  else
    let h := s.get F.PTP_CLASS_CLASS_HO
    (if h = 0 then cls else h, clockAccuracy s.au, false, ft)

/-- The Announce of port `n` from the template. -/
def State.announceMsg (s : State) (n seq : Nat) : Bytes :=
  let m := s.srv.tmpl
  let fl := beAt m 7 1
  let c := s.announceClock (beAt m 48 1) (fl.testBit 4) (fl.testBit 5)
  let fl := bits fl 2 2 * 4 + bits fl 6 2 * 64 + s.get F.AT_STAT_LEAP61 + 2 * s.get F.AT_STAT_LEAP59 + 16 * b2n c.2.2.1
    + 32 * b2n c.2.2.2
  let m := putAt m 0 [BitVec.ofNat 8 (s.majorSdo * 16 + 0xB)]
  let m := putAt m 4 [BitVec.ofNat 8 (s.get F.PTP_CTRL_DOMAIN), BitVec.ofNat 8 (s.get F.PTP_CTRL_MINOR_SDO)]
  let m := putAt m 7 [BitVec.ofNat 8 fl]
  let m := putAt m 20 (s.portIdent n ++ be 2 seq)
  let m := putAt m 33 ([BitVec.ofNat 8 (toBits 8 (s.logInt F.PTP_PINT_LOG_ANN n))] ++ ptpTime (s.zt s.raw)
    ++ be 2 (s.get F.AT_UTC_OFS))
  putAt m 48 [BitVec.ofNat 8 c.1, BitVec.ofNat 8 c.2.1]

end Sys2Proof.Machine
end

