-- ==== Sys2Proof/Machine/Egress.lean ====
section
/-!
DEFINITION. Departures (R90 to R94): the start of a frame on an egress and what follows it.
-/
namespace Sys2Proof.Machine

/-- Completion and follow-up of a frame that has departed at `raw` (R117, R155, R159, R361). -/
def State.departed (s : State) (n : Nat) (sd : Side) (f : PFrame) (d : Bytes) (raw : Raw) (captured : Bool) : State :=
  let p := parseFrame (s.parseCfg n) d
  let c0 := decide (frameClass (s.parseCfg n) d = 0)
  let fields := if c0 then (p.msgType d, beAt d (p.ptpOff + 4) 1, beAt d (p.ptpOff + 30) 2) else (0, 0, 0)
  match f.src with
  | .host src tag quiet =>
    let s := if captured && !f.cap then s.postCapture n sd raw fields none else s
    s.finish src tag stOk quiet (if captured && f.cap then raw % 2 ^ 64 else 0)
  | .launch q => if captured then s.postCapture n sd raw fields (some q) else s
  | .ptp t q follow => (if captured then s.postCapture n sd raw fields none else s).ptpDeparted n t q follow raw
  | .resp j follow => (if captured then s.postCapture n sd raw fields none else s).answered n j follow raw
  | _ => if captured then s.postCapture n sd raw fields none else s

/-- Octets between the frame before and a start at the capture `st`. -/
def State.gapAt (s : State) (n : Nat) (sd : Side) (st : Stamp) : Int :=
  ((s.startAt n st : Int) - (s.egress n sd).busyUntil) / s.octetTaps n + 12

/-- The deficit idle count after a gap (R94): an average of 12 octets, at most 3 owed. -/
def dicAfter (dic : Nat) (gap : Int) : Nat := (max 0 (min 3 ((dic : Int) + 12 - gap))).toNat

/-- Whole idle blocks of a gap that begins in lane `tail`: with at least 16 octets from the start of that block there is one
(R141). -/
def idleBlocks (tail : Nat) (gap : Int) : Nat := ((gap + tail) / 8 - 1).toNat

/-- Whether the line transmitter shifts the start of a frame offered at `tx` by four octets (R141): lane 0 or 4 and the split of the
gap are such that the gap holds a whole idle block, where the shift makes one and the elastic stage, at `fill`, can supply it within
its watermarks; a gap never under 9 octets. The host side takes its start as offered. -/
def State.lineShift (s : State) (n : Nat) (sd : Side) (fill : Nat) (tx : Stamp) : Bool :=
  let e := s.egress n sd
  let g := s.gapAt n sd tx
  sd = .line && idleBlocks e.tail g = 0 && decide (0 < idleBlocks e.tail (g + 4)) && decide (9 ≤ g + 4)
      && decide (fill + 4 ≤ s.elasHigh n)

/-- The start so chosen. -/
def State.lineStart (s : State) (n : Nat) (sd : Side) (fill : Nat) (tx : Stamp) : Stamp :=
  if s.lineShift n sd fill tx then s.shiftStamp n tx 4 else tx

/-- A frame starts there: four octets that the elastic stage has supplied stand in it (R77, R141). -/
def State.supply (s : State) (n : Nat) (sd : Side) (fill : Nat) (tx : Stamp) : State :=
  if s.lineShift n sd fill tx then s.setFill n sd.other (fill + 4) else s

/-- Nothing leaves in place of a frame whose words cannot be read (R386): it goes as R99 has it for its kind. -/
def State.dropFrame (s : State) (n : Nat) (f : PFrame) : State :=
  let s := s.freeFrame n f
  match f.src with
  | .held => (s.bump F.STR_CNT_POOL_DROP_N n).raise F.STR_EVT_POOL_DROP n
  | .host src tag quiet => s.finish src tag stBusy quiet
  | .disc => s.bump F.SPX_CNT_DISC_NOCELL_N n
  | .ptp _ _ _ | .resp _ _ => s.bump F.PTP_CNT_TX_NOCELL_TX_NOCELL n
  | .launch _ => s

/-- Start a frame on an egress: it is read from its cells, with insertion by the departure timestamp; the egress is busy until its
gap ends; each cell is free once its last octet has left, or, with `keep`, stays with the frame; completion (R91, R94, R106, R111,
R386). -/
def State.startFrame (s : State) (n : Nat) (sd : Side) (f : PFrame) (st : Stamp) (keep : Bool := false) : State :=
  let rd := s.readFrame n f
  match rd.1 with
  | none => rd.2.dropFrame n f
  | some f =>
    let s := rd.2
    let raw := s.txStamp n sd st
    let gap := s.gapAt n sd st
    let t0 := s.startAt n st
    let r := s.insert n f (s.frameOps n sd f) raw
    let d := match f.stamp with
      | some ofs => if f.errs.isEmpty then r.1.stampFrame r.2.1 ofs raw else r.2.1
      | none => r.2.1
    let s := r.1.emit (.frame n sd raw d f.errs)
    let s := s.modEgress n sd (fun e =>
      { e with busyUntil := t0 + s.wireTaps n d.length, tail := (st.lane + d.length) % 8, dic := dicAfter e.dic gap
               leaving := e.leaving ++ (if keep then [] else leavingCells (s.octetTaps n) t0 d.length 0 f.cells) })
    s.departed n sd f d raw r.2.2

/-- The egress defers sources 2 and 4 (R93). -/
def State.deferred (s : State) (n : Nat) (sd : Side) : Bool := decide (s.get F.STR_INJ_INJ_HOLD n < (s.egress n sd).backlog)

/-- A frame waits on the egress and is not deferred: it goes before a live frame (R90, R91). -/
def State.frameWaits (s : State) (n : Nat) (sd : Side) : Bool :=
  let e := s.egress n sd
  !e.held.isEmpty || (!s.deferred n sd && (!e.orig.isEmpty || !e.inj.isEmpty))

/-- The next frame boundary of an egress (R90 to R93): the first ready frame of originated, held and injected frames starts, in the
place that R141 gives it, if the launch guard lets it; otherwise the egress waits for the next boundary. A held frame may start while it
is still arriving. DESIGN CHOICE (assumption 48): what leaves is one output, so such a frame takes the cells that it still needs as it
starts. Gaps average 12 octets by deficit idle count, and none is under 9 (R94). -/
def State.egressStart (s : State) (n : Nat) (sd : Side) (st : Stamp) : State :=
  let e := s.egress n sd
  let fill := s.get (fillFld sd.other) n
  let u := s.supply n sd fill st
  let st := s.lineStart n sd fill st
  if s.gapAt n sd st < 12 - (3 - (e.dic : Int)) then s
  else if !e.orig.isEmpty && !s.deferred n sd then
    match e.orig with
    | f :: t => if s.guardOk n sd f.data.length st
        then (u.modEgress n sd (fun e => { e with orig := t })).startFrame n sd f st else s
    | [] => s
  else match e.held with
    | f :: t => if s.guardOk n sd f.data.length st
        then
          let u := if t.isEmpty then u.arriveRest n sd else u
          (u.modEgress n sd (fun e => { e with held := t })).startFrame n sd ((u.egress n sd).held.headD f) st
        else s
    | [] =>
      match e.inj with
      | f :: t => if !s.deferred n sd && s.guardOk n sd f.data.length st
          then (u.modEgress n sd (fun e => { e with inj := t })).startFrame n sd f st else s
      | [] => s

end Sys2Proof.Machine
end

