-- ==== Sys2Proof/Machine/SpxOps.lean ====
section
/-!
DEFINITION. Strait Phase Exchange (R126 to R150): sessions and discovery, CAPS words, exchanges sent and received, measurements,
re-routes and partner violations of a port's engine.
-/
namespace Sys2Proof.Machine

/-! ### Sessions (R128) -/

abbrev sessOff : Nat := 0
abbrev sessProbe : Nat := 1
abbrev sessCaps : Nat := 2
abbrev sessRun : Nat := 3
abbrev sessWait : Nat := 4
abbrev sessFallback : Nat := 5

/-- SPX_STATUS.SESS. -/
def State.sess (s : State) (n : Nat) : Nat := s.get F.SPX_STATUS_SESS n

/-- The engine exchanges blocks: CAPS or RUN. -/
def State.sessOpen (s : State) (n : Nat) : Bool := s.sess n = sessCaps || s.sess n = sessRun

/-- The line direction is live for the session (R126, R128): live, and the port in UP or ACQUIRE. -/
def State.spxLive (s : State) (n : Nat) : Bool := s.live n .line && (s.pstate n = psUp || s.pstate n = psAcquire)

/-- The effective rate code (R132). -/
def State.effRate (s : State) (n : Nat) : Nat :=
  let c := max (min 5 (s.get F.SPX_CTRL_RATE n)) (min 5 (s.spx n).maxRate)
  if s.on F.SPX_STATUS_RANGING n || s.on F.SPX_STATUS_GOV_LIMIT n then max c 4 else c

/-- The exchange period in taps. -/
def State.spxPeriod (s : State) (n : Nat) : Nat := 1600000 * 2 ^ s.effRate n

/-! ### Discovery frames (R126, R127) -/

abbrev discHello : Nat := 1
abbrev discBye : Nat := 2

/-- A discovery frame. -/
def State.discFrame (s : State) (n msg reason : Nat) : Bytes :=
  let x := s.spx n
  let b := [0x01#8, 0x80#8, 0xC2#8, 0, 0, 0x0E#8] ++ s.portSa n ++ be 2 0x88B5 ++ be 2 0x5350 ++ [1#8, BitVec.ofNat 8 msg]
    ++ be 8 s.fuses.serial ++ [BitVec.ofNat 8 n, BitVec.ofNat 8 (s.tbState + 8 * b2n (s.on F.TB_STATUS_UNTRACED))]
    ++ be 4 x.nonce ++ be 4 x.partnerNonce ++ be 2 reason ++ List.replicate 22 0
  b ++ fcsOf b

/-- Send a discovery frame on the line side: not on an egress that sends local fault (R86); without a cell, or deferred under
R93, it counts as not sent. -/
def State.sendDisc (s : State) (n msg reason : Nat) : State :=
  if !s.forwarding n .line then s
  else if s.get F.STR_INJ_INJ_HOLD n < (s.egress n .line).backlog then s.bump F.SPX_CNT_DISC_NOCELL_N n
  else
    let r := s.originate n (s.discFrame n msg reason) 0 false .disc
    r.2.bump (if r.1 then F.SPX_CNT_DISC_TX_N else F.SPX_CNT_DISC_NOCELL_N) n

/-- Send a HELLO: it echoes the last nonce received. -/
def State.hello (s : State) (n : Nat) : State :=
  (s.sendDisc n discHello 0).modSpx n (fun x => { x with hellos := x.hellos + 1, echoed := x.partnerNonce ≠ 0 })

/-! ### Leaving and entering session states -/

/-- RUN is left (R128, R143): STARVED clears, and the session is kept where RTT_ref exists. -/
def State.leaveRun (s : State) (n : Nat) : State :=
  if s.sess n ≠ sessRun then s
  else
    (s.lower F.SPX_STATUS_STARVED n).modSpx n (fun x =>
      { x with asm := none, prev := match x.rttRef with
          | some r => some ⟨r, s.get F.SPX_PSER_PSER n, s.get F.SPX_PINFO_PORT n⟩
          | none => x.prev })

/-- Change the session state. -/
def State.setSess (s : State) (n v : Nat) : State := (s.leaveRun n).set F.SPX_STATUS_SESS v n

/-- The measurements of a route are compared afresh, and ranging begins (R135, R144): `rtt` is that of the measurement that
began it. -/
def State.beginRanging (s : State) (n : Nat) (rtt : Option Int) : State :=
  (s.raise F.SPX_STATUS_RANGING n).modSpx n (fun x =>
    { x with marks := x.marks.map (fun m => { m with ranging := false }), rangeRtt := rtt })

/-- A route is pending on the port (R144): on the timebase's selected source, REROUTE. -/
def State.pendRoute (s : State) (n : Nat) (rtt : Option Int) : State :=
  let s := ((s.raise F.SPX_STATUS_ROUTE_PEND n).lower F.SPX_STATUS_RRT_HOLD n).lower F.SPX_STATUS_RR_FAIL n
  let s := (s.beginRanging n rtt).modSpx n (fun x => { x with lastPend := none, acceptRef := none, lastAgreed := none, owed := false })
  if s.isSourcePort n then s.tbRerouted else s

/-- PROBE is entered (R127, R128, R135): a new nonce, no partner record and no MARK history; the last nonce received stays, and
ECHO carries it (R126). -/
def State.enterProbe (s : State) (n : Nat) : State :=
  let s := s.setSess n sessProbe
  let (r, s) := s.free
  let s := (s.lower F.SPX_STATUS_REC_VALID n).lower F.SPX_STATUS_PARTNER_COLD n
  s.modSpx n (fun x =>
    { x with nonce := 1 + r % (2 ^ 32 - 1), echoed := false, hellos := 0, caps := [], ackSent := false
             maxRate := 0, marks := [], txSeq := 0, statusIx := 0, statusEpoch := none, rxMark := none, rxSeq := none, asm := none
             words := [], record := none, nackDue := [], exchange := [], statusDue := false, answer := [], phMarkDue := false, lastMark := none
             lastEarly := none })

/-- From OFF (R128): HELLO at once; with a previous session kept, a link restore. -/
def State.startProbe (s : State) (n : Nat) : State :=
  let s := s.enterProbe n
  let s := match (s.spx n).prev with
    | none => s
    | some p =>
      let s := (s.raise F.SPX_EVT_LINK_RESTORE n).setInt F.SPX_RTT_RTT p.rtt n
      (s.modSpx n (fun x => { x with restore := true, rttRef := some p.rtt })).pendRoute n none
  s.hello n

/-- From a timer (R128): the schedule of PROBE begins; its first HELLO is the one that falls due. -/
def State.reProbe (s : State) (n : Nat) : State := (s.enterProbe n).srvReview

/-- Another state: WAIT, or OFF, with what the selector makes of it. -/
def State.endSess (s : State) (n v : Nat) : State := (s.setSess n v).srvReview

/-- EN and the line direction (R128). `tx` is whether the line transmitter sent frames before the change: a BYE then goes first,
and where the port has stopped sending since, it is the frame that the transmitter finishes. -/
def State.spxReview (s : State) (n : Nat) (tx : Bool) : State :=
  let en := s.on F.SPX_CTRL_EN n
  if en && s.spxLive n then
    if s.sess n = sessOff then s.startProbe n else s
  else if s.sess n = sessOff then s
  else
    let reason := if en then 3 else 2
    let s := if !s.sessOpen n || !tx then s
      else if s.forwarding n .line then s.sendDisc n discBye reason
      else (s.emit (.frame n .line s.raw (s.discFrame n discBye reason) [])).bump F.SPX_CNT_DISC_TX_N n
    s.setSess n sessOff

/-- What a change of a port's state or of a direction moves: its session, the time sources, the frequency sources. -/
def State.linkReview (s : State) (n : Nat) (tx : Bool) : State := (s.spxReview n tx).srvReview.fsrcReview

/-! ### Violations (R149) -/

/-- The counter of a class. -/
def violCounter (cls : Nat) : Fld :=
  match cls with
  | 1 => F.SPX_CNT_V_GAP_N
  | 2 => F.SPX_CNT_V_FRAG_N
  | 3 => F.SPX_CNT_V_UNK_N
  | 4 => F.SPX_CNT_V_IPG_N
  | 5 => F.SPX_CNT_V_PTP_N
  | _ => F.SPX_CNT_V_DISC_N

/-- A partner violation; the sixteenth in a row in CAPS or RUN ends the session in FALLBACK (R128, R149). DESIGN CHOICE (assumption 54):
VIOL_RUN stays as it is across FALLBACK and a new session, for the spec names the complete exchange alone as what resets it; the first
violation in a new CAPS or RUN then ends that session too. -/
def State.violation (s : State) (n cls seq : Nat) : State :=
  let v := min 16 (s.get F.SPX_STATUS_VIOL_RUN n + 1)
  let s := ((s.bump (violCounter cls) n).raise F.SPX_EVT_VIOL n).set F.SPX_STATUS_VIOL_RUN v n
  let s := s.postMain (s.get F.HIF_EVMAP_SPX) 0x06 cls n [BitVec.ofNat 8 (seq % 16), BitVec.ofNat 8 v]
  if v = 16 && s.sessOpen n then
    let s := s.sendDisc n discBye 1
    let s := (s.raise F.SPX_STATUS_FALLBACK n).raise F.SPX_EVT_FALLBACK n
    (s.recTrigger trFallback n).endSess n sessFallback
  else s

/-! ### Blocks (R129, R131, R134) -/

/-- The 66 bits of an SPX block, bit 0 first on the wire (R131): sync header 0b10, block type 0x4B, SEQ, KIND, the two octets of
PAYLOAD and O code 0xA, each field from its least significant bit; the rest 0. -/
def spxLayout (kind seq payload : Nat) : BitVec 66 :=
  BitVec.ofNat 66 (2 + 2 ^ 2 * 0x4B + 2 ^ 10 * (seq % 16) + 2 ^ 14 * (kind % 16) + 2 ^ 18 * (payload % 65536) + 2 ^ 34 * 0xA)

end Sys2Proof.Machine

namespace Sys2Proof

/-- The fields of a received block (R131). -/
def SpxBlock.field (b : SpxBlock) (lo width : Nat) : Nat := b.block.toNat / 2 ^ lo % 2 ^ width
def SpxBlock.kind (b : SpxBlock) : Nat := b.field 14 4
def SpxBlock.seq (b : SpxBlock) : Nat := b.field 10 4
def SpxBlock.payload (b : SpxBlock) : Nat := b.field 18 16

/-- Any bit of positions 38 to 65 is set. -/
def SpxBlock.tail (b : SpxBlock) : Bool := b.field 38 28 != 0

/-- It is an SPX block: a control block of type 0x4B with O code 0xA (R73). -/
def SpxBlock.isSpx (b : SpxBlock) : Bool := b.field 0 2 = 2 && b.field 2 8 = 0x4B && b.field 34 4 = 0xA

end Sys2Proof

namespace Sys2Proof.Machine

/-- The capture of a received block: its timestamp point is octet lane 0 (R133). -/
def State.blockStamp (s : State) (n : Nat) (b : SpxBlock) : Stamp :=
  if s.fec n .line then ⟨b.w, .codeword 1 b.slot.1 b.slot.2 0⟩ else ⟨b.w, .block false⟩

/-- Send one SPX block; `raw` is its departure where it carries a timestamp point. -/
def State.sendBlock (s : State) (n kind seq payload : Nat) (raw : Raw) : State := s.emit (.spx n (spxLayout kind seq payload) raw)

/-- The capability words W0 to W3. -/
def State.capsWords (s : State) (n : Nat) (ack : Bool) : List Nat :=
  [1 + 128 * s.get F.SPX_ASYM_MODEL n + 256 * b2n (s.fec n .line) + 512 * b2n (s.is25 n), s.get F.SPX_CTRL_RATE n,
    s.fuses.serial % 65536, b2n ack]

/-- Send the words. -/
def State.sendWords (s : State) (n : Nat) (ack : Bool) : State :=
  (s.capsWords n ack).zipIdx.foldl (fun s p => s.sendBlock n 3 p.2 p.1 s.raw) s

/-- Answer with a NACK of `count` sequences from `seq` on (R131): it waits for an idle block (R134). -/
def State.nack (s : State) (n seq reason count : Nat) : State :=
  if s.sessOpen n then s.modSpx n (fun x => { x with nackDue := x.nackDue ++ [(seq % 16, reason + 16 * count)] }) else s

/-! ### CAPS and RUN (R128 to R130, R135) -/

/-- RUN is entered. -/
def State.enterRun' (s : State) (n : Nat) : State :=
  let s := (s.setSess n sessRun).lower F.SPX_STATUS_FALLBACK n
  let s := (s.raise F.SPX_EVT_SESS_UP n).beginRanging n none
  (s.modSpx n (fun x => { x with lastComplete := some s.raw, okRun := 0, exchange := [], statusDue := false, answer := [] })).srvReview

/-- The partner's words W0 to W2 are held. -/
def Spx.holdsWords (x : Spx) : Bool := [0, 1, 2].all (fun i => x.caps.any (fun p => p.1 = i))

/-- The conditions of RUN (R128). -/
def State.capsCheck (s : State) (n : Nat) : State :=
  let x := s.spx n
  if s.sess n = sessCaps && x.ackSent && x.holdsWords && x.caps.any (fun p => p.1 = 3 && p.2.testBit 0) then s.enterRun' n else s

/-- Send the capability words (R128, R129). -/
def State.sendCaps (s : State) (n : Nat) : State :=
  if s.sess n ≠ sessCaps || !s.forwarding n .line then s
  else
    let ack := (s.spx n).holdsWords
    ((s.sendWords n ack).modSpx n (fun x => { x with ackSent := x.ackSent || ack })).capsCheck n

/-- CAPS is entered. -/
def State.enterCaps (s : State) (n : Nat) : State :=
  ((s.setSess n sessCaps).modSpx n (fun x => { x with caps := [], ackSent := false, maxRate := 0 })).sendCaps n

/-- Bits that a capability word may not set, by index. -/
def capsReserved (i : Nat) : Nat :=
  match i with
  | 0 => 0xFC00
  | 1 => 0xFFF8
  | 2 => 0
  | _ => 0xFFFE

/-- A word index above 3 or a nonzero reserved bit (R130). -/
def capsBad (i w : Nat) : Bool := decide (3 < i) || decide (w &&& capsReserved i ≠ 0)

/-- CAPS ends without success. -/
def State.capsFail (s : State) (n : Nat) : State := (s.raise F.SPX_EVT_CAPS_FAIL n).endSess n sessWait

/-- A CAPS word (R130). -/
def State.rxCaps (s : State) (n i w : Nat) : State :=
  if s.sess n = sessRun then
    if capsBad i w then s.violation n 3 i
    else if i = 3 then
      s.modSpx n (fun x => { x with answer := x.answer ++ (s.capsWords n true).zipIdx.map (fun p => (p.2, p.1)) })
    else s
  else if s.sess n ≠ sessCaps then s
  else if capsBad i w then s.capsFail n
  else
    let s := if i = 0 then
        (s.put F.SPX_STATUS_MODEL_MISMATCH (w.testBit 7 != s.on F.SPX_ASYM_MODEL n) n).modSpx n
          (fun x => { x with maxRate := bits w 4 3 })
      else s
    if i = 0 && (w % 16 ≠ 1 || w.testBit 8 != s.fec n .line || w.testBit 9 != s.is25 n) then s.capsFail n
    else if i = 2 && w ≠ s.get F.SPX_PSER_PSER n % 65536 then s.capsFail n
    else (s.modSpx n (fun x => { x with caps := Store.set 65536 x.caps i w })).capsCheck n

/-! ### Received discovery frames (R127, R128) -/

/-- A valid HELLO in PROBE. -/
def State.helloInProbe (s : State) (n nonce echo : Nat) : State :=
  let fresh := !((s.spx n).echoed && decide ((s.spx n).partnerNonce = nonce))
  let s := s.modSpx n (fun x => { x with partnerNonce := nonce, echoed := !fresh })
  let s := if fresh then s.hello n else s
  if echo = (s.spx n).nonce then s.enterCaps n else s

/-- A received discovery frame, whole and undamaged. -/
def State.rxDisc (s : State) (n : Nat) (d : Bytes) : State :=
  let msg := beAt d 17 1
  let nonce := beAt d 28 4
  let ok := decide (d.length = 64) && decide (beAt d 14 2 = 0x5350) && decide (beAt d 16 1 = 1) && (msg = discHello || msg = discBye)
    && decide (nonce ≠ 0) && (sub d 38 22).all (fun b => decide (b = 0))
  if !ok then s.violation n 6 0
  else
    let s := s.bump F.SPX_CNT_DISC_RX_N n
    let st := s.sess n
    if st = sessOff || st = sessFallback then s
    else if msg = discBye then
      (if s.sessOpen n then (s.raise F.SPX_EVT_SESS_DOWN n).endSess n sessWait else s)
    else
      let restart := st = sessWait || (s.sessOpen n && decide (nonce ≠ (s.spx n).partnerNonce))
      let s := if restart then s.enterProbe n else s
      let s := (s.set F.SPX_PSER_PSER (beAt d 18 8) n).set F.SPX_PINFO_PORT (beAt d 26 1) n
      let s := if s.sess n = sessProbe then s.helloInProbe n nonce (beAt d 32 4) else s
      s.srvReview

/-! ### Measurements (R135 to R140) -/

/-- The record that STATUS words spell (R44, R131). -/
def parseRecord (ws : List Nat) : Epoch :=
  let b := ws.flatMap (le 2)
  let f := leAt b 15 1
  ⟨leAt b 0 10 % 2 ^ 73, signed 40 (leAt b 10 5), leAt b 22 6 * ztPerSec + leAt b 18 4 * 65536 + leAt b 16 2, f % 8, f.testBit 3,
    f.testBit 4, f / 32, leAt b 28 2, leAt b 30 2⟩

/-- A 48-bit raw time of the partner, extended by its record (R137). -/
def Epoch.ext (e : Epoch) (x : Nat) : Raw := (((e.raw0 : Int) + ((x : Int) - e.raw0) % 2 ^ 48)).toNat

/-- DELTA for a round trip (R140): the proportional model, or FIX. -/
def State.proportional (s : State) (n : Nat) : Bool := s.on F.SPX_ASYM_MODEL n && s.on F.SPX_ASYM_COEF_VALID n
def State.delta (s : State) (n : Nat) (rtt : Int) : Int :=
  let fix := roundEven (s.int F.SPX_FIX_FIX n * 65536) 1000
  if s.proportional n then fix + roundEven (s.int F.SPX_COEF_COEF n * rtt) (2 ^ 32) else fix

/-- U in ps (R140). -/
def State.asymUnc (s : State) (n : Nat) : Nat :=
  s.get F.SPX_UNC_UNC n + (if s.proportional n then 0 else (roundEven ((s.spx n).uRoute * 1000) 131072).toNat)

/-- A measurement: RTT, DELTA, e (R137). -/
structure SpxMeas where
  rtt : Int
  delta : Int
  e : Int
  deriving DecidableEq, Repr

/-- The measurement of an exchange with the MARK that left at `t1` (R137). -/
def State.measureWith (s : State) (n : Nat) (r : Epoch) (t1 t4 : Raw) (t2 t3 : Nat) : SpxMeas :=
  let f := r.convert (r.ext t2) - s.zt t1
  let b := s.zt t4 - r.convert (r.ext t3)
  let rtt := f + b
  let d := s.delta n rtt
  ⟨rtt, d, (b - f + d) / 2⟩

/-- SPX_RTT_MAX in 2^-16 ns. -/
def State.rttMax (s : State) (n : Nat) : Int := (s.eff F.SPX_RTTMAX_RTT_MAX n : Int) * 65536

/-- The MARK that a report names (R135): in ranging the entry sent since ranging began whose round trip is plausible; otherwise
the entry whose round trip lies within 8 periods of the reference, the nearest one. -/
def State.resolveMark (s : State) (n rseq : Nat) (trip : Raw → Int) : Option Mark :=
  let x := s.spx n
  let ranging := s.on F.SPX_STATUS_RANGING n
  let ok (m : Mark) : Bool := m.seq = rseq && decide (0 < trip m.tx) && decide (trip m.tx ≤ s.rttMax n)
  let w : Int := 8 * 4000 * 65536 * 2 ^ s.effRate n
  match (if ranging then x.marks.find? (fun m => m.ranging && ok m) else none) with
  | some m => some m
  | none =>
    match (if ranging then x.rangeRtt else x.rttRef) with
    | none => none
    | some ref =>
      let far (m : Mark) : Nat := (trip m.tx - ref).natAbs
      (x.marks.filter (fun m => ok m && !(ranging && m.ranging) && decide ((far m : Int) ≤ w))).foldl (fun o m =>
        match o with
        | none => some m
        | some b => if far m < far b then some m else some b) none

/-! ### Routes (R138, R144, R145) -/

/-- A difference of 2^-16 ns lies within `ps`. -/
def withinPs (d : Int) (ps : Nat) : Bool := decide (d.natAbs * 1000 ≤ ps * 65536)

/-- Hand a measurement to the servo (R138): it refreshes RTT_ref and ends the ranging of a session's entry. In REROUTE it is the one
that resolves if the route has just been resolved by it, or was while STARVED and it is the first delivered since (R145). -/
def State.deliverSpx (s : State) (n : Nat) (m : SpxMeas) (resolves : Bool) : State :=
  let owed := (s.spx n).owed
  let s := (s.setInt F.SPX_RTT_RTT m.rtt n).modSpx n (fun x => { x with rttRef := some m.rtt, owed := false })
  let s := s.lower F.SPX_STATUS_RANGING n
  s.deliver n 1 m.e (30 + s.asymUnc n) ((resolves || owed) && decide (s.tbState = tbReroute))

/-- The route is resolved with change `d` (R145 steps 3 and 4). -/
def State.resolveRoute (s : State) (n : Nat) (m : SpxMeas) (d : Int) : State :=
  let s := if s.proportional n then s
    else ((s.modSpx n (fun x => { x with uRoute := x.uRoute + d.natAbs })).raise F.SPX_STATUS_ASYM_UNKNOWN n).raise
      F.SPX_EVT_ASYM_UNKNOWN n
  let s := (s.setInt F.SPX_RTT_RTT m.rtt n).modSpx n (fun x =>
    { x with rttRef := some m.rtt, lastPend := none, acceptRef := none, restore := false, rangeRtt := none })
  let s := ((s.clearAll n [F.SPX_STATUS_ROUTE_PEND, F.SPX_STATUS_RANGING, F.SPX_STATUS_RR_FAIL]).raise F.SPX_EVT_ROUTE_RESOLVED n).set
    F.SPX_UNC_CUR_UNC_CUR (s.asymUnc n) n
  if s.on F.SPX_STATUS_STARVED n then s.modSpx n (fun x => { x with owed := true }) else s.deliverSpx n m true

/-- Two consecutive measurements agree (R145): hold, or resolve. -/
def State.agreed (s : State) (n : Nat) (m : SpxMeas) : State :=
  let x := s.spx n
  let s := (s.lower F.SPX_STATUS_RR_FAIL n).raise F.SPX_STATUS_ROUTE_PEND n
  let s := s.modSpx n (fun x => { x with lastPend := some (m.rtt, m.e), lastAgreed := some m.rtt })
  if s.on F.SPX_STATUS_RRT_HOLD n then s
  else match x.acceptRef with
    | some r => s.resolveRoute n m (m.rtt - r)
    | none =>
      let d := m.rtt - x.rttRef.getD m.rtt
      let other := x.restore && (match x.prev with
        | some p => decide (p.serial ≠ s.get F.SPX_PSER_PSER n) || decide (p.port ≠ s.get F.SPX_PINFO_PORT n)
        | none => false)
      let s := if other then s.raise F.SPX_EVT_PARTNER_CHANGED n else s
      if other || decide ((s.eff F.SPX_RRT_RRT_LIMIT n : Int) * 65536 < d.natAbs) then
        (s.raise F.SPX_STATUS_RRT_HOLD n).raise F.SPX_EVT_RRT_HOLD n
      else s.resolveRoute n m d

/-- A round-trip step (R144). -/
def State.rttStep (s : State) (n : Nat) (m : SpxMeas) : State :=
  let s := (s.bump F.SPX_CNT_RTT_STEPS_N n).raise F.SPX_EVT_RTT_STEP n
  (s.pendRoute n (some m.rtt)).modSpx n (fun x => { x with lastPend := some (m.rtt, m.e) })

/-- What becomes of a measurement (R138, R144, R145). -/
def State.routeMeas (s : State) (n : Nat) (m : SpxMeas) : State :=
  let x := s.spx n
  let thr := s.eff F.SPX_STEP_STEP_THR n
  let pend := s.on F.SPX_STATUS_ROUTE_PEND n
  let agrees := match x.lastPend with
    | some (r, e) => withinPs (m.rtt - r) 10 && withinPs (m.e - e) 10
    | none => false
  let keep (s : State) : State := s.modSpx n (fun x => { x with lastPend := some (m.rtt, m.e) })
  if s.on F.SPX_STATUS_RR_FAIL n then (if agrees then s.agreed n m else keep s)
  else
    let ref := if pend then x.lastPend.map Prod.fst else x.rttRef
    let step := match ref with
      | some r => !withinPs (m.rtt - r) thr
      | none => false
    if step then s.rttStep n m
    else if pend then (if agrees then s.agreed n m else keep s)
    else if s.on F.SPX_STATUS_STARVED n then s
    else s.deliverSpx n m false

/-! ### Exchanges received (R134 to R136, R149) -/

/-- The exchange in progress is refused as a bad fragment (V2): dropped, with a NACK for its sequence. -/
def State.badFrag (s : State) (n seq : Nat) : State :=
  let s := s.modSpx n (fun x => match x.asm with
    | some a => { x with asm := none, rxMark := if a.seq = seq then a.prior else x.rxMark }
    | none => x)
  (s.violation n 2 seq).nack n seq 2 1

/-- A complete exchange: `now` is when its last block came (R136, R143). -/
def State.completeExchange (s : State) (n : Nat) (now : Raw) : State :=
  let x := s.spx n
  let near := match x.lastComplete with
    | some t => decide (now ≤ t + 100000000)
    | none => false
  let run := if near then x.okRun + 1 else 0
  let s := ((s.bump F.SPX_CNT_MARK_RX_N n).set F.SPX_STATUS_VIOL_RUN 0 n).modSpx n (fun x =>
    { x with lastComplete := some now, okRun := run })
  if 16 ≤ run && s.on F.SPX_STATUS_STARVED n then (s.lower F.SPX_STATUS_STARVED n).srvReview else s

/-- The key of a MARK history entry's word: 32 ports of 256 entries of 16 bytes from 0x99_0000 (R379). -/
def markKey (n slot : Nat) : Nat := sramKey (0x99000 + 256 * n + slot)

/-- The measurement of a complete exchange with the MARK `k` (R136 to R138): recorded, posted, and handed on. -/
def State.measured (s : State) (n : Nat) (a : Assembly) (r : Epoch) (k : Mark) (t2 t3 : Nat) : State :=
  if s.sess n ≠ sessRun || r.state = tbCold then s
  else if r.gen % 256 ≠ a.mark % 256 then s.bump F.SPX_CNT_STALE_N n
  else
    let m := s.measureWith n r k.tx a.rx t2 t3
    let u := s.asymUnc n
    let dps := roundEven (m.delta * 1000) 65536
    let s := ((s.setInt F.SPX_OFS_OFS m.e n).setInt F.SPX_ASYM_CUR_ASYM_CUR dps n).set F.SPX_UNC_CUR_UNC_CUR u n
    let s := (s.bump F.SPX_CNT_MEAS_N n).modSpx n (fun x => { x with measNow := x.measNow + 1 })
    let s := s.postMeas n (2 * bits a.mark 12 3 + 16 * bits a.mark 11 1 + 32 * bits a.mark 10 1) m.e m.rtt dps u
    s.routeMeas n m

/-- An assembled exchange whose last block came at `now` (R135 to R138). A MARK history entry that cannot be read yields no
measurement and no violation (R386). DESIGN CHOICE (assumption 54): the exchange that clears STARVED clears it before its measurement is
judged, which is therefore delivered. -/
def State.assembled (s : State) (n : Nat) (a : Assembly) (now : Raw) : State :=
  let w (i : Nat) : Nat := a.frags.getD i 0 + 65536 * a.frags.getD (i + 1) 0 + 4294967296 * a.frags.getD (i + 2) 0
  let x := s.spx n
  match (if a.mark.testBit 15 then x.record else none) with
  | none => s.completeExchange n now
  | some r =>
    let trip (tx : Raw) : Int := (s.measureWith n r tx a.rx (w 3) (w 0)).rtt
    match s.resolveMark n a.rseq trip with
    | none => s.badFrag n a.seq
    | some k =>
      let q := s.readWord (markKey n k.slot)
      if q.1 then q.2.completeExchange n now
      else if k.unreported then q.2.badFrag n a.seq
      else (q.2.completeExchange n now).measured n a r k (w 3) (w 0)

/-- A MARK (R133, R149): V1 for a gap, V2 for an exchange cut short or a reserved bit. -/
def State.rxMark (s : State) (n : Nat) (b : SpxBlock) : State :=
  let q := b.seq
  let p := b.payload
  let rx := s.rxStamp n .line (s.blockStamp n b)
  let x := s.spx n
  let s := match x.rxSeq with
    | some l =>
      if s.sess n = sessRun && q ≠ (l + 1) % 16 then
        let s := s.modSpx n (fun x => { x with asm := none })
        (s.violation n 1 q).nack n ((l + 1) % 16) 1 ((q + 15 - l) % 16)
      else match x.asm with
        | some a => s.badFrag n a.seq
        | none => s
    | none => match x.asm with
        | some a => s.badFrag n a.seq
        | none => s
  if !s.sessOpen n then s
  else
    let s := s.modSpx n (fun x => { x with rxSeq := some q })
    if bits p 8 2 ≠ 0 then s.badFrag n q
    else
      let prior := (s.spx n).rxMark
      let s := s.modSpx n (fun x => { x with rxMark := some (q, rx), asm := some ⟨q, p, rx, [], 0, prior⟩ })
      let s := ((s.set F.SPX_PINFO_TBS (p / 4096) n).set F.SPX_PINFO_UT (p / 2048) n).set F.SPX_PINFO_GENL p n
      let s := s.reach rx
      if s.get F.SPX_PINFO_SRC n = bits p 10 1 then s else (s.set F.SPX_PINFO_SRC (p / 1024) n).srvReview

/-- A FRAG (R133, R135, R149). DESIGN CHOICE (assumption 54): without a MARK before it, the sequence that the NACK and the entry name is
the FRAG's own for F0 to F2, and for F3 to F5, which carry the reported MARK's, that of the last MARK. -/
def State.rxFrag (s : State) (n i : Nat) (b : SpxBlock) : State :=
  let q := b.seq
  match (s.spx n).asm with
  | none => s.badFrag n (if i < 3 then q else (s.spx n).rxSeq.getD q)
  | some a =>
    if i ≠ a.frags.length || (i < 3 && q ≠ a.seq) || (3 < i && q ≠ a.rseq) then s.badFrag n a.seq
    else
      let a := { a with frags := a.frags ++ [b.payload], rseq := if i = 3 then q else a.rseq }
      let s := s.modSpx n (fun x => { x with asm := some a })
      if i < 5 then s
      else
        let now := s.rxStamp n .line (s.blockStamp n b)
        let t := (s.reach now).assembled n a now
        t.modSpx n (fun x => { x with asm := none })

/-- A STATUS word (R135). -/
def State.rxStatus (s : State) (n i w : Nat) : State :=
  let x := s.spx n
  let ws := if i = x.words.length then x.words ++ [w] else if i = 0 then [w] else []
  if ws.length < 16 then s.modSpx n (fun x => { x with words := ws })
  else
    let r := parseRecord ws
    let s := (s.bump F.SPX_CNT_REC_N n).modSpx n (fun x => { x with words := [], record := some r })
    ((s.raise F.SPX_STATUS_REC_VALID n).put F.SPX_STATUS_PARTNER_COLD (r.state = tbCold) n).srvReview

/-- Mark the newest history entry of each named sequence unreported. -/
def unreport (seqs : List Nat) : List Mark → List Mark
  | [] => []
  | m :: t => if seqs.contains m.seq then { m with unreported := true } :: unreport (seqs.erase m.seq) t else m :: unreport seqs t

/-- A NACK (R149): the MARKs it names become unreported. DESIGN CHOICE (assumption 48): a count of 0, which R131 does not allow and
names no answer to, is taken as naming one sequence. -/
def State.rxNack (s : State) (n seq w : Nat) : State :=
  let seqs := (List.range (max 1 (bits w 4 4))).map (fun i => (seq + i) % 16)
  (s.bump F.SPX_CNT_NACK_RX_N n).modSpx n (fun x => { x with marks := unreport seqs x.marks })

/-- A block received from the line (R131, R149), turned back into idle before the elastic stage (R80): outside CAPS and RUN consumed
without answer; the test block drops blocks at random (R405). A block of another type or O code is none of SPX. -/
def State.rxBlock (s : State) (n : Nat) (b : SpxBlock) : State :=
  if !s.sessOpen n || !b.isSpx then s
  else
    let k := min 20 (s.get F.TST_SPXDROP_K n)
    let (r, t) := s.free
    if k ≠ 0 && r % 2 ^ k = 0 then t
    else
      let s := if k = 0 then s else t
      if b.tail then s.violation n 3 b.seq
      else
        match b.kind with
        | 1 => s.rxMark n b
        | 2 => s.rxStatus n b.seq b.payload
        | 3 => s.rxCaps n b.seq b.payload
        | 4 => s.rxNack n b.seq b.payload
        | 8 => s.rxFrag n 0 b
        | 9 => s.rxFrag n 1 b
        | 10 => s.rxFrag n 2 b
        | 11 => s.rxFrag n 3 b
        | 12 => s.rxFrag n 4 b
        | 13 => s.rxFrag n 5 b
        | _ => s.violation n 3 b.seq

/-- A block as the line's decoder hands it on: one of a codeword that it cannot correct is marked with error control characters and is
no SPX block (R72). -/
def State.rxDecoded (s : State) (n : Nat) (b : SpxBlock) (wrong : Nat) : State :=
  if s.fec n .line && decide (fecSymbols < wrong) then s else s.rxBlock n b

/-! ### Exchanges sent (R133, R134) -/

/-- The STATUS word due: the words of the current epoch record, from word 0 on a new epoch; all zero in COLD. -/
def State.statusWord (s : State) (n : Nat) : Nat × Nat :=
  let x := s.spx n
  let ep := s.tb.cur.map (·.index)
  let ix := if x.statusEpoch = ep then x.statusIx else 0
  (ix, match s.tb.cur with
    | some e => leAt e.bytes (2 * ix) 2
    | none => 0)

/-- The MARK of a new exchange in the idle block captured as `st` (R133): its departure, the arrival of the partner's last MARK, and
the blocks F0 to F5 that carry them, to follow in the next idle blocks; a STATUS block not sent yet is skipped (R134). -/
def State.startExchange (s : State) (n : Nat) (st : Stamp) : State :=
  let tx := s.txStamp n .line st
  let s := s.reach tx
  let x := s.spx n
  let q := x.txSeq
  let rep := x.rxMark
  let pay := 32768 * b2n rep.isSome + 4096 * s.tbState + 2048 * b2n (s.on F.TB_STATUS_UNTRACED) + 1024 * b2n (s.isSourcePort n)
    + s.get F.TB_GEN_GEN % 256
  let rx := (rep.map Prod.snd).getD 0
  let rq := (rep.map Prod.fst).getD 0
  let fs := (List.range 3).map (fun i => (8 + i, q, tx / 65536 ^ i)) ++ (List.range 3).map (fun i => (11 + i, rq, rx / 65536 ^ i))
  let m : Mark := ⟨x.markIx, q, tx, s.on F.SPX_STATUS_RANGING n, false⟩
  let s := (s.sendBlock n 1 q pay tx).writeWord (markKey n x.markIx)
  (s.bump F.SPX_CNT_MARK_TX_N n).modSpx n (fun x =>
    { x with marks := (m :: x.marks).take 256, markIx := (x.markIx + 1) % 256, txSeq := (q + 1) % 16, exchange := fs
             statusDue := false, lastMark := some st.w, lastEarly := if x.phMarkDue then some st.w else x.lastEarly
             phMarkDue := false })

/-- A MARK is due in a block captured at `w`: P has passed since the one before, or a phase step made it due (R134, R139). -/
def State.markDue (s : State) (n : Nat) (w : Raw) : Bool :=
  match (s.spx n).lastMark with
  | some t => decide (t + s.spxPeriod n ≤ w) || (s.spx n).phMarkDue
  | none => true

/-- The line transmitter leaves the block captured as `st` wholly idle: the frame before, with the block it ends in, is over (R134). -/
def State.blockIdle (s : State) (n : Nat) (st : Stamp) : Bool :=
  let e := s.egress n .line
  decide (e.busyUntil ≤ s.startAt n st.laneZero + s.octetTaps n * (12 + e.tail))

/-- An idle block of the line transmitter in RUN (R134), after the elastic stage and after every frame has been placed (R80): it
carries the first item ready of a NACK, the next block of the exchange in progress, a due MARK, the STATUS block of the exchange
just completed, a CAPS answer; else it leaves unchanged. -/
def State.fillIdle (s : State) (n : Nat) (st : Stamp) : State :=
  if s.sess n ≠ sessRun || !s.forwarding n .line || !s.blockIdle n st then s
  else
    let st := st.laneZero
    let raw := s.txStamp n .line st
    let x := s.spx n
    match x.nackDue, x.exchange with
    | p :: t, _ => ((s.sendBlock n 4 p.1 p.2 raw).bump F.SPX_CNT_NACK_TX_N n).modSpx n (fun x => { x with nackDue := t })
    | [], b :: t =>
      (s.sendBlock n b.1 b.2.1 b.2.2 raw).modSpx n (fun x => { x with exchange := t, statusDue := x.statusDue || t.isEmpty })
    | [], [] =>
      if s.markDue n st.w then s.startExchange n st
      else if x.statusDue then
        let w := s.statusWord n
        (s.sendBlock n 2 w.1 w.2 raw).modSpx n (fun x =>
          { x with statusDue := false, statusIx := (w.1 + 1) % 16, statusEpoch := s.tb.cur.map (·.index) })
      else match x.answer with
        | p :: t => (s.sendBlock n 3 p.1 p.2 raw).modSpx n (fun x => { x with answer := t })
        | [] => s

/-! ### Receive phase (R139) -/

/-- The newest average deviates from the straight line through the 16 before it by more than STEP_THR / 4 (in taps times 2.5
ps, by least squares). -/
def phaseStep (thr : Nat) (r : Raw) (y : Int) (l : List (Raw × Int)) : Bool :=
  let p := l.take 16
  let xs := p.map (fun q => (q.1 : Int) - r)
  let ys := p.map (fun q => q.2 - y)
  let sx := xs.sum
  let sy := ys.sum
  let d := 16 * (xs.map (fun a => a * a)).sum - sx * sx
  let n := 16 * ((xs.zip ys).map (fun q => q.1 * q.2)).sum - sx * sy
  decide (p.length = 16) && decide (0 < d) && decide ((thr : Int) * 16 * d < 10 * ((sy * d - n * sx).natAbs : Int))

/-- One average of the receive phase: unwrapped, and its step (R139). -/
def State.phaseAverage (s : State) (n : Nat) (raw : Raw) (avg : Int) : State :=
  let x := s.spx n
  let w : Int := s.wordTaps n
  let d := match x.phBase with
    | some b => let v := (avg - b) % w
                if w ≤ 2 * v then v - w else v
    | none => avg
  let y := s.int F.SPX_PHASE_PHASE n + d
  let step := s.on F.SPX_XPH_PHSTEP_EN n && phaseStep (s.eff F.SPX_STEP_STEP_THR n) raw y x.phases
  let due := match x.lastEarly with
    | some t => decide (t + s.spxPeriod n ≤ raw)
    | none => true
  let s := (s.setInt F.SPX_PHASE_PHASE y n).modSpx n (fun x =>
    { x with phases := ((raw, y) :: x.phases).take 17, phBase := some avg, phMarkDue := x.phMarkDue || (step && due) })
  if step then s.raise F.SPX_EVT_PH_STEP n else s

end Sys2Proof.Machine
end

