-- ==== Sys2Proof/Machine/Ports.lean ====
section
/-!
DEFINITION. Port states with their leaving effects (R82 to R86), ingress (R73, R79, R86 to R89, R99, R111, R116).
-/
namespace Sys2Proof.Machine

/-! ### Port states (R84 to R86) -/

/-- Discard the waiting frames of one egress (R86): held ones are counted, injected ones complete with ABORTED. DESIGN CHOICE
(assumption 48): R86 names only the counter of the held frames discarded; STR_EVT.POOL_DROP, "a held frame was discarded", is set
with it. -/
def State.flushEgress (s : State) (n : Nat) (sd : Side) : State :=
  let e := s.egress n sd
  let s := s.modEgress n sd (fun e => { e with orig := [], held := [], inj := [], arriving := [] })
  let s := if sd = .line then s.modPtp n (fun x => { x with jobs := [] }) else s
  let s := (e.orig ++ e.held ++ e.inj).foldl (fun s f => s.freeFrame n f) s
  let s := if e.held.isEmpty then s else (s.bump F.STR_CNT_POOL_DROP_N n e.held.length).raise F.STR_EVT_POOL_DROP n
  e.inj.foldl (fun s f => match f.src with
    | .host src tag quiet => s.finish src tag stAborted quiet
    | _ => s) s

/-- The leaving effects (R86). -/
def State.leavePort (s : State) (n : Nat) : State := (s.flushEgress n .line).flushEgress n .host

/-- Move a port to a state, with the leaving effects where it leaves UP or ACQUIRE. -/
def State.movePort (s : State) (n st : Nat) : State :=
  let old := s.pstate n
  let s := s.set F.STR_STATUS_STATE st n
  if (old = psUp || (old = psAcquire && st ≠ psUp)) && old ≠ st then s.leavePort n else s

/-- ACQUIRE with both directions live becomes UP (R84). -/
def State.reviewPort (s : State) (n : Nat) : State :=
  if s.pstate n = psAcquire && s.live n .line && s.live n .host then
    (s.set F.STR_STATUS_STATE psUp n).raise F.STR_EVT_UP n
  else s

/-- A change of a port's state or of its directions, and what follows it elsewhere (R128, R163, R181). -/
def State.linked (s : State) (n : Nat) (f : State → State) : State :=
  let tx := s.forwarding n .line
  (f s).linkReview n tx

/-- A side's receiver is powered down with its port (R83): no lock, nothing received. -/
def State.receiverOff (s : State) (n : Nat) (sd : Side) : State :=
  let fs := match sd with
    | .line => [F.STR_STATUS_L_LOCK, F.STR_STATUS_L_HIBER, F.STR_STATUS_L_FLT, F.STR_STATUS_L_PHLOCK, F.STR_STATUS_L_FILL]
    | .host => [F.STR_STATUS_H_LOCK, F.STR_STATUS_H_HIBER, F.STR_STATUS_H_FLT, F.STR_STATUS_H_PHLOCK, F.STR_STATUS_H_FILL]
  (s.clearAll n fs).modRx n sd (fun _ => Receiver.idle)

/-- DISABLED is entered: the SerDes is powered down, so no direction is live. -/
def State.powerDown (s : State) (n : Nat) : State := ((s.movePort n psDisabled).receiverOff n .line).receiverOff n .host

/-- EN and the rail condition (R84): DISABLED starts, every other state but CAL ends. -/
def State.reviewEnable (s : State) (n : Nat) : State :=
  let run := s.enabled n
  let st := s.pstate n
  if st = psDisabled then (if run then s.set F.STR_STATUS_STATE psAcquire n else s)
  else if st = psCal || run then s
  else s.linked n (fun s => s.powerDown n)

/-- The calibration engine takes a port (R84); unchanged where R84 has no such transition. -/
def State.calTake (s : State) (n : Nat) : State :=
  let st := s.pstate n
  if st = psDisabled || st = psAcquire || st = psUp then
    s.linked n (fun s => (s.movePort n psCal).set F.STR_CTRL_LOOP 1 n)
  else s

/-- The calibration engine releases a port (R84). -/
def State.calRelease (s : State) (n : Nat) : State :=
  if s.pstate n = psCal then
    s.linked n (fun s =>
      let s := s.set F.STR_CTRL_LOOP 0 n
      if s.enabled n then (s.set F.STR_STATUS_STATE psAcquire n).reviewPort n else s.powerDown n)
  else s

/-- PORT_HALT (R84, R188): true where the port halts now. -/
def State.haltPort (s : State) (n : Nat) : Bool × State :=
  let st := s.pstate n
  if st = psAcquire || st = psUp || st = psTraining || st = psCal then
    (true, s.linked n (fun s => ((s.set F.STR_CTRL_LOOP 0 n).movePort n psHalted).raise F.STR_EVT_HALTED n))
  else (false, s)

/-- The halt is released (R84). -/
def State.unhaltPort (s : State) (n : Nat) : State :=
  if s.pstate n = psHalted then s.linked n (fun s => (s.set F.STR_STATUS_STATE psAcquire n).reviewPort n) else s

/-- Three frame markers on side `sd`, which is not in block lock, with LT_PASS = 1 (R82, R84). -/
def State.trainPort (s : State) (n : Nat) (sd : Side) : State :=
  if s.on F.STR_CTRL_LT_PASS n && !(s.rx n sd).lock && (s.pstate n = psAcquire || s.pstate n = psUp) then
    s.linked n (fun s => (s.movePort n psTraining).raise F.STR_EVT_TRAIN n)
  else s

/-- LT_TO expires (R82, R84). -/
def State.trainEnd (s : State) (n : Nat) : State :=
  if s.pstate n = psTraining then
    s.linked n (fun s => ((s.set F.STR_STATUS_STATE psAcquire n).raise F.STR_EVT_LT_TIMEOUT n).reviewPort n)
  else s

/-- The liveness bit and the phase meter's lock of a side. -/
def lockFlds : Side → Fld × Fld
  | .line => (F.STR_STATUS_L_LOCK, F.STR_STATUS_L_PHLOCK)
  | .host => (F.STR_STATUS_H_LOCK, F.STR_STATUS_H_PHLOCK)

/-- The high bit-error-rate bit of a side. -/
def hiberFld : Side → Fld
  | .line => F.STR_STATUS_L_HIBER
  | .host => F.STR_STATUS_H_HIBER

/-- The receive phase of a line direction that becomes live counts from here (R139, R151). -/
def State.startPhase (s : State) (n : Nat) : State :=
  (s.setInt F.SPX_PHASE_PHASE 0 n).modSpx n (fun x => { x with phases := [], phBase := none })

/-- A direction becomes live (R83, R84): block lock, with RS-FEC marker lock, and no high bit-error rate. The phase meter locks with
it (assumption 48). In TRAINING both sides in block lock lead to UP, whether or not the other direction is live. DESIGN CHOICE
(assumption 48): a port that came to UP so, with a direction that is not live, stays there, for R84 has no other transition, until a
side of it is lost. -/
def State.dirLive (s : State) (n : Nat) (sd : Side) : State :=
  if s.pstate n = psDisabled then s
  else s.linked n (fun s =>
    let s := if sd = .line && !s.live n .line then s.startPhase n else s
    let s := ((s.raise (lockFlds sd).1 n).raise (lockFlds sd).2 n).lower (hiberFld sd) n
    let s := s.modRx n sd (fun x => { x with lock := true, marker := s.fec n sd })
    if s.pstate n = psTraining && (s.rx n .line).lock && (s.rx n .host).lock then
      (s.set F.STR_STATUS_STATE psUp n).raise F.STR_EVT_UP n
    else s.reviewPort n)

/-- What a side's receiver has lost (R83). -/
def Receiver.lose (x : Receiver) : LossCause → Receiver
  | .blockLock => { x with lock := false, lastOs := none, gap := 0 }
  | .markerLock => { x with marker := false, lastOs := none, gap := 0 }
  | .signal => { x with lock := false, marker := false, lastOs := none, gap := 0 }
  | .highBer => { x with lastOs := none, gap := 0 }

/-- A direction stops being live (R83, R84, R86): UP falls to ACQUIRE with its leaving effects; in ACQUIRE the egress that the
direction feeds is flushed. -/
def State.dirDead (s : State) (n : Nat) (sd : Side) (cause : LossCause) : State :=
  s.linked n (fun s =>
    let was := s.live n sd
    let s := ((s.lower (lockFlds sd).1 n).lower (lockFlds sd).2 n).modRx n sd (fun x => x.lose cause)
    let s := if cause = .highBer then s.raise (hiberFld sd) n else s
    if s.pstate n = psUp then (s.movePort n psAcquire).raise F.STR_EVT_DOWN n
    else if s.pstate n = psAcquire && was then s.flushEgress n sd.other
    else s)

/-! ### Ingress (R73, R79, R86 to R89, R99, R111, R116) -/

/-- The first cell of a through frame of `len` octets that is to be held, with its first octets. -/
def State.firstCell (s : State) (n len : Nat) : List Cell × State :=
  let r := (s.settle n).takeUpTo n 1
  (r.1, r.2.writeEach (cellKeys r.1 (frameWords len)))

/-- A through frame whose first octet comes at raw time `t0` joins the held ones with its first cell, or is discarded without one; it
takes the others as it arrives (R91, R99). DESIGN CHOICE (assumption 48): R99 speaks of a frame already started; one that runs out of a
later cell and has not started yet is cut in the same way and keeps its place. -/
def State.joinHeld (s : State) (n : Nat) (sd : Side) (d : Bytes) (errs : List Nat) (cells : List Cell) (t0 : Raw) : State :=
  if cells.isEmpty then (s.bump F.STR_CNT_POOL_DROP_N n).raise F.STR_EVT_POOL_DROP n
  else
    (((s.arriveRest n sd).describe cells).bump F.STR_CNT_HELD_N n).modEgress n sd (fun e =>
      { e with held := e.held ++ [⟨d, errs, cells, 0, false, none, .held⟩], arriving := arrivals (s.octetTaps n) t0 d.length })

/-- Hold a through frame that comes at raw time `t0`. -/
def State.holdFrame (s : State) (n : Nat) (sd : Side) (d : Bytes) (errs : List Nat) (t0 : Raw) : State :=
  let r := s.firstCell n d.length
  r.2.joinHeld n sd d errs r.1 t0

/-- Pass a frame to the opposite side: at once, or held where the egress is busy, has frames that go before it, or refuses its start
(R91, R92); a frame that goes before it starts at this boundary, and what that originates asks for a cell after it (R98). The gap
before it may be as short as 5 octets (R77). `tx` is the capture of its departure if it passes at once, `fill` that of the elastic
stage. -/
def State.passFrame (s : State) (n : Nat) (sd : Side) (d : Bytes) (errs : List Nat) (fill : Nat) (tx : Stamp) : State :=
  let tx0 := s.afterStart n fill tx
  let tx := s.lineStart n sd fill tx0
  let t0 := s.startAt n tx0
  if s.gapAt n sd tx < 5 then s.holdFrame n sd d errs t0
  else if s.frameWaits n sd then
    let r := s.firstCell n d.length
    (r.2.egressStart n sd tx0).joinHeld n sd d errs r.1 t0
  else if !s.guardOk n sd d.length tx then s.holdFrame n sd d errs t0
  else (s.supply n sd fill tx0).startFrame n sd ⟨d, errs, [], 0, false, none, .held⟩ tx

/-- Control byte of a class in STR_FWD_L or STR_FWD_H (R89). -/
def State.fwd (s : State) (n : Nat) (sd : Side) (cls : Nat) : Nat :=
  match sd, cls with
  | .line, 0 => s.get F.STR_FWD_L_C0 n
  | .line, 1 => s.get F.STR_FWD_L_C1 n
  | .line, 2 => s.get F.STR_FWD_L_C2 n
  | .line, 3 => s.get F.STR_FWD_L_C3 n
  | .host, 0 => s.get F.STR_FWD_H_C0 n
  | .host, 1 => s.get F.STR_FWD_H_C1 n
  | .host, 2 => s.get F.STR_FWD_H_C2 n
  | .host, 3 => s.get F.STR_FWD_H_C3 n
  | _, _ => 1

/-- Copy for the host (R89, R99): staged in cells, delivered to the class's ring; a word that cannot be read is 16 zeros in the copy
and sets INFO[6] (R386). -/
def State.copyFrame (s : State) (n : Nat) (sd : Side) (cls : Nat) (raw : Raw) (v : Nat) (sub err : Bool) (len : Nat) (d : Bytes) :
    State :=
  let drop (s : State) : State := (s.bump F.STR_CNT_COPY_DROP_N n).raise F.STR_EVT_COPY_DROP n
  match s.takeFrame n d.length with
  | none => drop s
  | some (cells, s) =>
    let w := s.readEach (cellKeys cells (frameWords d.length))
    let r := w.2.deliverCopy n sd (s.fwd n sd cls / 4) cls raw v sub (err || w.1.any id) len (zeroWords (w.1.drop 1) d)
    let s := r.2.freeCells n cells
    if r.1 then s else drop s

/-- A received frame holds an /E/ after the decoder, or the elastic stage overflows in it. -/
def State.damaged (s : State) (n : Nat) (sd : Side) (f : RxFrame) : Bool := !(f.decoded (s.fec n sd)).isEmpty || f.overflow.isSome

/-- A frame enters a direction of a port (R88, R89): classified, timestamped, rewritten by SUB on line ingress, passed and copied,
the through frame taking its cells before the copy (R98). An overflow of the elastic stage and STR_MAXFRM cut it with an /E/, the rest
is discarded (R79, R86). Frames with EtherType 0x88B5 are consumed on the line side and discarded on the host side (R73). DESIGN
CHOICE (assumption 48): the EtherType tested for 0x88B5 is, as for C2 and C3, the field after the accepted VLAN tags. -/
def State.frameIn (s : State) (n : Nat) (sd : Side) (f : RxFrame) (tx : Stamp) : State :=
  let s := (s.bump (if sd = .line then F.STR_CNT_FRM_L_N else F.STR_CNT_FRM_H_N) n).setFill n sd f.fill
  let c0 := (f.data, f.decoded (s.fec n sd))
  let ovf := f.overflow.filter (fun k => decide (k < f.data.length))
  let s := if ovf.isSome then (s.bump F.STR_CNT_EL_OVF_N n).raise F.STR_EVT_EL_OVF n else s
  let c1 := match ovf with
    | some k => cutFrame k c0.1 c0.2
    | none => c0
  let maxf := s.eff F.STR_MAXFRM_MAXFRM n
  let giant := decide (maxf < c1.1.length)
  let s := if giant then (s.bump F.STR_CNT_GIANT_N n).raise F.STR_EVT_GIANT n else s
  let c2 := if giant then cutFrame maxf c1.1 c1.2 else c1
  let d := c2.1
  let err := !c2.2.isEmpty
  let c := s.parseCfg n
  let p := parseFrame c d
  if p.etype = 0x88B5 then
    if sd = .host then (s.bump F.STR_CNT_HOST_SPX_N n).raise F.STR_EVT_HOST_SPX n else s
  else
    let cls := frameClass c d
    let s := if p.malformed then s.bump F.STR_CNT_MALFORMED_N n else s
    let s := if cls = 0 then s.bump (if sd = .line then F.STR_CNT_PTP_L_N else F.STR_CNT_PTP_H_N) n else s
    let raw := s.rxStamp n sd f.stamp
    let v := s.residence raw
    let want := sd = .line && cls = 0 && (s.get F.STR_TS_CTRL_SUB_MT n).testBit (p.msgType d) && !err
    let r :=
      if !want then (false, s, d)
      else if !p.trailerOk d then (false, (s.bump F.STR_CNT_NO_TRAILER_N n).raise F.STR_TS_EVT_NO_TRAILER n, d)
      else s.cfOp n p d true v
    let d' := if r.1 then refcs d r.2.2 else d
    let s := r.2.1
    let ctl := s.fwd n sd cls
    let s := if cls = 4 || ctl.testBit 0 then s.passFrame n sd.other d' c2.2 f.fill tx else s
    if cls < 4 && ctl.testBit 1
    then s.copyFrame n sd cls raw (if r.1 then v else 0) r.1 (err || !fcsOk d') f.data.length d' else s

end Sys2Proof.Machine
end

