-- ==== Sys2Proof/Machine/Actions.lean ====
section
/-!
DEFINITION. Timed actions, launch queues and event capture (R199 to R232): entry images, arming, commitment, execution, and the
operations that the TA commands and register writes share.
-/
namespace Sys2Proof.Machine

/-! ### Operations of a part (R201, R202) -/

abbrev opNone : Nat := 0
abbrev opLaunch : Nat := 1
abbrev opEdgeHi : Nat := 2
abbrev opEdgeLo : Nat := 3
abbrev opPulse : Nat := 4
abbrev opTrainStart : Nat := 5
abbrev opTrainStop : Nat := 6
abbrev opToggle : Nat := 7

/-- CTRL bits of an entry (R200). -/
def Action.lateNow (a : Action) : Bool := a.ctrl.testBit 2
def Action.gate (a : Action) : Bool := a.ctrl.testBit 3
def Action.evt (a : Action) : Bool := a.ctrl.testBit 4
def Action.evtEnd (a : Action) : Bool := a.ctrl.testBit 5

/-- The operation acts on a TIO ball. -/
def opBall (op : Nat) : Bool := op = opEdgeHi || op = opEdgeLo || op = opPulse || op = opToggle

/-- The operation starts or stops a period generator. -/
def opTrain (op : Nat) : Bool := op = opTrainStart || op = opTrainStop

/-- Claim index of the resource a part names (R222). -/
def Part.claim (p : Part) : Nat :=
  if p.op = opLaunch then claimLq p.res else if opTrain p.op then claimPg p.res else claimTio p.res

/-- RES lies in its range and names a bonded resource. -/
def State.partBonded (s : State) (p : Part) : Bool :=
  if p.op = opNone then true
  else if p.op = opLaunch then decide (p.res < 128) && s.bonded (p.res / 4)
  else if opTrain p.op then decide (p.res < 16)
  else decide (p.res < s.fuses.variant.tios)

/-- The resource is in the mode that the operation needs (R202). -/
def State.partMode (s : State) (p : Part) : Bool :=
  if p.op = opNone then true
  else if p.op = opLaunch then s.on F.TA_LQ_CTRL_EN p.res
  else if opTrain p.op then (s.pgBall p.res).isSome
  else decide (s.get F.TA_TIO_CTRL_MODE p.res = 2)

/-- The agent may use the resource: it or the profile loader holds it (R202). -/
def State.partHeld (s : State) (a : Agent) (p : Part) : Bool :=
  p.op = opNone || (let o := s.owner p.claim
                    o ≠ 0 && (o / 64 = a.code || o / 64 = 0))

/-! ### Entry images (R200) -/

/-- An action-table entry. -/
def State.action (s : State) (i : Nat) : Action := Store.get Action.empty s.ta.table i

/-- Replace it. -/
def State.setAction (s : State) (i : Nat) (a : Action) : State :=
  { s with ta := { s.ta with table := Store.set Action.empty s.ta.table i a } }

/-- The key of the first of the four code words of an entry (R199, R379). -/
def actionKey (i : Nat) : Nat := sramKey (0x80000 + 4 * i)

/-- Write back COUNT and VALID of an entry: its second code word. -/
def State.updateAction (s : State) (i : Nat) (a : Action) : State := (s.setAction i a).writeWord (actionKey i + 2)

/-- The part at octet `o` of an image. -/
def parsePart (b : Bytes) (o : Nat) : Part := ⟨leAt b o 1, leAt b (o + 1) 1, leAt b (o + 2) 4, leAt b (o + 6) 4⟩

/-- An entry from its 64-octet image, and whether the image is well formed (R200 to R202). -/
def State.parseAction (s : State) (b : Bytes) : Bool × Action :=
  let ctrl := leAt b 22 2
  let raw := ctrl.testBit 1
  let frac := leAt b 0 2
  let ns := leAt b 2 4
  let sec := leAt b 6 6
  let target := if raw then leAt b 0 10 else sec * ztPerSec + ns * 65536 + frac
  let parts := [parsePart b 24, parsePart b 34, parsePart b 44, parsePart b 54]
  let ok := decide (ctrl < 64)
    && (if raw then decide (leAt b 0 10 < 2 ^ 73) && decide (leAt b 10 2 = 0) else decide (ns ≤ 999999999))
    && parts.any (fun p => decide (p.op ≠ opNone))
    && parts.all (fun p => decide (p.op ≤ 7) && s.partBonded p
        && (if p.op = opPulse then decide (327680 ≤ p.arg) else decide (p.arg = 0)))
  (ok, ⟨target, leAt b 12 6, leAt b 18 4, ctrl, parts, 0, true, s.raw⟩)

/-- A part as 10 octets. -/
def Part.bytes (p : Part) : Bytes := [BitVec.ofNat 8 p.op, BitVec.ofNat 8 p.res] ++ le 4 p.ofs ++ le 4 p.arg

/-- An entry image as read back: VALID and the remaining COUNT as they stand (R226). -/
def Action.bytes (a : Action) : Bytes :=
  (if a.raw then le 10 a.target ++ le 2 0 else ztBytes a.target) ++ le 6 a.period ++ le 4 a.count
    ++ le 2 (a.ctrl / 2 * 2 + b2n a.valid) ++ padTo 40 (a.parts.flatMap Part.bytes)

/-- ARMED counts the valid entries (R227). -/
def State.countArmed (s : State) : State := s.set F.TA_STATUS_ARMED ((s.ta.table.filter (fun p => p.2.valid)).length)

/-- TA_END of entry `i` (R202): cause 0 ended, 1 disarmed, 2 replaced. -/
def State.postEnd (s : State) (i : Nat) (a : Action) (cause : Nat) : State :=
  if a.evtEnd then s.postEvent (s.get F.TA_CTRL_EV_RING) 0x0A 0 0 (le 2 i ++ [BitVec.ofNat 8 cause]) else s

/-- Write and arm entries from index `i`, replacing armed ones (R202). -/
def State.armAll (s : State) : Nat → List Action → State
  | _, [] => s
  | i, a :: t =>
    let old := s.action i
    let s := if old.valid then s.postEnd i old 2 else s
    ((s.setAction i a).writeWords (actionKey i) 4).armAll (i + 1) t

/-- Clear VALID of the entries [first, first + n); how many were armed (R226). -/
def State.disarm (s : State) (first n : Nat) : Nat × State :=
  let hit := s.ta.table.filter (fun p => decide (first ≤ p.1) && decide (p.1 < first + n) && p.2.valid)
  (hit.length, (hit.foldl (fun (s : State) p => (s.updateAction p.1 { p.2 with valid := false }).postEnd p.1 p.2 1) s).countArmed)

/-! ### Queues and their frames at commitment (R209, R210) -/

/-- A launch queue. -/
def State.lq (s : State) (q : Nat) : LaunchQ := Store.get ⟨[], none⟩ s.ta.lqs q

/-- Replace it, with its QLEN and KEPT. -/
def State.setLq (s : State) (q : Nat) (x : LaunchQ) : State :=
  let s := { s with ta := { s.ta with lqs := Store.set ⟨[], none⟩ s.ta.lqs q x } }
  (s.set F.TA_LQ_STAT_QLEN x.frames.length q).put F.TA_LQ_STAT_KEPT x.last.isSome q

/-- The side a queue sends on. -/
def State.lqSide (s : State) (q : Nat) : Side := if s.on F.TA_LQ_CTRL_SIDE q then .host else .line

/-- The parts of an occurrence, each with whether a frame was there for it at commitment. -/
def Staged.parts (g : Staged) : List (Part × Bool) := g.entry.parts.zipIdx.map (fun x => (x.1, g.got.getD x.2 false))

/-- Frames of queue `q` that committed occurrences, and parts still to come of executed ones, will take. -/
def State.lqCommitted (s : State) (q : Nat) : Nat :=
  s.ta.stage.foldl (fun a g => a + (g.parts.filter (fun x => x.1.op = opLaunch && decide (x.1.res = q) && x.2)).length)
    (s.ta.later.filter (fun x => x.part.op = opLaunch && decide (x.part.res = q) && x.got)).length

/-- Which of the parts of an occurrence find a frame at commitment: one that comes later is not for them (R210). -/
def State.reserve (s : State) (ps : List Part) : List Bool :=
  ps.zipIdx.map (fun x => x.1.op = opLaunch
    && decide (s.lqCommitted x.1.res
        + ((ps.take x.2).filter (fun p => p.op = opLaunch && decide (p.res = x.1.res))).length < (s.lq x.1.res).frames.length))

/-! ### Commitment (R203, R204) -/

/-- LEAD in taps. -/
def State.leadTaps (s : State) : Nat := s.eff F.TA_XCTRL_LEAD * 400000

/-- The raw time of an entry's next target; none where it cannot be committed. -/
def State.nextTarget (s : State) (a : Action) : Option Raw :=
  if !a.valid || (!a.raw && s.tbState = tbCold) then none else s.instantRaw a.raw (a.targetOf a.k)

/-- An entry's next target as an instant of ZTIME, by which occurrences of both scales are put in order (R204). -/
def State.targetZt (s : State) (a : Action) : Int := if a.raw then s.zt (a.targetOf a.k).toNat else a.targetOf a.k

/-- The entry to take in at raw time `now`: its target within LEAD, the earliest target first, then the lowest index. -/
def State.commitPick (s : State) (now : Raw) : Option (Nat × Action × Raw) :=
  s.ta.table.foldl (fun o p =>
    match s.nextTarget p.2 with
    | none => o
    | some t =>
      if now + s.leadTaps < t then o
      else match o with
        | none => some (p.1, p.2, t)
        | some (_, b, _) => if s.targetZt p.2 < s.targetZt b then some (p.1, p.2, t) else o) none

/-- An entry after one of its occurrences has begun (R203). -/
def Action.begun (a : Action) : Action :=
  if a.period = 0 then { a with valid := false, k := a.k + 1 }
  else if a.count = 0 then { a with k := a.k + 1 }
  else { a with count := a.count - 1, k := a.k + 1, valid := decide (a.count ≠ 1) }

/-- The entry cannot be read (R386): its occurrence is skipped with NORES, VALID is cleared and nothing is posted. -/
def State.skipUnreadable (s : State) (i : Nat) (a : Action) : State :=
  (((s.bump F.TA_CNT_NORES_NORES).raise F.TA_EVT_NORES).tally 20 1 |>.setAction i { a with valid := false }).countArmed

/-- RAW0 of the last epoch at which converted time jumped: the first one of all, or the last that applied an offset (R66). -/
def jumpRaw : List HistSlot → Raw
  | [] => 0
  | [h] => h.pub.raw0
  | h :: h' :: t => if h.sum = h'.sum then jumpRaw (h' :: t) else h.pub.raw0

/-- An occurrence with target `t` entering after it could have entered by it, so that a full stage or an intake behind is the cause
(R204): it was armed by then, and no epoch that moved converted time came after it. -/
def State.couldEnter (s : State) (a : Action) (t : Raw) : Bool :=
  decide (a.since ≤ t) && (a.raw || decide (jumpRaw s.tb.hist ≤ t))

/-- The intake takes at most one occurrence per 4 SCLK (R204). -/
def State.intakeFree (s : State) : Bool :=
  match s.ta.lastIn with
  | some c => decide (c + 4 ≤ s.cyc)
  | none => true

/-- Commit one occurrence (R204). -/
def State.commit (s : State) (now : Raw) : State :=
  if 256 ≤ s.ta.stage.length || !s.intakeFree then s
  else match s.commitPick now with
    | none => s
    | some (i, a, t) =>
      let r := s.readWords (actionKey i) 4
      let s := r.2
      if r.1 then s.skipUnreadable i a
      else
        let b := a.begun
        let g : Staged := ⟨i, a, a.targetOf a.k, b.count, !b.valid, s.reserve a.parts⟩
        let s := if t < now && s.couldEnter a t then s.raise F.TA_EVT_STAGE_FULL else s
        let s := { s with ta := { s.ta with stage := s.ta.stage ++ [g], lastIn := some s.cyc } }
        ((s.set F.TA_STATUS_STAGE s.ta.stage.length).updateAction i b).countArmed

/-! ### TIO edges (R208, R215, R216) -/

/-- Place an edge on ball `n` at raw time `r`: a second edge in one SCLK cycle is dropped and counted; an edge that would leave
the level unchanged is nothing. A ball out of MODE 2 is not driven, and in a halt it holds its level (R188, R215, R218). -/
def State.placeEdge (s : State) (n : Nat) (high : Bool) (r : Raw) : State :=
  if s.halted || decide (s.get F.TA_TIO_CTRL_MODE n ≠ 2) || s.on F.TA_TIO_CTRL_LEVEL n = high then s
  else if Store.get 0 s.ta.lastEdge n = r / 512 + 1 then (s.bump F.TA_CNT_EDGE_COLL_EDGE_COLL).raise F.TA_EVT_EDGE_COLL
  else { s with ta := { s.ta with lastEdge := Store.set 0 s.ta.lastEdge n (r / 512 + 1) } }.driveTio n high r

/-- The order of what is due (R208): raw time, entry index, part index. -/
def dueBefore (a b : Raw × Nat × Nat) : Bool :=
  decide (a.1 < b.1) || (decide (a.1 = b.1) && (decide (a.2.1 < b.2.1) || (decide (a.2.1 = b.2.1) && decide (a.2.2 < b.2.2))))

/-- The place of a falling edge in that order. -/
def Fall.due (f : Fall) : Raw × Nat × Nat := (f.raw, f.index, f.ix)

/-- Insert a falling edge in that order. -/
def insertFall (f : Fall) : List Fall → List Fall
  | [] => [f]
  | p :: t => if dueBefore f.due p.due then f :: p :: t else p :: insertFall f t

/-! ### Trains (R217) -/

/-- TRAIN_START at raw time `r` (R217): a stopped generator takes PHASE := x mod PER, EN := 1, and rises there, in a halt only after
its release (R218); on a running one only PHASE changes. Its instant x is exactly `z` where that is given and the generator runs on
ZTIME, else `r` on the generator's scale. -/
def State.trainStart (s : State) (k : Nat) (r : Raw) (z : Option Int) : State :=
  let g := 8 + k
  let s := s.genTick g r
  let x := match z with
    | some t => if s.genTime g then t else s.genScale g r
    | none => s.genScale g r
  let s := s.set F.TA_PG_PHASE_PHASE (x % (s.genPer g : Int)).toNat k
  if s.on F.TA_PG_CTRL_EN k then s
  else
    let s := (s.raise F.TA_PG_CTRL_EN k).setGen g { Gen.idle with high := (s.gen g).high, left := s.get F.TA_PG_COUNT_COUNT k }
    if s.halted then s else s.genRise g x r

/-- TRAIN_STOP at raw time `r`: no rising edge at or after it; EN reads 0 when the active phase has completed. -/
def State.trainStop (s : State) (k : Nat) (r : Raw) : State :=
  let s := s.genTick (8 + k) (r - 1)
  if s.on F.TA_PG_CTRL_EN k then s.genStop (8 + k) else s

/-! ### Launch queues (R209 to R214) -/

/-- Discard the frames of a queue that no committed occurrence takes; `kept` discards the last frame too. How many went. -/
def State.lqDiscard (s : State) (q : Nat) (kept : Bool) : Nat × State :=
  let x := s.lq q
  let n := s.lqCommitted q
  let gone := x.frames.drop n ++ (if kept then x.last.toList else [])
  let s := gone.foldl (fun s f => s.freeFrame (q / 4) f) s
  (gone.length, s.setLq q ⟨x.frames.take n, if kept then none else x.last⟩)

/-- The frames of a queue that a part may take: none where it found no frame at commitment (R210). -/
def State.lqFrames (s : State) (q : Nat) (got : Bool) : List PFrame := if got then (s.lq q).frames else []

/-- Consume the head frame of a queue without sending it (R213). -/
def State.lqConsume (s : State) (q : Nat) (got : Bool) : State :=
  match s.lqFrames q got with
  | [] => s
  | f :: t => (s.freeFrame (q / 4) f).setLq q ⟨t, (s.lq q).last⟩

/-- The queue cannot supply a frame (R207, R213). -/
def State.lqEmpty (s : State) (q : Nat) (got : Bool) : Bool :=
  (s.lqFrames q got).isEmpty && (!s.on F.TA_LQ_CTRL_EMPTY_ACT q || (s.lq q).last.isNone)

/-- Launch the head frame, or the kept last one, in the slot captured as `st` (R211, R213). SENT counts what is launched (R231): one
that cannot be read is discarded, and is not the kept frame (R386). -/
def State.launch (s : State) (q : Nat) (got : Bool) (st : Stamp) : State :=
  let n := q / 4
  let sd := s.lqSide q
  let x := s.lq q
  let sent := s.bump F.TA_LQ_SENT_SENT q
  match s.lqFrames q got with
  | f :: t =>
    let r := s.readFrame n f
    if r.1.isNone then (r.2.dropFrame n f).setLq q ⟨t, x.last⟩
    else if s.on F.TA_LQ_CTRL_EMPTY_ACT q then
      let s := match x.last with
        | some l => sent.freeFrame n l
        | none => sent
      (s.setLq q ⟨t, some f⟩).startFrame n sd f st true
    else (sent.setLq q ⟨t, x.last⟩).startFrame n sd f st
  | [] =>
    match x.last with
    | some l =>
      let again (s : State) : State := (s.bump F.TA_CNT_LQ_EMPTY_LQ_EMPTY).raise F.TA_EVT_LQ_EMPTY
      let r := s.readFrame n l
      if r.1.isNone then (again (r.2.dropFrame n l)).setLq q ⟨x.frames, none⟩
      else (again sent).startFrame n sd l st true
    | none => s

/-! ### Execution (R205 to R207) -/

/-- The earliest part of an occurrence: smallest OFFSET, then lowest index (R201). -/
def earliestPart (g : Staged) : Option Part :=
  (g.entry.parts.filter (fun p => decide (p.op ≠ opNone))).foldl (fun o p =>
    match o with
    | none => some p
    | some e => if p.ofs < e.ofs then some p else o) none

/-- Raw time of the earliest part. -/
def State.dueRaw (s : State) (g : Staged) : Raw :=
  match earliestPart g with
  | some p => s.partRaw g p
  | none => 0

/-- A LAUNCH misses its slot: its departure, by the capture of the slot used, is more than LATE_TOL behind the assigned one
(R206, R211). -/
def State.launchLate (s : State) (q : Nat) (r : Raw) (st : Stamp) : Bool :=
  let n := q / 4
  let sd := s.lqSide q
  decide (s.slotFrom n sd st r + (s.get F.TA_LATE_LATE_TOL * 400 : Nat) < s.txStamp n sd st)

/-- The reason that skips an occurrence, 1 to 5 of R365 in the order of R207; 0 where none of them holds. -/
def State.skipReason (s : State) (g : Staged) : Nat :=
  let ps := g.entry.parts
  if s.halted then 1
  else if g.entry.gate && decide (s.tbState ≠ tbLocked) then 2
  else if ps.any (fun p => !s.partMode p) then 3
  else if ps.any (fun p => p.op = opLaunch && !s.forwarding (p.res / 4) (s.lqSide p.res)) then 4
  else if g.parts.any (fun x => x.1.op = opLaunch && s.lqEmpty x.1.res x.2) then 5
  else 0

/-- Count a reason and set its event bit (R207). -/
def State.countSkip (s : State) (r : Nat) : State :=
  match r with
  | 1 => (s.bump F.TA_CNT_HALT_HALT).raise F.TA_EVT_HALT
  | 2 => (s.bump F.TA_CNT_GATED_GATED).raise F.TA_EVT_GATED
  | 3 => (s.bump F.TA_CNT_NORES_NORES).raise F.TA_EVT_NORES
  | 4 => (s.bump F.TA_CNT_PORT_DOWN_PORT_DOWN).raise F.TA_EVT_PORT_DOWN
  | 5 => (s.bump F.TA_CNT_LQ_EMPTY_LQ_EMPTY).raise F.TA_EVT_LQ_EMPTY
  | _ => s

/-- The falling edge of a pulse of width `w` that rose at raw time `r` (R216): ARG later on the entry's scale. -/
def State.pulseEnd (s : State) (raw : Bool) (r : Raw) (w : Nat) : Raw :=
  let flat : Raw := r + (roundEven ((w * 25 : Nat) : Int) 4096).toNat
  match s.liveEpoch with
  | some e => if raw then flat else (e.invert (e.convert r + w)).toNat
  | none => flat

/-- Perform a part other than a LAUNCH at raw time `r` (R201). -/
def State.doPart (s : State) (x : LaterPart) (r : Raw) : State :=
  let p := x.part
  let raw := x.occ.entry.raw
  if p.op = opEdgeHi then s.placeEdge p.res true r
  else if p.op = opEdgeLo then s.placeEdge p.res false r
  else if p.op = opToggle then s.placeEdge p.res (!s.on F.TA_TIO_CTRL_LEVEL p.res) r
  else if p.op = opPulse then
    let s := s.placeEdge p.res true r
    let f : Fall := ⟨p.res, s.pulseEnd raw r p.arg, x.occ.index, x.ix⟩
    { s with ta := { s.ta with falls := insertFall f s.ta.falls } }
  else if p.op = opTrainStart then
    s.trainStart p.res r (if raw || decide (x.shift ≠ 0) then none else some (partInstant x.occ p))
  else if p.op = opTrainStop then s.trainStop p.res r
  else s

/-- Count a late occurrence, executed or skipped (R206). -/
def State.countLate (s : State) : State := (s.bump F.TA_CNT_LATE_LATE).raise F.TA_EVT_LATE

/-- A LAUNCH part in the slot captured as `st` (R206, R208, R211, R213). R206 applies to one that is not the earliest of its
occurrence as it goes: where it misses its slot it is late, and with LATE = SKIP it is not sent. DESIGN CHOICE (assumption 29): the spec
does not say what becomes of that part, nor of one whose egress has stopped forwarding since its occurrence was tested; it consumes its
head frame, and the occurrence's other parts stand. -/
def State.doLaunch (s : State) (x : LaterPart) (first : Bool) (r : Raw) (st : Stamp) : State :=
  let q := x.part.res
  let miss := !first && !x.late && s.launchLate q r st
  let s := if miss then s.countLate.tally 20 1 else s
  if (miss && !x.occ.entry.lateNow) || !s.forwarding (q / 4) (s.lqSide q) then s.lqConsume q x.got else s.launch q x.got st

/-- The part acts at raw time `r`; a LAUNCH takes the next of the captured slots `tx`, and waits where there is none. -/
def State.actPart (s : State) (x : LaterPart) (first : Bool) (r : Raw) (tx : List Stamp) : State × List Stamp :=
  if x.part.op = opLaunch then
    match tx with
    | st :: t => (s.doLaunch x first r st, t)
    | [] => ({ s with ta := { s.ta with later := s.ta.later ++ [x] } }, [])
  else (s.doPart x r, tx)

/-- Order of raw time, then part index (R208). -/
def State.insertPart (s : State) (x : LaterPart) : List LaterPart → List LaterPart
  | [] => [x]
  | y :: t => if dueBefore (s.laterRaw x, 0, x.ix) (s.laterRaw y, 0, y.ix) then x :: y :: t else y :: s.insertPart x t

/-- The parts of an occurrence that do something, in order of execution. -/
def State.partsOf (s : State) (g : Staged) (late : Bool) (shift : Int) : List LaterPart :=
  (g.parts.zipIdx.filter (fun x => decide (x.1.1.op ≠ opNone))).foldl
    (fun l x => s.insertPart ⟨g, x.2, x.1.1, x.1.2, late, shift⟩ l) []

/-- The parts of an executed occurrence at raw time `now`, in order: one due by now acts, another waits for its raw time (R205). The
first of the list is the earliest; as a LAUNCH it takes the slot that was captured for it. -/
def State.takeParts (s : State) (now : Raw) (tx : List Stamp) : Bool → List LaterPart → State × List Stamp
  | _, [] => (s, tx)
  | first, x :: t =>
    let r := s.laterRaw x
    let y := if r ≤ now || (first && x.part.op = opLaunch && !tx.isEmpty) then s.actPart x first r tx else ({ s with ta := { s.ta with later := s.ta.later ++ [x] } }, tx)
    y.1.takeParts now y.2 false t

/-- The LAUNCH parts of a skipped occurrence consume their head frames, and each of its queues counts one skip (R213, R231). -/
def State.skipLaunches (s : State) (g : Staged) : State :=
  let l := g.parts.filter (fun x => x.1.op = opLaunch && decide (x.1.res < 128))
  let s := (l.map (fun x => x.1.res)).eraseDups.foldl (fun (s : State) q => s.bump F.TA_LQ_SKIP_SKIP q) s
  l.foldl (fun (s : State) x => s.lqConsume x.1.res x.2) s

/-- How far the earliest part of a late occurrence acts after its raw time `due`, at `now` or, as a LAUNCH, in the slot captured: the
others keep their OFFSET relative to it (R206). -/
def State.lateShift (s : State) (g : Staged) (due now : Raw) (tx : List Stamp) : Int :=
  match earliestPart g, tx with
  | some e, st :: _ =>
    let n := e.res / 4
    let sd := s.lqSide e.res
    if e.op = opLaunch then max ((now : Int) - due) ((s.txStamp n sd st : Int) - s.slotFrom n sd st due) else (now : Int) - due
  | _, _ => (now : Int) - due

/-- Execute or skip one occurrence at raw time `now` (R206, R207); `tx` are the captures of the launch slots, in order of dispatch.
`force` makes it late with LATE = NOW (the ACT response, R251). -/
def State.execute (s : State) (g : Staged) (now : Raw) (tx : List Stamp) (force : Bool) : State × List Stamp :=
  let due := s.dueRaw g
  let late := force || decide (due < now)
    || (match earliestPart g, tx with
        | some e, st :: _ => e.op = opLaunch && s.launchLate e.res due st
        | _, _ => false)
  let r0 := s.skipReason g
  let reason := if r0 ≠ 0 then r0 else if late && !(force || g.entry.lateNow) then 6 else 0
  let s := if late then s.countLate else s
  let s := if late || reason ≠ 0 then s.tally 20 1 else s
  let s := s.countSkip reason
  let y := if reason = 0 then s.takeParts now tx true (s.partsOf g late (if late then s.lateShift g due now tx else 0))
    else (s.skipLaunches g, tx)
  let s := if reason = 0 then y.1.bump F.TA_CNT_OCCUR_OCCUR else y.1
  let tgt : Int := if g.entry.raw then s.zt g.target.toNat else g.target
  let s := if g.entry.evt then s.postEvent (s.get F.TA_CTRL_EV_RING) 0x09 0 0
      (le 2 g.index ++ [BitVec.ofNat 8 reason, BitVec.ofNat 8 (b2n late)] ++ le 4 g.countAfter ++ ztBytes tgt) else s
  (if g.last then s.postEnd g.index g.entry 0 else s, y.2)

/-- The place in the order of R208 of a part still to come. -/
def State.laterDue (s : State) (x : LaterPart) : Raw × Nat × Nat := (s.laterRaw x, x.occ.index, x.ix)

/-- The part still to come that is first in the order of R208 and due by raw time `now`, with its place in the list; a LAUNCH only where
`slots`, a captured slot, is there. -/
def State.laterPick (s : State) (now : Raw) (slots : Bool) : Option ((Raw × Nat × Nat) × Nat) :=
  s.ta.later.zipIdx.foldl (fun (o : Option ((Raw × Nat × Nat) × Nat)) x =>
    let k := s.laterDue x.1
    if now < k.1 || (x.1.part.op = opLaunch && !slots) then o
    else match o with
      | none => some (k, x.2)
      | some (u, _) => if dueBefore k u then some (k, x.2) else o) none

/-- The part at place `i` of those still to come acts. One that a step forward has put into the past is late (R205). DESIGN CHOICE
(assumption 29): the spec does not say what becomes of such a part of an occurrence whose earliest part has acted; with LATE = NOW it
acts at the step, with LATE = SKIP not at all, and a LAUNCH consumes its head frame. -/
def State.runLater (s : State) (r : Raw) (i : Nat) (tx : List Stamp) : State × List Stamp :=
  match s.ta.later[i]? with
  | none => (s, tx)
  | some x =>
    let past := (s.laterAt x).2 && !x.late
    let s : State := { s with ta := { s.ta with later := s.ta.later.eraseIdx i } }
    let s := if past then s.countLate.tally 20 1 else s
    if past && !x.occ.entry.lateNow then ((if x.part.op = opLaunch then s.lqConsume x.part.res x.got else s), tx)
    else s.actPart { x with late := x.late || past } false r tx

/-- The falling edge of a pulse that comes first is made (R216). -/
def State.runFall (s : State) : State :=
  match s.ta.falls with
  | [] => s
  | f :: t => ({ s with ta := { s.ta with falls := t } }).placeEdge f.ball false f.raw

/-- Due by `now` and, where an occurrence waits for its execution, before it. -/
def dueFirst (now : Raw) (bound : Option (Raw × Nat × Nat)) (k : Raw × Nat × Nat) : Bool :=
  decide (k.1 ≤ now) && (match bound with
    | some b => dueBefore k b
    | none => true)

/-- Falling edges of pulses and parts still to come that are due by raw time `now` and before `bound`, in the order of R208, at most the
given number. -/
def State.runDue (s : State) (now : Raw) (bound : Option (Raw × Nat × Nat)) (tx : List Stamp) : Nat → State × List Stamp
  | 0 => (s, tx)
  | k + 1 =>
    let p := (s.laterPick now (!tx.isEmpty)).filter (fun x => dueFirst now bound x.1)
    let f := s.ta.falls.head?.filter (fun f => dueFirst now bound f.due)
    match p, f with
    | none, none => (s, tx)
    | none, some _ => s.runFall.runDue now bound tx k
    | some (u, i), f =>
      if f.any (fun f => dueBefore f.due u) then s.runFall.runDue now bound tx k
      else
        let y := s.runLater u.1 i tx
        y.1.runDue now bound y.2 k

/-- All of them. -/
def State.runBefore (s : State) (now : Raw) (bound : Option (Raw × Nat × Nat)) (tx : List Stamp) : State × List Stamp :=
  s.runDue now bound tx (2 * s.ta.later.length + s.ta.falls.length)

/-- The committed occurrence whose earliest part is due first by raw time `now`, and its place in the order of R208. -/
def State.duePick (s : State) (now : Raw) : Option ((Raw × Nat × Nat) × Nat) :=
  s.ta.stage.zipIdx.foldl (fun (o : Option ((Raw × Nat × Nat) × Nat)) x =>
    let k := (s.dueRaw x.1, x.1.index, 0)
    if now < k.1 then o
    else match o with
      | none => some (k, x.2)
      | some (u, _) => if dueBefore k u then some (k, x.2) else o) none

/-- What is due by raw time `now` without a launch slot, up to the first committed occurrence that is due. -/
def State.runPending (s : State) (now : Raw) : State := (s.runBefore now ((s.duePick now).map Prod.fst) []).1

/-- Take one occurrence out of the firing stage and execute it at raw time `now`, after what is due before it; then what is due by now
before the next one. -/
def State.fireOne (s : State) (now : Raw) (tx : List Stamp) : State :=
  match s.duePick now with
  | none => (s.runBefore now none tx).1
  | some (k, i) =>
    match s.ta.stage[i]? with
    | none => s
    | some g =>
      let y := s.runBefore now (some (now, k.2)) tx
      let s := { y.1 with ta := { y.1.ta with stage := y.1.ta.stage.eraseIdx i } }
      let s := s.set F.TA_STATUS_STAGE s.ta.stage.length
      let y := s.execute g now y.2 false
      (y.1.runBefore now ((y.1.duePick now).map (fun x => (now, x.1.2))) y.2).1

/-- The ACT response (R251): the next occurrence of an armed entry executes at once, late with LATE = NOW; its LAUNCH parts go with the
next captured slots. False where the entry is not armed; one that cannot be read is skipped as at a commitment (R386). -/
def State.act (s : State) (i : Nat) : Bool × State :=
  let a := s.action i
  let r := s.readWords (actionKey i) 4
  if !a.valid then (false, s)
  else if r.1 then (true, r.2.skipUnreadable i a)
  else
    let s := r.2
    let b := a.begun
    let g : Staged := ⟨i, a, a.targetOf a.k, b.count, !b.valid, s.reserve a.parts⟩
    (true, (((s.updateAction i b).countArmed).execute g s.raw [] true).1)

/-! ### Capture (R219 to R221) -/

/-- A capture unit. -/
def State.cu (s : State) (k : Nat) : CapUnit := Store.get ⟨[], 0, 0, 0, none⟩ s.ta.cus k

/-- Replace it, with its FILL. -/
def State.setCu (s : State) (k : Nat) (x : CapUnit) : State :=
  ({ s with ta := { s.ta with cus := Store.set ⟨[], 0, 0, 0, none⟩ s.ta.cus k x } }).set F.TA_CU_STAT_FILL x.fifo.length k

/-- EDGE of a unit; 0 acts as 1. -/
def State.cuEdge (s : State) (k : Nat) (rising : Bool) : Bool :=
  let e := s.eff F.TA_CU_CTRL_EDGE k
  if rising then e.testBit 0 else e.testBit 1

/-- One edge for one unit: counted, lost within 8 ns of the edge before or with a full FIFO, delivered to the FIFO once per DIV
edges (R219, R221); lost too while its ball's input is blind (R329). -/
def State.cuTake (s : State) (k : Nat) (rising : Bool) (r : Raw) (blind : Bool := false) : State :=
  let x := s.cu k
  let seq := (x.seq + 1) % 65536
  let lose (s : State) : State :=
    ((((s.setCu k { x with seq := seq, lost := satAdd 16 x.lost 1 }).bump F.TA_CU_STAT_LOST k).raise F.TA_EVT_CAP_LOST).tally 21 1)
  let near := match x.lastRaw with
    | some l => decide (r < l + 3200)
    | none => false
  if near || blind then lose s
  else if x.phase ≠ 0 then
    s.setCu k { x with seq := seq, phase := (x.phase + 1) % s.eff F.TA_CU_DIV_DIV k, lastRaw := some r }
  else if 64 ≤ x.fifo.length then lose s
  else
    s.setCu k { x with fifo := x.fifo ++ [⟨rising, seq, x.lost, r⟩], seq := seq, lost := 0
                       phase := 1 % s.eff F.TA_CU_DIV_DIV k, lastRaw := some r }

/-- An edge at ball `n`, read by its DLL at `w` (R219, R220): corrected, skewed by the test block, offered to every unit that
takes it. -/
def State.captureEdge (s : State) (n : Nat) (rising : Bool) (w : Raw) : State :=
  let r := (s.calCapture (8 + n) (calTioIn n) true w + s.tioSkew n).toNat
  let mode := s.get F.TA_TIO_CTRL_MODE n
  let s := if mode = 1 then s.put F.TA_TIO_CTRL_LEVEL (rising != s.on F.TA_TIO_CTRL_INV n) n else s
  if mode = 0 then s
  else (List.range 16).foldl (fun (s : State) k =>
    if s.on F.TA_CU_CTRL_EN k && decide (s.get F.TA_CU_CTRL_SRC k = n) && s.cuEdge k rising then s.cuTake k rising r (s.tioBlind n w) else s) s

/-- Entries that ring `r` can still take. -/
def State.ringRoom (s : State) (r : Nat) : Nat :=
  if s.ringFull r then 0
  else
    let n := s.ringSize r
    (Store.get 0 s.hif.swPtr r % n + n - s.get F.HIF_RING_PTR_DEVPTR r % n + n - 1) % n

/-- Unit `k` has a record that its event ring can take whole (R221, R366). -/
def State.cuReady (s : State) (k : Nat) : Bool :=
  s.on F.TA_CU_CTRL_EN k && !(s.cu k).fifo.isEmpty
    && decide ((if s.on F.TA_CU_CTRL_CONV k then 2 else 1) ≤ s.ringRoom (128 + s.get F.TA_CU_CTRL_RING k))

/-- Deliver one record of unit `k` (R220, R365), with CONV under the epoch in force at its raw time; where none was, the edge was captured
in COLD and the conversion is zeros. -/
def State.cuDeliver (s : State) (k : Nat) : State :=
  match (s.cu k).fifo with
  | [] => s
  | c :: t =>
    let x := s.cu k
    let ring := s.get F.TA_CU_CTRL_RING k
    let s := { s.setCu k { x with fifo := t } with ta := { (s.setCu k { x with fifo := t }).ta with cuTurn := k } }
    let s := s.postEvent ring 0x01 (b2n c.rising) k (rawBytes c.raw ++ le 2 c.seq ++ le 2 c.lost)
    let s := s.bump F.TA_CU_DELIV_DELIV k
    if s.on F.TA_CU_CTRL_CONV k then
      match slotAt c.raw s.tb.hist with
      | none => s.postEvent ring 0x02 0 k []
      | some h => s.postEvent ring 0x02 0 k (ztBytes (h.pub.convert c.raw) ++ le 2 h.pub.gen ++ [BitVec.ofNat 8 h.pub.state])
    else s

/-- One turn of the round robin (R221). -/
def State.captureTurn (s : State) : State :=
  match (List.range 16).find? (fun i => s.cuReady ((s.ta.cuTurn + 1 + i) % 16)) with
  | some i => s.cuDeliver ((s.ta.cuTurn + 1 + i) % 16)
  | none => s

/-! ### Disabling what holds a claim (R209, R215, R219, R225) -/

/-- A ball no longer selects generator `k`: its claim ends with the last ball that does. -/
def State.dropPg (s : State) (k : Nat) : State := if (s.pgBall k).isNone then s.release (claimPg k) else s

/-- A ball goes to MODE 0: high impedance, the claim released, and with it the generator it had selected. -/
def State.tioOff (s : State) (n : Nat) : State :=
  let was := s.get F.TA_TIO_CTRL_MODE n
  let s := s.set F.TA_TIO_CTRL_MODE 0 n
  let s := if was = 3 then s.dropPg (s.get F.TA_TIO_CTRL_PGSEL n) else s
  s.release (claimTio n)

/-- A capture unit stops and its records are discarded (R219). -/
def State.cuOff (s : State) (k : Nat) : State :=
  ((s.lower F.TA_CU_CTRL_EN k).setCu k { s.cu k with fifo := [] }).release (claimCu k)

/-- A launch queue is disabled: uncommitted frames discarded, the claim released (R209). -/
def State.lqOff (s : State) (q : Nat) : State :=
  ((s.lower F.TA_LQ_CTRL_EN q).lqDiscard q true).2.release (claimLq q)

/-- Disable the feature that holds a resource, whoever owns it (R225): MODE or EN becomes 0, a reservation 0; a period generator is
held by the balls that select it. -/
def State.disableHolder (s : State) (i : Nat) : State :=
  if i < 16 then s.tioOff i
  else if i < 24 then s.ckoOff (i - 16)
  else if i < 40 then ((s.pgBalls (i - 24)).foldl (fun (s : State) n => s.tioOff n) s).release i
  else if i < 56 then s.cuOff (i - 40)
  else if i < 184 then s.lqOff (i - 56)
  else if i < 216 then ((s.lower F.STR_CTRL_EN (i - 184)).reviewEnable (i - 184)).release i
  else (s.setResv (i - 216) 0).release i

/-- TA_CLAIM_BREAK (R225): the holder is disabled, TA_CLAIM_BROKEN is posted and the recorder triggered. -/
def State.breakClaim (s : State) (i : Nat) : State :=
  let o := s.owner i
  let s := (s.disableHolder i).postMain (s.get F.TA_CTRL_EV_RING) 0x0B 0 0 [BitVec.ofNat 8 i, BitVec.ofNat 8 o]
  s.recTrigger trClaimBroken (o + 256 * i)

end Sys2Proof.Machine
end

