-- ==== Sys2Proof/Machine/AtollOps.lean ====
section
/-!
DEFINITION. The Atoll's own operations (R233 to R257): the oscillator and its trim, the seconds counter, the calendar, alarms,
the learned table and the backup log. What a union does is in MonitorOps.lean.
-/
namespace Sys2Proof.Machine

/-! ### The backup log (R257) -/

/-- Operating state: 0 MAIN, 1 STANDBY, 2 BATTERY (R235). -/
def State.ost (s : State) : Nat := if s.on F.AT_STAT_MAIN then 0 else if s.on F.AT_STAT_SRC then 2 else 1

/-- The TAI seconds counter. -/
def State.tai (s : State) : Nat := s.get F.AT_TAI_TAI

/-- Write a backup log entry: the oldest unimported entry of a full log is overwritten and counted. -/
def State.logEntry (s : State) (kind detail : Nat) : State :=
  let h := s.get F.AT_LOG_PTR_HEAD
  let e := s.tai % 2 ^ 36 + 2 ^ 36 * s.get F.AT_STAT_TIME_VALID + 2 ^ 37 * s.ost + 2 ^ 39 * kind + 2 ^ 42 * (detail % 2 ^ 22)
  let s := (s.set F.AT_LOG_ENTRY e h).set F.AT_LOG_PTR_HEAD (h + 1)
  if s.get F.AT_LOG_PTR_NEW ≥ 64 then s.bump F.AT_LOG_PTR_OVF else s.incr F.AT_LOG_PTR_NEW

abbrev logSource : Nat := 1
abbrev logSupply : Nat := 2
abbrev logTime : Nat := 3
abbrev logKey : Nat := 4

/-- A TIME entry: code and signed change in ms, saturating in 18 bits. -/
def State.logTimeEntry (s : State) (code : Nat) (ms : Int) : State :=
  s.logEntry logTime (code + 16 * toBits 18 (clampInt (-131072) 131071 ms))

/-! ### Oscillator and trim (R236) -/

/-- AT_TRIM. -/
def State.trim (s : State) : Int := s.int F.AT_TRIM_TRIM

/-- ACC and the prescaler's extra counts after `n` untrimmed cycles: insertions for a positive trim, removals for a negative. -/
def trimRun (acc trim : Int) (n : Nat) : Int × Int :=
  let x := acc + trim * n
  let m : Int := 2 ^ 26
  if 0 ≤ trim then
    let k := if x < m then 0 else x / m
    (x - k * m, k)
  else
    let k := if -m ≤ x then 0 else -(x / m) - 1
    (x + k * m, -k)

/-! ### Calendar (R247, R248) -/

/-- Year, month and day of a day number since 1970-01-01, Gregorian. -/
def civil (days : Nat) : Nat × Nat × Nat :=
  let z := days + 719468
  let era := z / 146097
  let doe := z % 146097
  let yoe := (doe - doe / 1460 + doe / 36524 - doe / 146096) / 365
  let doy := doe - (365 * yoe + yoe / 4 - yoe / 100)
  let mp := (5 * doy + 2) / 153
  let d := doy - (153 * mp + 2) / 5 + 1
  let m := if mp < 10 then mp + 3 else mp - 9
  ((yoe + era * 400) + (if m ≤ 2 then 1 else 0), m, d)

/-- Show a UTC second in the calendar registers; `leap` shows the second after it as second 60 of its minute. -/
def State.showCalendar (s : State) (u : Nat) (leap : Bool) : State :=
  let days := u / 86400
  let t := u % 86400
  let (y, m, d) := civil days
  let s := ((((s.set F.AT_CAL_DATE_DAY d).set F.AT_CAL_DATE_WDAY ((days + 3) % 7)).set F.AT_CAL_DATE_MONTH m).set
    F.AT_CAL_DATE_YEAR y)
  ((s.set F.AT_CAL_TIME_SEC (t % 60 + b2n leap)).set F.AT_CAL_TIME_MIN (t / 60 % 60)).set F.AT_CAL_TIME_HOUR (t / 3600)

/-- The calendar fields read 0. -/
def State.blankCalendar (s : State) : State :=
  s.clearAll 0 [F.AT_CAL_DATE_DAY, F.AT_CAL_DATE_WDAY, F.AT_CAL_DATE_MONTH, F.AT_CAL_DATE_YEAR, F.AT_CAL_TIME_SEC,
    F.AT_CAL_TIME_MIN, F.AT_CAL_TIME_HOUR]

/-- Calendar registers and CAL_RANGE for the counter as it stands (R248). -/
def State.calendar (s : State) : State :=
  if !s.on F.AT_STAT_TIME_VALID then (s.blankCalendar).lower F.AT_STAT_CAL_RANGE
  else
    let u : Int := (s.tai : Int) - s.int F.AT_UTC_OFS
    let leap := s.on F.AT_STAT_UTC_PEND && decide (s.int F.AT_UTC_NEXT = s.int F.AT_UTC_OFS + 1)
      && decide (s.tai + 1 = s.get F.AT_UTC_AT_AT)
    if 7258118400 ≤ u then (s.blankCalendar).raise F.AT_STAT_CAL_RANGE
    else if u < 0 then (s.blankCalendar).lower F.AT_STAT_CAL_RANGE
    else (s.showCalendar (if leap then u.toNat - 1 else u.toNat) leap).lower F.AT_STAT_CAL_RANGE

/-- LEAP61 and LEAP59 in the 86,400 s before a scheduled change (R247). -/
def State.leapFlags (s : State) : State :=
  let near := s.on F.AT_STAT_UTC_PEND && decide (s.tai < s.get F.AT_UTC_AT_AT) && decide (s.get F.AT_UTC_AT_AT ≤ s.tai + 86400)
  let d := s.int F.AT_UTC_NEXT - s.int F.AT_UTC_OFS
  (s.put F.AT_STAT_LEAP61 (near && decide (d = 1))).put F.AT_STAT_LEAP59 (near && decide (d = -1))

/-- A scheduled UTC change falls due (R247). -/
def State.utcChange (s : State) : State :=
  if s.on F.AT_STAT_UTC_PEND && decide (s.get F.AT_UTC_AT_AT ≤ s.tai) then
    let d := s.int F.AT_UTC_NEXT - s.int F.AT_UTC_OFS
    ((s.set F.AT_UTC_OFS (s.get F.AT_UTC_NEXT)).lower F.AT_STAT_UTC_PEND).logTimeEntry 3 (1000 * d)
  else s

/-! ### Unions: joining (R289, R291) -/

abbrev rLog : Nat := 1
abbrev rInt : Nat := 2
abbrev rWake : Nat := 4
abbrev rTaint : Nat := 8
abbrev rReset : Nat := 16
abbrev rShutdown : Nat := 32
abbrev rZeroize : Nat := 64
abbrev rPowerOn : Nat := 128
abbrev rAct : Nat := 256

/-- A member joins the union that is being collected, with its responses. -/
def State.joinUnion (s : State) (member resp : Nat) : State :=
  { s with ato := { s.ato with members := s.ato.members ||| 2 ^ member, resp := s.ato.resp ||| resp } }

/-! ### Alarms (R249, R250) -/

/-- ALn fires: FIRED, its sticky flag, its responses; a single alarm is disarmed. -/
def State.fireAlarm (s : State) (n : Nat) (past : Bool) : State :=
  let r := s.get F.AT_AL_CTRL_RESP n
  let s := s.set F.AT_AL_STAT_FIRED (s.get F.AT_AL_STAT_FIRED ||| 2 ^ n)
  let s := if past then s.set F.AT_AL_STAT_PAST (s.get F.AT_AL_STAT_PAST ||| 2 ^ n) else s
  let s := s.set F.MON_STICKY_AL (s.get F.MON_STICKY_AL ||| 2 ^ n)
  let s := s.joinUnion (8 + n) r
  let s := if r.testBit 8 then { s with ato := { s.ato with actIdx := s.ato.actIdx ++ [s.get F.AT_AL_CTRL_ACT_IDX n] } } else s
  if s.get F.AT_AL_REP_REP n = 0 then s.lower F.AT_AL_CTRL_EN n else s

/-- The first future match: the match advanced by whole multiples of REP (R250). -/
def State.advanceMatch (s : State) (n : Nat) : State :=
  let m := s.get F.AT_AL_TIME_TIME n
  let r := s.get F.AT_AL_REP_REP n
  if r = 0 || s.tai < m then s else s.set F.AT_AL_TIME_TIME (m + r * ((s.tai - m) / r + 1)) n

/-- ALn is to fire at the next second edge with PAST, or no longer. -/
def State.setPast (s : State) (n : Nat) (b : Bool) : State :=
  let p := s.ato.past
  { s with ato := { s.ato with past := if b then p ||| 2 ^ n else if p.testBit n then p - 2 ^ n else p } }

/-- An alarm when EN is set or cleared (R250): one whose match is not in the future fires with PAST, or its match advances. -/
def State.alarmPast (s : State) (n : Nat) : State :=
  let due := s.on F.AT_AL_CTRL_EN n && decide (s.get F.AT_AL_TIME_TIME n ≤ s.tai)
  let once := decide (s.get F.AT_AL_REP_REP n = 0)
  let s := s.setPast n (due && once)
  if due && !once then s.advanceMatch n else s

/-- The alarms after the counter was loaded or set; `old` is the count before, where it was valid (R250). A skipped match fires with
PAST; after a backward jump nothing fires until the next match. -/
def State.alarmsAfterLoad (s : State) (old : Option Nat) : State :=
  (List.range 4).foldl (fun (s : State) n =>
    let m := s.get F.AT_AL_TIME_TIME n
    let skipped := match old with
      | some o => decide (o < m) && decide (m ≤ s.tai)
      | none => false
    let forward := match old with
      | some o => decide (o ≤ s.tai)
      | none => false
    let fire := s.on F.AT_AL_CTRL_EN n && (skipped || (forward && s.ato.past.testBit n))
    let t := s.alarmPast n
    if s.get F.AT_AL_REP_REP n = 0 then t else t.setPast n fire) s

/-- The alarms at a second edge (R249). -/
def State.alarmsAtSecond (s : State) : State :=
  if !s.on F.AT_STAT_TIME_VALID then s
  else
    let past := s.ato.past
    let s := { s with ato := { s.ato with past := 0 } }
    (List.range 4).foldl (fun (s : State) n =>
      if !s.on F.AT_AL_CTRL_EN n then s
      else if past.testBit n || decide (s.get F.AT_AL_TIME_TIME n = s.tai) then
        let m := s.get F.AT_AL_TIME_TIME n
        let t := s.fireAlarm n (past.testBit n)
        if m = s.tai then t.set F.AT_AL_TIME_TIME (m + s.get F.AT_AL_REP_REP n) n else t
      else s) s

/-! ### The counter (R236, R244, R245) -/

/-- One second edge: the counter advances, a scheduled UTC change falls due, alarms are evaluated, the calendar follows. -/
def State.secondEdge (s : State) : State :=
  let s := (s.set F.AT_TAI_TAI (s.tai + 1)).utcChange
  (s.alarmsAtSecond.leapFlags).calendar

/-- Write a table point from its word (R239). -/
def State.setPoint (s : State) (i w : Nat) : State :=
  ((s.set F.AT_TBL_E w i).set F.AT_TBL_N (w / 2 ^ 20) i).set F.AT_TBL_LEARNED (w / 2 ^ 28) i

/-- What crosses to the Atoll commits on the next 32 kHz edge (R23): a learning update and the ATEMP offset (R328); a later write from X2
meets none of the X6 writes before it (R25). -/
def State.commitX2 (s : State) : State :=
  let t : State := { s with ato := { s.ato with learnt := none, x6 := [], atempOfs := s.ato.atempNext.getD s.ato.atempOfs, atempNext := none } }
  match s.ato.learnt with
  | some (i, w) =>
    let t := t.setPoint i w
    { t with ato := { t.ato with changed := true, lost := if t.ato.lost.testBit i then t.ato.lost - 2 ^ i else t.ato.lost } }
  | none => t

/-- `n` untrimmed cycles pass (R236): ACC, the prescaler, and a second edge at every wrap. -/
def State.atollRun (s : State) (n : Nat) : State :=
  let s := if n = 0 then s else s.commitX2
  let r := trimRun s.ato.acc s.trim n
  let p := (s.get F.AT_SUBSEC_CYC : Int) + n + r.2
  let s := { s.set F.AT_SUBSEC_CYC (p % 32768).toNat with ato := { (s.set F.AT_SUBSEC_CYC (p % 32768).toNat).ato with acc := r.1 } }
  (List.range (p / 32768).toNat).foldl (fun s _ => s.secondEdge) s

/-- Elapsed time of the counter in 2^-16 ns, exact numerator over 2^26: seconds, cycles of 2 * 10^9 units, and the ACC
fraction (R258). -/
def State.atollTime26 (s : State) : Int :=
  ((s.tai : Int) * 65536000000000) * 2 ^ 26 + ((s.get F.AT_SUBSEC_CYC : Int) * 2 ^ 26 + s.ato.acc) * 2000000000

/-- Set the counter to a time in 2^-16 ns: seconds, the cycle count, and ACC for the rest, displaced by `skew` units of
2^-26 cycle. -/
def State.setCounter (s : State) (t : Int) (skew : Int) : State :=
  let x := t * 2 ^ 26 / 2000000000 + skew
  let c := x / 2 ^ 26
  let s := s.set F.AT_TAI_TAI (c / 32768).toNat
  { s.set F.AT_SUBSEC_CYC (c % 32768).toNat with ato := { s.ato with acc := x % 2 ^ 26 } }

/-- What follows a load or AT_SET_TIME: TIME_VALID, CELL_LOSS and the mark of R288 clear, alarms and calendar follow. -/
def State.counterSet (s : State) (old : Option Nat) : State :=
  let s := ((s.raise F.AT_STAT_TIME_VALID).lower F.AT_STAT_CELL_LOSS).lower F.MON_AT_STAT_CAL_INV
  ((s.utcChange.alarmsAfterLoad old).leapFlags).calendar

/-- The count before a load, where it was valid. -/
def State.validTai (s : State) : Option Nat := if s.on F.AT_STAT_TIME_VALID then some s.tai else none

/-- Discipline at a second edge captured at raw time `edge` (R245). The place within the half cycle that a load leaves is free. -/
def State.discipline (s : State) (edge : Raw) : State :=
  if s.mainUp && s.on F.AT_CTRL_DISC_EN && s.tbState = tbLocked then
    let t := s.zt edge
    let phi := s.atollTime26 - t * 2 ^ 26
    -- |phi| above one cycle, 30.52 us; a wrong count of seconds is such a phase error
    let far := decide ((30520 * 65536 : Int) * 2 ^ 26 < phi.natAbs)
    if far then
      let old := s.validTai
      let before := s.tai
      let was := s.atollTime26
      let (r, s) := s.free
      let s := s.setCounter t ((r % (2 ^ 26 + 1) : Nat) - 2 ^ 25)
      let moved := s.atollTime26 - was
      let s := { s with ato := { s.ato with loadAt := some edge } }
      let s := s.counterSet old
      if before ≠ s.tai || decide ((61040 * 65536 : Int) * 2 ^ 26 < moved.natAbs)
      then s.logTimeEntry 1 (moved / (2 ^ 26 * 65536 * 1000000)) else s
    else s
  else s

/-! ### Temperature table (R238 to R242); temperatures in units of 1/1,008 degree -/

/-- Point temperature T_i. -/
def pointTemp (i : Nat) : Int := -40320 + 2640 * i

/-- Denominator of the exact values below: they are in units of 2^-30 / tableDen. -/
abbrev tableDen : Int := 1008 * 1008 * 10000000000

/-- The factory curve F(T) (R238) in units of 2^-30 / tableDen. -/
def State.factory (s : State) (t : Int) : Int :=
  let x := t - 1008 * s.int F.AT_FCURVE_T0
  (100 * s.int F.AT_FCURVE_F0 * 1016064 - (s.get F.AT_FCURVE2_K : Int) * x * x) * 2 ^ 30

/-- V_i (R240). -/
def State.pointVal (s : State) (i : Nat) : Int :=
  if s.on F.AT_TBL_LEARNED i then s.int F.AT_TBL_E i * tableDen else s.factory (pointTemp i)

/-- AT_TRIM by the table rule for an uncorrected ATEMP reading in 1/16 degree (R240), and whether both points are learned. -/
def State.tableTrim (s : State) (atemp : Int) : Int × Bool :=
  let t := clampInt (-40320) 126000 (63 * atemp)
  let p := t + 40320
  let i := min 62 (p / 2640).toNat
  let r := p - 2640 * i
  let e := (2640 - r) * s.pointVal i + r * s.pointVal (i + 1)
  (clampInt (-32767) 32767 (-(roundEven e (2640 * tableDen * 16))), s.on F.AT_TBL_LEARNED i && s.on F.AT_TBL_LEARNED (i + 1))

/-- One learning measurement (R241) over a window converted to `dt` units of 2^-16 ns at mean ATEMP; the update goes to the Atoll over
X2. -/
def State.learn (s : State) (dt : Int) (atemp : Int) : State :=
  let t := 63 * atemp
  let f := s.factory t
  let y := roundEven ((524288000000000 - dt) * 2 ^ 30 * tableDen) dt
  let lim := roundEven (50 * 2 ^ 30 * tableDen) 1000000
  if lim < (y - f).natAbs then s
  else
    let i := (clampInt 0 63 (roundEven (t + 40320) 2640)).toNat
    let yi := y - (f - s.factory (pointTemp i))
    let e := if s.on F.AT_TBL_LEARNED i
      then s.int F.AT_TBL_E i + roundEven (yi - s.int F.AT_TBL_E i * tableDen) (16 * tableDen)
      else roundEven yi tableDen
    let n := satAdd 8 (s.get F.AT_TBL_N i) 1
    { s with ato := { s.ato with learnt := some (i, toBits 20 e + 2 ^ 20 * n + 2 ^ 28) } }

/-- A table point as its 32-bit word (R239). -/
def State.pointWord (s : State) (i : Nat) : Nat :=
  s.get F.AT_TBL_E i + 2 ^ 20 * s.get F.AT_TBL_N i + 2 ^ 28 * s.get F.AT_TBL_LEARNED i

/-- Every point loses what it learned (R243). -/
def State.clearTable (s : State) : State :=
  let s : State := { s with ato := { s.ato with lost := 0 } }
  (List.range 64).foldl (fun s i => s.setPoint i 0) s

/-! ### Retention words (R255) -/

/-- Flags that an uncorrectable word makes read 1. -/
def State.flagsOne (s : State) (l : List Fld) : State := l.foldl (fun (s : State) f => s.set f (2 ^ f.width - 1)) s

/-- A word of the control area is uncorrectable: the affected flags read 1, counters and pointers 0. DESIGN CHOICE (assumption 43): the
area's inner layout is not in the spec; the model takes its items in the order of R255, and the ID and check value of a slot descriptor,
neither flag nor counter, are free. -/
def State.controlLost (s : State) (w : Nat) : State :=
  if w < 4 then
    let (x, s) := s.free
    let (y, s) := s.free
    ((s.raise F.AT_KEY_VALID w).set F.AT_KEY_KEYID x w).set F.AT_KEY_KCV y w
  else if w = 4 then s.flagsOne [F.MON_STICKY_MS, F.MON_STICKY_AL]
  else if w = 5 then
    s.flagsOne [F.AT_RETAIN_LOGFAIL, F.AT_RETAIN_COLLAPSE, F.AT_RETAIN_TBL_RESTORED, F.AT_RETAIN_KEY_ERR, F.AT_RETAIN_UNL_USED]
  else if w = 6 then
    s.flagsOne [F.AT_DEFER_INT, F.AT_DEFER_RESET, F.AT_DEFER_TAINT, F.AT_DEFER_ACT, F.AT_DEFER_MOOT, F.AT_DEFER_SRC]
  else if w < 9 then { s with ato := { s.ato with hb := 0 } }
  else if w = 9 then s.clearAll 0 [F.AT_LOG_PTR_HEAD, F.AT_LOG_PTR_NEW, F.AT_LOG_PTR_OVF]
  else s

/-- Word `w` of the retention RAM is uncorrectable (R255): its key slot is empty, its table point not learned, its log entry DAMAGED with
the word's other bits free. A word with one bit in error is corrected and needs no command. -/
def State.retentionLost (s : State) (w : Nat) : State :=
  if w < 32 then
    let k := w / 8
    let s := (s.clearAll k [F.AT_KEY_VALID, F.AT_KEY_KEYID, F.AT_KEY_KCV]).raise F.AT_RETAIN_KEY_ERR
    { s with ato := { s.ato with keys := Store.set [] s.ato.keys k [] } }
  else if w < 64 then s.controlLost (w - 32)
  else if w < 128 then
    let s := s.setPoint (w - 64) 0
    { s with ato := { s.ato with lost := s.ato.lost ||| 2 ^ (w - 64) } }
  else
    let j := (w - 128) / 2
    let (x, s) := s.free
    let e := s.get F.AT_LOG_ENTRY j
    let e := if w % 2 = 0 then e / 2 ^ 32 * 2 ^ 32 + x % 2 ^ 32 else e % 2 ^ 32 + x % 2 ^ 32 * 2 ^ 32
    s.set F.AT_LOG_ENTRY (e - bits e 39 3 * 2 ^ 39 + 7 * 2 ^ 39) j

/-! ### Keys (R256) -/

/-- Zeroize: key material and descriptors of all four slots, with a KEY entry naming them. -/
def State.zeroize (s : State) : State :=
  let s := (List.range 4).foldl (fun (s : State) i => s.clearAll i [F.AT_KEY_VALID, F.AT_KEY_KEYID, F.AT_KEY_KCV]) s
  { s with ato := { s.ato with keys := [] } }.logEntry logKey (15 + 16)

end Sys2Proof.Machine
end

