-- ==== Sys2Proof/Machine/Profiles.lean ====
section
/-!
DEFINITION. What the standby NVM holds (R394 to R397): sequencer programs and profiles, their checks, and the records of a
profile body. Loading is in Startup.lean.
-/
namespace Sys2Proof.Machine

/-! ### Sequencer programs (R265 to R267, R394) -/

/-- Byte address of sequencer program k. -/
def progAddr (k : Nat) : Nat := 0x100 + 0x200 * k

/-- Byte address of profile k. -/
def profAddr (k : Nat) : Nat := 0x1000 + 0xC00 * k

/-- Every code word of a byte range is correctable. -/
def Snvm.readable (v : Snvm) (addr len : Nat) : Bool :=
  (List.range ((len + 15) / 16)).all (fun i => !(Store.get false v.bad (addr / 16 + i)))

/-- Octets of the standby NVM. -/
def Snvm.bytes (v : Snvm) (addr len : Nat) : Bytes := v.data.readN addr len

/-- A value lies within limits. -/
def within (lo hi v : Nat) : Bool := decide (lo ≤ v) && decide (v ≤ hi)

/-- All octets are zero. -/
def allZero (b : Bytes) : Bool := b.all (fun x => decide (x = 0))

/-- A rail record (R266). -/
structure RailRec where
  ch : Nat
  onStep : Nat
  offStep : Nat
  flags : Nat
  good : Nat
  off : Nat
  dep : Nat
  deriving DecidableEq, Repr

/-- CLASS P. -/
def RailRec.isP (r : RailRec) : Bool := r.flags.testBit 0
/-- CORE. -/
def RailRec.core (r : RailRec) : Bool := r.flags.testBit 1

/-- Rail record k of a program image. -/
def railRec (p : Bytes) (k : Nat) : RailRec :=
  let o := 64 + 16 * k
  ⟨leAt p o 1, leAt p (o + 1) 1 % 16, leAt p (o + 1) 1 / 16, leAt p (o + 2) 1, leAt p (o + 4) 2, leAt p (o + 6) 2, leAt p (o + 8) 3⟩

/-- The rail records in use. -/
def railRecs (p : Bytes) : List RailRec := (List.range (leAt p 6 1)).map (railRec p)

/-- The header fields are in their ranges (R265). -/
def progHeaderOk (p : Bytes) : Bool :=
  decide (sub p 0 4 = [0x53, 0x51, 0x50, 0x47]) && decide (leAt p 4 2 = 1) && decide (leAt p 6 1 ≤ 24)
    && decide (leAt p 7 1 ≤ 1) && within 1 255 (leAt p 8 2) && within 1 1000 (leAt p 10 2) && within 1 255 (leAt p 12 1)
    && decide (leAt p 13 1 ≤ 7) && within 1 1000 (leAt p 14 2) && within 1 10000 (leAt p 16 2) && within 1 1000 (leAt p 18 2)
    && within 1 255 (leAt p 20 1) && within 1 15 (leAt p 21 1) && within 1 1000 (leAt p 22 2) && allZero (sub p 24 40)

/-- One rail record stands on its own: steps and thresholds in range, reserved bits zero, a CORE rail of class C (R266, R267). -/
def railOkRec (rails : Nat) (p : Bytes) (k : Nat) : Bool :=
  let r := railRec p k
  let o := 64 + 16 * k
  decide (r.ch < rails) && decide (1 ≤ r.onStep) && decide (1 ≤ r.offStep) && decide (r.flags < 16) && decide (leAt p (o + 3) 1 = 0)
    && decide (r.good < 1024) && decide (r.off < r.good) && allZero (sub p (o + 11) 5) && !(r.core && r.isP)

/-- No two records name one channel. -/
def distinctCh : List RailRec → Bool
  | [] => true
  | r :: t => t.all (fun x => decide (x.ch ≠ r.ch)) && distinctCh t

/-- No class P rail's DEP names a class C rail (R267). -/
def depOk (l : List RailRec) : Bool :=
  l.all (fun r => !r.isP || l.all (fun x => x.isP || !r.dep.testBit x.ch))

/-- Program k is valid (R267). Bytes 448 to 511 are reserved; a record beyond RAILS is not used. -/
def State.progOk (s : State) (k : Nat) : Bool :=
  let p := s.snvm.bytes (progAddr k) 512
  let n := leAt p 6 1
  s.snvm.readable (progAddr k) 512 && progHeaderOk p
    && (List.range n).all (railOkRec s.fuses.variant.rails p) && distinctCh (railRecs p) && depOk (railRecs p)
    && allZero (sub p 448 64)

/-! ### Profiles (R395 to R397) -/

/-- A record of a profile body (R396): word address, repetition, value words. -/
structure ProfRec where
  waddr : Nat
  rep : Nat
  vals : List Nat
  deriving DecidableEq, Repr

/-- The words of a byte string. -/
def words32 : Nat → Bytes → List Nat
  | 0, _ => []
  | n + 1, b => leAt b 0 4 :: words32 n (b.drop 4)

/-- Cut a body into records; none where the records do not fill it exactly or one has N = 0. Reserved header bits are kept in
`rep` above 3. -/
def parseRecs : Nat → List Nat → Option (List ProfRec)
  | _, [] => some []
  | 0, _ :: _ => none
  | fuel + 1, h :: t =>
    let n := h / 2 ^ 24
    if n = 0 || t.length < n then none
    else (parseRecs fuel (t.drop n)).map (⟨h % 2 ^ 19, bits h 19 5, t.take n⟩ :: ·)

/-- Stride of a repetition code. -/
def repStride (rep : Nat) : Nat := if rep = 1 then 0x1000 else if rep = 2 then 0x400 else 0x40

/-- A register write of a load: address and value. -/
abbrev LoadWrite := Nat × Nat

/-- The writes of one record without its repetition offset. -/
def ProfRec.writes (r : ProfRec) (ofs : Nat) : List LoadWrite :=
  r.vals.zipIdx.map (fun p => (4 * (r.waddr + p.2) + ofs, p.1))

/-- The writes of one record on a variant with `ports` bonded ports (R396). -/
def ProfRec.expand (r : ProfRec) (ports : Nat) : List LoadWrite :=
  if r.rep % 4 = 0 then r.writes 0 else (List.range ports).flatMap (fun n => r.writes (n * repStride (r.rep % 4)))

/-- A profile may address this register (R396). -/
def profAllowed (a : Nat) : Bool :=
  let b := a / 0x10000
  decide (a < 0x200000) &&
    (a = 0x10000 || a = 0x10004 || a = 0x10020 || b = 2 || b = 3 || b = 4 || b = 5 || b = 6 || b = 7 || b = 8 || b = 9 || b = 10
      || b = 11 || b = 15 || b = 16)

/-- The register at an address belongs to an unbonded port, ball or output (R4). -/
def Variant.unbondedAddr (v : Variant) (a : Nat) : Bool :=
  let ge (i n : Nat) : Bool := decide (n ≤ i)
  if 0x80000 ≤ a && a < 0xA0000 then ge ((a - 0x80000) / 0x1000) v.ports
  else if 0xA0000 ≤ a && a < 0xA8000 then ge ((a - 0xA0000) / 0x400) v.ports
  else if 0x61000 ≤ a && a < 0x61800 then ge ((a - 0x61000) / 0x40) v.ports
  else if 0x40100 ≤ a && a < 0x40200 then ge ((a - 0x40100) / 0x20) v.ckos
  else if 0x50100 ≤ a && a < 0x50200 then ge ((a - 0x50100) / 0x10) v.tios
  else if 0x51000 ≤ a && a < 0x51800 then ge ((a - 0x51000) / 0x40) v.ports
  else if 0xD0100 ≤ a && a < 0xD0280 then ge ((a - 0xD0100) / 0x10) v.rails
  else if 0x110100 ≤ a && a < 0x110180 then ge ((a - 0x110100) / 4) v.ports
  else if 0x110200 ≤ a && a < 0x110280 then ge ((a - 0x110200) / 4) v.ports
  else if 0x110300 ≤ a && a < 0x110340 then ge ((a - 0x110300) / 4) v.tios
  else if 0x100100 ≤ a && a < 0x100900 then ge ((a - 0x100100) / 0x40) v.ports
  else if 0x100900 ≤ a && a < 0x100980 then ge ((a - 0x100900) / 8) v.tios
  else if 0x101000 ≤ a && a < 0x10C000 then !v.dllBonded ((a - 0x101000) / 0x200)
  else if 0x1009A0 ≤ a && a < 0x1009C0 then ge ((a - 0x1009A0) / 4) v.ckos
  else if 0x52000 ≤ a && a < 0x523E0 then
    let i := (a - 0x52000) / 4
    if i < 16 then ge i v.tios else if i < 24 then ge (i - 16) v.ckos else if i < 56 then false
    else if i < 184 then ge ((i - 56) / 4) v.ports else if i < 216 then ge (i - 184) v.ports else ge (i - 216) v.ports
  else false

/-- Number of a variant in the PARTS mask. -/
def Variant.partBit : Variant → Nat
  | .zn4808 => 0
  | .zn4816 => 1
  | .zn4832 => 2

/-- Records of a profile image; none where the body's structure is wrong. -/
def profRecs (p : Bytes) : Option (List ProfRec) :=
  let n := leAt p 10 2
  if 704 < n then none else parseRecs (n + 1) (words32 n (p.drop 256))

/-- The reserved bits of every record header up to the first record that does not fit are zero, its own header's among them. -/
def headersOk : Nat → List Nat → Bool
  | _, [] => true
  | 0, _ :: _ => true
  | fuel + 1, h :: t =>
    let n := h / 2 ^ 24
    decide (bits h 21 3 = 0) && (n = 0 || decide (t.length < n) || headersOk fuel (t.drop n))

/-- Reserved content of a profile image is zero: header bits and bytes, the gaps, the body beyond NWORDS, record header bits. -/
def profReservedOk (p : Bytes) : Bool :=
  decide (leAt p 6 1 < 2) && decide (leAt p 7 1 < 16) && decide (leAt p 8 2 < 8) && allZero (sub p 32 32)
    && allZero (sub p 136 120) && allZero (p.drop (256 + 4 * min 704 (leAt p 10 2)))
    && headersOk 705 (words32 (min 704 (leAt p 10 2)) (p.drop 256))

/-- Image of profile k. -/
def State.profImage (s : State) (k : Nat) : Bytes := s.snvm.bytes (profAddr k) 3072

/-- The check of profile `k` reads a word that is being programmed: of its image, or of the sequencer program that it names (R397,
R401). -/
def State.profBusy (s : State) (k : Nat) : Bool :=
  match s.snvm.op with
  | none => false
  | some (w, _) =>
    let inside (a n : Nat) : Bool := decide (a ≤ 16 * w) && decide (16 * w < a + n)
    inside (profAddr k) 3072 || inside (progAddr (bits (leAt (s.profImage k) 7 1) 2 2)) 512

/-- The reason code of the first check of R397 that profile k fails; 0 where it is loadable. -/
def State.profCheck (s : State) (k : Nat) : Nat :=
  let p := s.profImage k
  let v := s.fuses.variant
  if !s.snvm.readable (profAddr k) 3072 then 1
  else if sub p 0 4 ≠ [0x5A, 0x4E, 0x50, 0x46] || leAt p 4 2 ≠ 1 || !profReservedOk p then 2
  else if !(leAt p 8 2).testBit v.partBit then 3
  else match profRecs p with
    | none => 4
    | some l =>
      if l.any (fun r => (r.expand v.ports).any (fun w => !profAllowed w.1)) then 5
      else if l.any (fun r => r.rep = 0 && (r.writes 0).any (fun w => v.unbondedAddr w.1)) then 6
      else if !s.progOk (bits (leAt p 7 1) 2 2) then 7
      else 0

end Sys2Proof.Machine
end

