-- ==== Sys2Proof/Machine/RegMap.lean ====
section
/-!
DEFINITION. The set-up register map of BAR0 (R413, R414, R419 to R434): every 32-bit register word, as slices of the fields
of Fields.lean. A word of a value wider than 32 bits carries its place among the _LO, _MID and _HI words (R14, R417).
-/
namespace Sys2Proof.Machine

/-- Registers of the GLB block (R413), part 0. -/
def regsGlb0 : List Reg :=
  [ ⟨0x0, 0x0, 1, none,
    [⟨F.ID_PART_PART, 0, 0, 16⟩]⟩,
    ⟨0x4, 0x0, 1, none,
    [⟨F.ID_REV_REV, 0, 0, 8⟩]⟩,
    ⟨0x8, 0x0, 1, (some (0, 2)),
    [⟨F.ID_LOT_LOT, 0, 0, 32⟩]⟩,
    ⟨0xc, 0x0, 1, (some (1, 2)),
    [⟨F.ID_LOT_LOT, 32, 0, 32⟩]⟩,
    ⟨0x10, 0x0, 1, none,
    [⟨F.ID_WAFER_WAFER, 0, 0, 5⟩]⟩,
    ⟨0x14, 0x0, 1, none,
    [⟨F.ID_DIE_X, 0, 0, 8⟩, ⟨F.ID_DIE_Y, 0, 8, 8⟩]⟩,
    ⟨0x18, 0x0, 1, (some (0, 2)),
    [⟨F.ID_SERIAL_SERIAL, 0, 0, 32⟩]⟩,
    ⟨0x1c, 0x0, 1, (some (1, 2)),
    [⟨F.ID_SERIAL_SERIAL, 32, 0, 32⟩]⟩,
    ⟨0x40, 0x0, 1, none,
    [⟨F.GLB_PROF_BALLS, 0, 0, 2⟩, ⟨F.GLB_PROF_STBY_PROF, 0, 2, 2⟩, ⟨F.GLB_PROF_LOAD_PROF, 0, 4, 2⟩, ⟨F.GLB_PROF_NEXT, 0, 6, 2⟩, ⟨F.GLB_PROF_FB, 0, 8, 1⟩, ⟨F.GLB_PROF_NONE, 0, 9, 1⟩, ⟨F.GLB_PROF_LOAD_FB, 0, 10, 1⟩, ⟨F.GLB_PROF_LOAD_ERR, 0, 11, 1⟩]⟩,
    ⟨0x80, 0x0, 1, none,
    [⟨F.GLB_SNVM_KEY_KEY, 0, 0, 16⟩]⟩,
    ⟨0x84, 0x0, 1, none,
    [⟨F.GLB_SNVM_ADDR_ADDR, 0, 0, 10⟩]⟩,
    ⟨0x88, 0x4, 4, none,
    [⟨F.GLB_SNVM_DATA_DATA, 0, 0, 32⟩]⟩,
    ⟨0x98, 0x0, 1, none,
    [⟨F.GLB_SNVM_CMD_PROG, 0, 0, 1⟩, ⟨F.GLB_SNVM_CMD_READ, 0, 1, 1⟩, ⟨F.GLB_SNVM_CMD_BUSY, 0, 8, 1⟩, ⟨F.GLB_SNVM_CMD_FAIL, 0, 9, 1⟩, ⟨F.GLB_SNVM_CMD_UNLOCKED, 0, 10, 1⟩]⟩ ]

/-- Every register of the GLB block (R413). -/
def regsGlb : List Reg := regsGlb0

/-- Registers of the HIF block (R413), part 0. -/
def regsHif0 : List Reg :=
  [ ⟨0x10000, 0x0, 1, none,
    [⟨F.HIF_CTRL_XEN, 0, 0, 1⟩, ⟨F.HIF_CTRL_SUM_IRQ, 0, 1, 1⟩, ⟨F.HIF_CTRL_EVT_IRQ, 0, 2, 1⟩]⟩,
    ⟨0x10004, 0x0, 1, none,
    [⟨F.HIF_XCTRL_INFLIGHT_MAX, 0, 0, 10⟩, ⟨F.HIF_XCTRL_FETCH_BURST, 0, 16, 4⟩]⟩,
    ⟨0x10008, 0x0, 1, none,
    [⟨F.HIF_STATUS_INFLIGHT, 0, 0, 10⟩, ⟨F.HIF_STATUS_READY, 0, 10, 1⟩, ⟨F.HIF_STATUS_LINK_UP, 0, 11, 1⟩, ⟨F.HIF_STATUS_SPEED, 0, 12, 3⟩, ⟨F.HIF_STATUS_WIDTH, 0, 15, 3⟩]⟩,
    ⟨0x1000c, 0x0, 1, none,
    [⟨F.HIF_EVT_DB_BAD, 0, 0, 1⟩, ⟨F.HIF_EVT_DMA_ERR, 0, 1, 1⟩, ⟨F.HIF_EVT_WR_IGN, 0, 2, 1⟩, ⟨F.HIF_EVT_HIF_RESET, 0, 3, 1⟩, ⟨F.HIF_EVT_DROP, 0, 4, 1⟩]⟩,
    ⟨0x10010, 0x0, 1, none,
    [⟨F.HIF_CNT_DISC_DISC, 0, 0, 32⟩]⟩,
    ⟨0x10014, 0x0, 1, none,
    [⟨F.HIF_CNT_LOSTCOMP_LOSTCOMP, 0, 0, 32⟩]⟩,
    ⟨0x10018, 0x0, 1, none,
    [⟨F.HIF_CNT_WIGN_WIGN, 0, 0, 32⟩]⟩,
    ⟨0x1001c, 0x0, 1, none,
    [⟨F.HIF_CNT_DBBAD_DBBAD, 0, 0, 32⟩]⟩,
    ⟨0x10020, 0x0, 1, none,
    [⟨F.HIF_EVMAP_TB, 0, 0, 2⟩, ⟨F.HIF_EVMAP_SRV, 0, 2, 2⟩, ⟨F.HIF_EVMAP_SPX, 0, 4, 2⟩, ⟨F.HIF_EVMAP_STR, 0, 6, 2⟩, ⟨F.HIF_EVMAP_CK, 0, 8, 2⟩, ⟨F.HIF_EVMAP_AT, 0, 10, 2⟩, ⟨F.HIF_EVMAP_SQ, 0, 12, 2⟩]⟩,
    ⟨0x10800, 0x0, 1, none,
    [⟨F.HIF_SB_CTRL_PEC_REQ, 0, 0, 1⟩, ⟨F.HIF_SB_CTRL_AMASK, 0, 8, 6⟩]⟩,
    ⟨0x10804, 0x0, 1, none,
    [⟨F.HIF_SB_STAT_LAST, 0, 0, 16⟩, ⟨F.HIF_SB_STAT_CMD_BUSY, 0, 16, 1⟩]⟩,
    ⟨0x10808, 0x0, 1, none,
    [⟨F.HIF_SB_ALERT_ALERT, 0, 0, 6⟩]⟩,
    ⟨0x10810, 0x0, 1, none,
    [⟨F.HIF_SB_CMD_CMD, 0, 0, 32⟩]⟩,
    ⟨0x10814, 0x0, 1, none,
    [⟨F.HIF_SB_CMD_CMD, 32, 0, 32⟩]⟩,
    ⟨0x10818, 0x0, 1, none,
    [⟨F.HIF_SB_CMD_CMD, 64, 0, 32⟩]⟩,
    ⟨0x1081c, 0x0, 1, none,
    [⟨F.HIF_SB_CMD_CMD, 96, 0, 32⟩]⟩,
    ⟨0x11000, 0x20, 132, (some (0, 2)),
    [⟨F.HIF_RING_BASE_BASE, 0, 0, 32⟩]⟩,
    ⟨0x11004, 0x20, 132, (some (1, 2)),
    [⟨F.HIF_RING_BASE_BASE, 32, 0, 32⟩]⟩,
    ⟨0x11008, 0x20, 132, none,
    [⟨F.HIF_RING_CFG_EN, 0, 0, 1⟩, ⟨F.HIF_RING_CFG_PRIO, 0, 1, 1⟩, ⟨F.HIF_RING_CFG_LOG2, 0, 2, 4⟩, ⟨F.HIF_RING_CFG_VEC, 0, 6, 7⟩, ⟨F.HIF_RING_CFG_CPSEL, 0, 13, 5⟩, ⟨F.HIF_RING_CFG_MOD_CNT, 0, 18, 8⟩]⟩,
    ⟨0x1100c, 0x20, 132, none,
    [⟨F.HIF_RING_PTR_DEVPTR, 0, 0, 12⟩, ⟨F.HIF_RING_PTR_PHASE, 0, 12, 1⟩, ⟨F.HIF_RING_PTR_MOD_US, 0, 16, 8⟩]⟩ ]

/-- Registers of the HIF block (R413), part 1. -/
def regsHif1 : List Reg :=
  [ ⟨0x11010, 0x20, 132, (some (0, 2)),
    [⟨F.HIF_RING_BUF_BUF, 0, 0, 32⟩]⟩,
    ⟨0x11014, 0x20, 132, (some (1, 2)),
    [⟨F.HIF_RING_BUF_BUF, 32, 0, 32⟩]⟩,
    ⟨0x11018, 0x20, 132, none,
    [⟨F.HIF_RING_BLOG2_BLOG2, 0, 0, 2⟩]⟩,
    ⟨0x1101c, 0x20, 132, none,
    [⟨F.HIF_RING_STAT_DROP, 0, 0, 32⟩]⟩,
    ⟨0x18000, 0x10, 128, none,
    [⟨F.MSIX_ADDR_LO_A, 0, 0, 32⟩]⟩,
    ⟨0x18004, 0x10, 128, none,
    [⟨F.MSIX_ADDR_HI_A, 0, 0, 32⟩]⟩,
    ⟨0x18008, 0x10, 128, none,
    [⟨F.MSIX_DATA_D, 0, 0, 32⟩]⟩,
    ⟨0x1800c, 0x10, 128, none,
    [⟨F.MSIX_CTRL_MASK, 0, 0, 1⟩]⟩,
    ⟨0x19000, 0x4, 4, none,
    [⟨F.MSIX_PBA_PEND, 0, 0, 32⟩]⟩ ]

/-- Every register of the HIF block (R413). -/
def regsHif : List Reg := regsHif0 ++ regsHif1

/-- Registers of the MEM block (R413), part 0. -/
def regsMem0 : List Reg :=
  [ ⟨0x20000, 0x0, 1, none,
    [⟨F.MEM_CTRL_XEN, 0, 0, 1⟩, ⟨F.MEM_CTRL_MT_EN, 0, 1, 1⟩, ⟨F.MEM_CTRL_SCRUB_EN, 0, 2, 1⟩, ⟨F.MEM_CTRL_RET_EN, 0, 3, 1⟩, ⟨F.MEM_CTRL_MT_REPAIR, 0, 4, 1⟩]⟩,
    ⟨0x20004, 0x0, 1, none,
    [⟨F.MEM_XCTRL_MT_GAP, 0, 0, 16⟩, ⟨F.MEM_XCTRL_SCRUB_PERIOD, 0, 16, 8⟩]⟩,
    ⟨0x20008, 0x0, 1, none,
    [⟨F.MEM_STATUS_MT_STATE, 0, 0, 3⟩, ⟨F.MEM_STATUS_MT_PAUSED, 0, 3, 1⟩, ⟨F.MEM_STATUS_RET, 0, 8, 8⟩, ⟨F.MEM_STATUS_WAKING, 0, 16, 8⟩]⟩,
    ⟨0x2000c, 0x0, 1, none,
    [⟨F.MEM_EVT_UE, 0, 0, 1⟩, ⟨F.MEM_EVT_CE2, 0, 1, 1⟩, ⟨F.MEM_EVT_MT_FAIL, 0, 2, 1⟩, ⟨F.MEM_EVT_MT_UNREP, 0, 3, 1⟩, ⟨F.MEM_EVT_COLL, 0, 4, 1⟩]⟩,
    ⟨0x20010, 0x0, 1, none,
    [⟨F.MEM_MT_WIN_IDX, 0, 0, 12⟩, ⟨F.MEM_MT_WIN_PASS, 0, 16, 16⟩]⟩,
    ⟨0x20014, 0x0, 1, none,
    [⟨F.MEM_MT_FAIL_ADDR, 0, 0, 20⟩, ⟨F.MEM_MT_FAIL_SPARES, 0, 20, 4⟩]⟩,
    ⟨0x20040, 0x8, 4, none,
    [⟨F.MEM_ECC_CE_CE, 0, 0, 32⟩]⟩,
    ⟨0x20044, 0x8, 4, none,
    [⟨F.MEM_ECC_UE_UE, 0, 0, 32⟩]⟩,
    ⟨0x20060, 0x0, 1, none,
    [⟨F.MEM_ECC_CE4_CE, 0, 0, 32⟩]⟩,
    ⟨0x20064, 0x0, 1, none,
    [⟨F.MEM_ECC_UE4_UE, 0, 0, 32⟩]⟩,
    ⟨0x20068, 0x0, 1, none,
    [⟨F.MEM_ECC_LAST_ADDR_ADDR, 0, 0, 32⟩]⟩,
    ⟨0x2006c, 0x0, 1, none,
    [⟨F.MEM_ECC_LAST_INFO_SYND, 0, 0, 16⟩, ⟨F.MEM_ECC_LAST_INFO_KIND, 0, 16, 3⟩]⟩,
    ⟨0x20080, 0x4, 8, none,
    [⟨F.MEM_CONF_CONF, 0, 0, 32⟩]⟩,
    ⟨0x200a0, 0x0, 1, none,
    [⟨F.MEM_COLL_COUNT, 0, 0, 16⟩, ⟨F.MEM_COLL_ADDR, 0, 16, 12⟩]⟩,
    ⟨0x200b0, 0x0, 1, none,
    [⟨F.MEM_RET_CFG_RET_IDLE, 0, 0, 10⟩, ⟨F.MEM_RET_CFG_WAKE_LOW, 0, 16, 15⟩]⟩,
    ⟨0x200fc, 0x0, 1, none,
    [⟨F.MEM_CNT_CLR_CLR, 0, 0, 1⟩]⟩,
    ⟨0x20200, 0x0, 1, none,
    [⟨F.MEM_POOL_FREE_FREE, 0, 0, 16⟩, ⟨F.MEM_POOL_FREE_MIN_FREE, 0, 16, 16⟩]⟩,
    ⟨0x20204, 0x0, 1, none,
    [⟨F.MEM_POOL_RESV_RESV_SUM, 0, 0, 16⟩]⟩,
    ⟨0x20208, 0x0, 1, none,
    [⟨F.MEM_POOL_CLR_CLR_MIN, 0, 0, 1⟩]⟩ ]

/-- Every register of the MEM block (R413). -/
def regsMem : List Reg := regsMem0

/-- Registers of the TB block (R413), part 0. -/
def regsTb0 : List Reg :=
  [ ⟨0x30000, 0x0, 1, none,
    [⟨F.TB_CTRL_XEN, 0, 0, 1⟩, ⟨F.TB_CTRL_MONO, 0, 1, 1⟩, ⟨F.TB_CTRL_REVISE, 0, 2, 1⟩, ⟨F.TB_CTRL_HIST_SPAN, 0, 4, 4⟩]⟩,
    ⟨0x30004, 0x0, 1, none,
    [⟨F.TB_JUMP_THR_JUMP_THR, 0, 0, 32⟩]⟩,
    ⟨0x30008, 0x0, 1, none,
    [⟨F.TB_SLEW_SLEW_MAX, 0, 0, 11⟩]⟩,
    ⟨0x3000c, 0x0, 1, none,
    [⟨F.TB_PUB_PUB_LOCKED, 0, 0, 11⟩, ⟨F.TB_PUB_PUB_ACQ, 0, 16, 11⟩]⟩,
    ⟨0x30010, 0x0, 1, none,
    [⟨F.TB_LOCK_LOCK_THR, 0, 0, 16⟩, ⟨F.TB_LOCK_LOCK_N, 0, 16, 8⟩]⟩,
    ⟨0x30014, 0x0, 1, none,
    [⟨F.TB_LOSS_LOSS_TO, 0, 0, 10⟩]⟩,
    ⟨0x30020, 0x0, 1, none,
    [⟨F.TB_STATUS_STATE, 0, 0, 3⟩, ⟨F.TB_STATUS_UNTRACED, 0, 3, 1⟩, ⟨F.TB_STATUS_STEP_PEND, 0, 4, 1⟩, ⟨F.TB_STATUS_SLEWING, 0, 5, 1⟩, ⟨F.TB_STATUS_SYN_UNLOCK, 0, 6, 1⟩, ⟨F.TB_STATUS_REVISING, 0, 7, 1⟩]⟩,
    ⟨0x30024, 0x0, 1, none,
    [⟨F.TB_EVT_STEP_REFUSED, 0, 0, 1⟩, ⟨F.TB_EVT_STEP_APPLIED, 0, 1, 1⟩, ⟨F.TB_EVT_STEP_WITHDRAWN, 0, 2, 1⟩, ⟨F.TB_EVT_BACK_SLEW, 0, 3, 1⟩, ⟨F.TB_EVT_REVISED, 0, 4, 1⟩, ⟨F.TB_EVT_HIST_WRAP, 0, 5, 1⟩, ⟨F.TB_EVT_CONV_EXPIRED, 0, 6, 1⟩, ⟨F.TB_EVT_LOCK_LOST, 0, 7, 1⟩]⟩,
    ⟨0x30028, 0x0, 1, none,
    [⟨F.TB_GEN_GEN, 0, 0, 16⟩, ⟨F.TB_GEN_EPOCH_IDX, 0, 16, 16⟩]⟩,
    ⟨0x30030, 0x0, 1, (some (0, 2)),
    [⟨F.TB_PEND_OFS_PEND_OFS, 0, 0, 32⟩]⟩,
    ⟨0x30034, 0x0, 1, (some (1, 2)),
    [⟨F.TB_PEND_OFS_PEND_OFS, 32, 0, 32⟩]⟩,
    ⟨0x30038, 0x0, 1, none,
    [⟨F.TB_PEND_ID_PEND_ID, 0, 0, 16⟩]⟩,
    ⟨0x30040, 0x0, 1, (some (0, 2)),
    [⟨F.TB_RATE_RATE, 0, 0, 32⟩]⟩,
    ⟨0x30044, 0x0, 1, (some (1, 2)),
    [⟨F.TB_RATE_RATE, 32, 0, 8⟩]⟩,
    ⟨0x30050, 0x0, 1, (some (0, 3)),
    [⟨F.TB_RAWSNAP_RAW, 0, 0, 32⟩]⟩,
    ⟨0x30054, 0x0, 1, (some (1, 3)),
    [⟨F.TB_RAWSNAP_RAW, 32, 0, 32⟩]⟩,
    ⟨0x30058, 0x0, 1, (some (2, 3)),
    [⟨F.TB_RAWSNAP_RAW, 64, 0, 9⟩]⟩ ]

/-- Every register of the TB block (R413). -/
def regsTb : List Reg := regsTb0

/-- Registers of the CK block (R413), part 0. -/
def regsCk0 : List Reg :=
  [ ⟨0x40000, 0x0, 1, none,
    [⟨F.CK_CTRL_XEN, 0, 0, 1⟩, ⟨F.CK_CTRL_REFSEL, 0, 1, 2⟩, ⟨F.CK_CTRL_RELOCK_EN, 0, 3, 1⟩]⟩,
    ⟨0x40010, 0x4, 4, none,
    [⟨F.CK_FSRC_EN, 0, 0, 1⟩, ⟨F.CK_FSRC_TYPE, 0, 1, 1⟩, ⟨F.CK_FSRC_PORT, 0, 2, 5⟩, ⟨F.CK_FSRC_PRIO, 0, 7, 4⟩]⟩,
    ⟨0x40020, 0x0, 1, none,
    [⟨F.CK_FSEL_WTR, 0, 0, 8⟩, ⟨F.CK_FSEL_QUAL_T, 0, 8, 8⟩, ⟨F.CK_FSEL_PULL, 0, 16, 8⟩, ⟨F.CK_FSEL_REVERT, 0, 24, 1⟩]⟩,
    ⟨0x40024, 0x0, 1, none,
    [⟨F.CK_DPLL_BW, 0, 0, 2⟩, ⟨F.CK_DPLL_SLEW, 0, 4, 12⟩]⟩,
    ⟨0x40028, 0x0, 1, none,
    [⟨F.CK_LOCK_WIN, 0, 0, 16⟩, ⟨F.CK_LOCK_N, 0, 16, 16⟩]⟩,
    ⟨0x4002c, 0x0, 1, none,
    [⟨F.CK_RELOCK_RELOCK_T, 0, 0, 16⟩]⟩,
    ⟨0x40040, 0x0, 1, none,
    [⟨F.CK_STATUS_SYN_LOCK, 0, 0, 1⟩, ⟨F.CK_STATUS_SYN_UNLOCK, 0, 1, 1⟩, ⟨F.CK_STATUS_REF_LOSS, 0, 2, 1⟩, ⟨F.CK_STATUS_DPLL, 0, 3, 2⟩, ⟨F.CK_STATUS_FSEL, 0, 5, 2⟩, ⟨F.CK_STATUS_FSEL_VALID, 0, 7, 1⟩, ⟨F.CK_STATUS_HALT, 0, 8, 1⟩, ⟨F.CK_STATUS_CHK_REF, 0, 9, 1⟩, ⟨F.CK_STATUS_RELOCKING, 0, 10, 1⟩]⟩,
    ⟨0x40044, 0x0, 1, none,
    [⟨F.CK_EVT_SYN_UNLOCK, 0, 0, 1⟩, ⟨F.CK_EVT_SYN_RELOCK, 0, 1, 1⟩, ⟨F.CK_EVT_REF_LOSS, 0, 2, 1⟩, ⟨F.CK_EVT_FSRC_CHANGE, 0, 3, 1⟩, ⟨F.CK_EVT_DPLL_HOLDOVER, 0, 4, 1⟩, ⟨F.CK_EVT_HALT, 0, 5, 1⟩, ⟨F.CK_EVT_HALT_RELEASE, 0, 6, 1⟩, ⟨F.CK_EVT_DLL_UNLOCK, 0, 7, 1⟩, ⟨F.CK_EVT_GUARD, 0, 8, 1⟩, ⟨F.CK_EVT_CLAIM_REFUSED, 0, 9, 1⟩]⟩,
    ⟨0x40048, 0x0, 1, (some (0, 2)),
    [⟨F.CK_SYN_ADJ_ADJ, 0, 0, 32⟩]⟩,
    ⟨0x4004c, 0x0, 1, (some (1, 2)),
    [⟨F.CK_SYN_ADJ_ADJ, 32, 0, 8⟩]⟩,
    ⟨0x40050, 0x0, 1, none,
    [⟨F.CK_FERR_FERR, 0, 0, 32⟩]⟩,
    ⟨0x40054, 0x0, 1, none,
    [⟨F.CK_PHERR_CNT_PHERR, 0, 0, 32⟩]⟩,
    ⟨0x40058, 0x0, 1, none,
    [⟨F.CK_GUARD_CNT_GUARD, 0, 0, 32⟩]⟩,
    ⟨0x4005c, 0x0, 1, none,
    [⟨F.CK_DLL_UNL_CNT_DLL_UNL, 0, 0, 32⟩]⟩,
    ⟨0x40060, 0x0, 1, none,
    [⟨F.CK_DLL_LOCK_LOCK, 0, 0, 32⟩]⟩,
    ⟨0x40064, 0x0, 1, none,
    [⟨F.CK_DLL_LOCK_LOCK, 32, 0, 32⟩]⟩,
    ⟨0x40068, 0x0, 1, none,
    [⟨F.CK_DLL_LOCK_LOCK, 64, 0, 24⟩]⟩,
    ⟨0x4007c, 0x0, 1, none,
    [⟨F.CK_CNT_CLR_CLR, 0, 0, 1⟩]⟩,
    ⟨0x40100, 0x20, 8, none,
    [⟨F.CK_CKO_CTRL_EN, 0, 0, 1⟩, ⟨F.CK_CKO_CTRL_SRC, 0, 1, 1⟩]⟩,
    ⟨0x40104, 0x20, 8, (some (0, 2)),
    [⟨F.CK_CKO_PER_PER, 0, 0, 32⟩]⟩ ]

/-- Registers of the CK block (R413), part 1. -/
def regsCk1 : List Reg :=
  [ ⟨0x40108, 0x20, 8, (some (1, 2)),
    [⟨F.CK_CKO_PER_PER, 32, 0, 16⟩]⟩,
    ⟨0x4010c, 0x20, 8, (some (0, 2)),
    [⟨F.CK_CKO_PH_PHASE, 0, 0, 32⟩]⟩,
    ⟨0x40110, 0x20, 8, (some (1, 2)),
    [⟨F.CK_CKO_PH_PHASE, 32, 0, 16⟩]⟩,
    ⟨0x40114, 0x20, 8, none,
    [⟨F.CK_CKO_STAT_OWNER, 0, 0, 8⟩, ⟨F.CK_CKO_STAT_CLAIM_REF, 0, 8, 1⟩, ⟨F.CK_CKO_STAT_ACTIVE, 0, 9, 1⟩, ⟨F.CK_CKO_STAT_REPHASE, 0, 10, 1⟩]⟩ ]

/-- Every register of the CK block (R413). -/
def regsCk : List Reg := regsCk0 ++ regsCk1

/-- Registers of the TA block (R413), part 0. -/
def regsTa0 : List Reg :=
  [ ⟨0x50000, 0x0, 1, none,
    [⟨F.TA_CTRL_XEN, 0, 0, 1⟩, ⟨F.TA_CTRL_EV_RING, 0, 2, 2⟩]⟩,
    ⟨0x50004, 0x0, 1, none,
    [⟨F.TA_LATE_LATE_TOL, 0, 0, 16⟩]⟩,
    ⟨0x50008, 0x0, 1, none,
    [⟨F.TA_XCTRL_LEAD, 0, 0, 4⟩]⟩,
    ⟨0x50010, 0x0, 1, none,
    [⟨F.TA_STATUS_ARMED, 0, 0, 15⟩, ⟨F.TA_STATUS_STAGE, 0, 16, 9⟩]⟩,
    ⟨0x50014, 0x0, 1, none,
    [⟨F.TA_EVT_LATE, 0, 0, 1⟩, ⟨F.TA_EVT_HALT, 0, 1, 1⟩, ⟨F.TA_EVT_GATED, 0, 2, 1⟩, ⟨F.TA_EVT_NORES, 0, 3, 1⟩, ⟨F.TA_EVT_PORT_DOWN, 0, 4, 1⟩, ⟨F.TA_EVT_LQ_EMPTY, 0, 5, 1⟩, ⟨F.TA_EVT_EDGE_COLL, 0, 6, 1⟩, ⟨F.TA_EVT_STAGE_FULL, 0, 7, 1⟩, ⟨F.TA_EVT_CAP_LOST, 0, 8, 1⟩, ⟨F.TA_EVT_CLAIM_REFUSED, 0, 9, 1⟩]⟩,
    ⟨0x50040, 0x0, 1, none,
    [⟨F.TA_CNT_OCCUR_OCCUR, 0, 0, 32⟩]⟩,
    ⟨0x50044, 0x0, 1, none,
    [⟨F.TA_CNT_LATE_LATE, 0, 0, 32⟩]⟩,
    ⟨0x50048, 0x0, 1, none,
    [⟨F.TA_CNT_HALT_HALT, 0, 0, 32⟩]⟩,
    ⟨0x5004c, 0x0, 1, none,
    [⟨F.TA_CNT_GATED_GATED, 0, 0, 32⟩]⟩,
    ⟨0x50050, 0x0, 1, none,
    [⟨F.TA_CNT_NORES_NORES, 0, 0, 32⟩]⟩,
    ⟨0x50054, 0x0, 1, none,
    [⟨F.TA_CNT_PORT_DOWN_PORT_DOWN, 0, 0, 32⟩]⟩,
    ⟨0x50058, 0x0, 1, none,
    [⟨F.TA_CNT_LQ_EMPTY_LQ_EMPTY, 0, 0, 32⟩]⟩,
    ⟨0x5005c, 0x0, 1, none,
    [⟨F.TA_CNT_EDGE_COLL_EDGE_COLL, 0, 0, 32⟩]⟩,
    ⟨0x5007c, 0x0, 1, none,
    [⟨F.TA_CNT_CLR_CLR, 0, 0, 1⟩]⟩,
    ⟨0x50100, 0x10, 16, none,
    [⟨F.TA_TIO_CTRL_MODE, 0, 0, 2⟩, ⟨F.TA_TIO_CTRL_PGSEL, 0, 2, 4⟩, ⟨F.TA_TIO_CTRL_INV, 0, 6, 1⟩, ⟨F.TA_TIO_CTRL_IDLE, 0, 7, 1⟩, ⟨F.TA_TIO_CTRL_OWNER, 0, 8, 8⟩, ⟨F.TA_TIO_CTRL_CLAIM_REF, 0, 16, 1⟩, ⟨F.TA_TIO_CTRL_LEVEL, 0, 17, 1⟩]⟩,
    ⟨0x50300, 0x20, 16, none,
    [⟨F.TA_PG_CTRL_EN, 0, 0, 1⟩, ⟨F.TA_PG_CTRL_SCALE, 0, 1, 1⟩, ⟨F.TA_PG_CTRL_ACTIVE, 0, 2, 1⟩, ⟨F.TA_PG_CTRL_REPHASE, 0, 3, 1⟩]⟩,
    ⟨0x50304, 0x20, 16, (some (0, 2)),
    [⟨F.TA_PG_PER_PER, 0, 0, 32⟩]⟩,
    ⟨0x50308, 0x20, 16, (some (1, 2)),
    [⟨F.TA_PG_PER_PER, 32, 0, 16⟩]⟩,
    ⟨0x5030c, 0x20, 16, (some (0, 2)),
    [⟨F.TA_PG_WIDTH_WIDTH, 0, 0, 32⟩]⟩,
    ⟨0x50310, 0x20, 16, (some (1, 2)),
    [⟨F.TA_PG_WIDTH_WIDTH, 32, 0, 16⟩]⟩ ]

/-- Registers of the TA block (R413), part 1. -/
def regsTa1 : List Reg :=
  [ ⟨0x50314, 0x20, 16, (some (0, 2)),
    [⟨F.TA_PG_PHASE_PHASE, 0, 0, 32⟩]⟩,
    ⟨0x50318, 0x20, 16, (some (1, 2)),
    [⟨F.TA_PG_PHASE_PHASE, 32, 0, 16⟩]⟩,
    ⟨0x5031c, 0x20, 16, none,
    [⟨F.TA_PG_COUNT_COUNT, 0, 0, 32⟩]⟩,
    ⟨0x50500, 0x10, 16, none,
    [⟨F.TA_CU_CTRL_EN, 0, 0, 1⟩, ⟨F.TA_CU_CTRL_SRC, 0, 1, 4⟩, ⟨F.TA_CU_CTRL_EDGE, 0, 5, 2⟩, ⟨F.TA_CU_CTRL_RING, 0, 7, 2⟩, ⟨F.TA_CU_CTRL_CONV, 0, 9, 1⟩, ⟨F.TA_CU_CTRL_OWNER, 0, 16, 8⟩, ⟨F.TA_CU_CTRL_CLAIM_REF, 0, 24, 1⟩]⟩,
    ⟨0x50504, 0x10, 16, none,
    [⟨F.TA_CU_DIV_DIV, 0, 0, 16⟩]⟩,
    ⟨0x50508, 0x10, 16, none,
    [⟨F.TA_CU_STAT_FILL, 0, 0, 7⟩, ⟨F.TA_CU_STAT_LOST, 0, 16, 16⟩]⟩,
    ⟨0x5050c, 0x10, 16, none,
    [⟨F.TA_CU_DELIV_DELIV, 0, 0, 32⟩]⟩,
    ⟨0x51000, 0x10, 128, none,
    [⟨F.TA_LQ_CTRL_EN, 0, 0, 1⟩, ⟨F.TA_LQ_CTRL_SIDE, 0, 1, 1⟩, ⟨F.TA_LQ_CTRL_EMPTY_ACT, 0, 2, 1⟩, ⟨F.TA_LQ_CTRL_DEPTH, 0, 4, 8⟩, ⟨F.TA_LQ_CTRL_OWNER, 0, 16, 8⟩, ⟨F.TA_LQ_CTRL_CLAIM_REF, 0, 24, 1⟩]⟩,
    ⟨0x51004, 0x10, 128, none,
    [⟨F.TA_LQ_STAT_QLEN, 0, 0, 8⟩, ⟨F.TA_LQ_STAT_KEPT, 0, 8, 1⟩]⟩,
    ⟨0x51008, 0x10, 128, none,
    [⟨F.TA_LQ_SENT_SENT, 0, 0, 32⟩]⟩,
    ⟨0x5100c, 0x10, 128, none,
    [⟨F.TA_LQ_SKIP_SKIP, 0, 0, 32⟩]⟩,
    ⟨0x52000, 0x4, 248, none,
    [⟨F.TA_CLAIM_OWNER, 0, 0, 8⟩, ⟨F.TA_CLAIM_HELD, 0, 8, 1⟩]⟩ ]

/-- Every register of the TA block (R413). -/
def regsTa : List Reg := regsTa0 ++ regsTa1

/-- Registers of the SRV block (R413), part 0. -/
def regsSrv0 : List Reg :=
  [ ⟨0x60000, 0x0, 1, none,
    [⟨F.SRV_CTRL_XEN, 0, 0, 1⟩, ⟨F.SRV_CTRL_REVERT, 0, 1, 1⟩, ⟨F.SRV_CTRL_SYNT_EN, 0, 2, 1⟩, ⟨F.SRV_CTRL_MEAS_EVT, 0, 3, 1⟩]⟩,
    ⟨0x60004, 0x0, 1, none,
    [⟨F.SRV_XCTRL_HW_PROP, 0, 0, 1⟩, ⟨F.SRV_XCTRL_KP_ACQ, 0, 4, 4⟩, ⟨F.SRV_XCTRL_KI_ACQ, 0, 8, 4⟩, ⟨F.SRV_XCTRL_KP_LOCK, 0, 12, 4⟩, ⟨F.SRV_XCTRL_KI_LOCK, 0, 16, 4⟩, ⟨F.SRV_XCTRL_OUT_MUL, 0, 20, 4⟩]⟩,
    ⟨0x60008, 0x0, 1, none,
    [⟨F.SRV_WTR_WTR, 0, 0, 16⟩, ⟨F.SRV_WTR_QUAL_T, 0, 16, 16⟩]⟩,
    ⟨0x6000c, 0x0, 1, none,
    [⟨F.SRV_HO_HO_FREQ, 0, 0, 16⟩]⟩,
    ⟨0x60010, 0x0, 1, none,
    [⟨F.SRV_UNC_UP_UP, 0, 0, 32⟩]⟩,
    ⟨0x60020, 0x0, 1, none,
    [⟨F.SRV_STATUS_SEL, 0, 0, 3⟩, ⟨F.SRV_STATUS_SEL_VALID, 0, 3, 1⟩, ⟨F.SRV_STATUS_FORCED, 0, 4, 1⟩, ⟨F.SRV_STATUS_WTR_RUN, 0, 5, 1⟩, ⟨F.SRV_STATUS_METHOD, 0, 6, 2⟩, ⟨F.SRV_STATUS_TAINT, 0, 8, 1⟩, ⟨F.SRV_STATUS_QUAL, 0, 16, 8⟩]⟩,
    ⟨0x60024, 0x0, 1, none,
    [⟨F.SRV_EVT_SRC_CHANGE, 0, 0, 1⟩, ⟨F.SRV_EVT_SRC_LOST, 0, 1, 1⟩, ⟨F.SRV_EVT_NO_SOURCE, 0, 2, 1⟩, ⟨F.SRV_EVT_METHOD_CHANGE, 0, 3, 1⟩, ⟨F.SRV_EVT_TAINT_SET, 0, 4, 1⟩, ⟨F.SRV_EVT_OUTLIER, 0, 5, 1⟩, ⟨F.SRV_EVT_MASTER_CHANGE, 0, 6, 1⟩]⟩,
    ⟨0x60028, 0x0, 1, none,
    [⟨F.SRV_AU_AU, 0, 0, 32⟩]⟩,
    ⟨0x60030, 0x0, 1, (some (0, 2)),
    [⟨F.SRV_FREQ_FREQ, 0, 0, 32⟩]⟩,
    ⟨0x60034, 0x0, 1, (some (1, 2)),
    [⟨F.SRV_FREQ_FREQ, 32, 0, 8⟩]⟩,
    ⟨0x60038, 0x0, 1, (some (0, 2)),
    [⟨F.SRV_EST_EST, 0, 0, 32⟩]⟩,
    ⟨0x6003c, 0x0, 1, (some (1, 2)),
    [⟨F.SRV_EST_EST, 32, 0, 32⟩]⟩,
    ⟨0x60040, 0x0, 1, none,
    [⟨F.SRV_CNT_OUTLIER_OUTLIER, 0, 0, 32⟩]⟩,
    ⟨0x60080, 0x4, 8, none,
    [⟨F.SRV_SRC_EN, 0, 0, 1⟩, ⟨F.SRV_SRC_PORT, 0, 1, 5⟩, ⟨F.SRV_SRC_METHOD, 0, 6, 2⟩, ⟨F.SRV_SRC_PRIO, 0, 8, 4⟩, ⟨F.SRV_SRC_CLASS_MAX, 0, 12, 8⟩]⟩,
    ⟨0x600a0, 0x0, 1, none,
    [⟨F.PTP_CTRL_PROFILE, 0, 0, 1⟩, ⟨F.PTP_CTRL_DOMAIN, 0, 8, 8⟩, ⟨F.PTP_CTRL_MAJOR_SDO, 0, 16, 4⟩, ⟨F.PTP_CTRL_MINOR_SDO, 0, 20, 8⟩]⟩,
    ⟨0x600a4, 0x0, 1, (some (0, 2)),
    [⟨F.PTP_CLKID_CLKID, 0, 0, 32⟩]⟩,
    ⟨0x600a8, 0x0, 1, (some (1, 2)),
    [⟨F.PTP_CLKID_CLKID, 32, 0, 32⟩]⟩,
    ⟨0x600ac, 0x0, 1, none,
    [⟨F.PTP_AUTH_MODE, 0, 0, 2⟩, ⟨F.PTP_AUTH_GEN, 0, 2, 1⟩, ⟨F.PTP_AUTH_SLOT, 0, 4, 2⟩, ⟨F.PTP_AUTH_SPP, 0, 8, 8⟩, ⟨F.PTP_AUTH_SLOT_EMPTY, 0, 16, 1⟩]⟩,
    ⟨0x600b0, 0x0, 1, none,
    [⟨F.PTP_CLASS_CLASS_TAINT, 0, 0, 8⟩, ⟨F.PTP_CLASS_CLASS_HO, 0, 8, 8⟩]⟩,
    ⟨0x600b4, 0x0, 1, none,
    [⟨F.PTP_NPD_THR_NPD_THR, 0, 0, 32⟩]⟩ ]

/-- Registers of the SRV block (R413), part 1. -/
def regsSrv1 : List Reg :=
  [ ⟨0x61000, 0x40, 32, none,
    [⟨F.PTP_PCTRL_ROLE, 0, 0, 2⟩, ⟨F.PTP_PCTRL_DM, 0, 2, 1⟩, ⟨F.PTP_PCTRL_ONESTEP, 0, 3, 1⟩, ⟨F.PTP_PCTRL_DA, 0, 4, 1⟩]⟩,
    ⟨0x61004, 0x40, 32, none,
    [⟨F.PTP_PINT_LOG_SYNC, 0, 0, 8⟩, ⟨F.PTP_PINT_LOG_DREQ, 0, 8, 8⟩, ⟨F.PTP_PINT_LOG_ANN, 0, 16, 8⟩, ⟨F.PTP_PINT_LOG_PDREQ, 0, 24, 8⟩]⟩,
    ⟨0x61008, 0x40, 32, none,
    [⟨F.PTP_PASYM_ASYM, 0, 0, 32⟩]⟩,
    ⟨0x6100c, 0x40, 32, none,
    [⟨F.PTP_PUNC_UNC, 0, 0, 16⟩]⟩,
    ⟨0x61010, 0x40, 32, none,
    [⟨F.PTP_PSTAT_AS_CAPABLE, 0, 0, 1⟩, ⟨F.PTP_PSTAT_ANN_OK, 0, 1, 1⟩]⟩,
    ⟨0x61014, 0x40, 32, none,
    [⟨F.PTP_MLD_MLD, 0, 0, 32⟩]⟩,
    ⟨0x61018, 0x40, 32, none,
    [⟨F.PTP_NRR_NRR, 0, 0, 32⟩]⟩,
    ⟨0x61020, 0x40, 32, none,
    [⟨F.PTP_CNT_RX_TERM_RX_TERM, 0, 0, 32⟩]⟩,
    ⟨0x61024, 0x40, 32, none,
    [⟨F.PTP_CNT_TX_ORIG_TX_ORIG, 0, 0, 32⟩]⟩,
    ⟨0x61028, 0x40, 32, none,
    [⟨F.PTP_CNT_MALFORMED_MALFORMED, 0, 0, 32⟩]⟩,
    ⟨0x6102c, 0x40, 32, none,
    [⟨F.PTP_CNT_AUTH_FAIL_AUTH_FAIL, 0, 0, 32⟩]⟩,
    ⟨0x61030, 0x40, 32, none,
    [⟨F.PTP_CNT_TX_NOCELL_TX_NOCELL, 0, 0, 32⟩]⟩,
    ⟨0x61034, 0x40, 32, none,
    [⟨F.PTP_CNT_UNMATCHED_UNMATCHED, 0, 0, 32⟩]⟩,
    ⟨0x6103c, 0x40, 32, none,
    [⟨F.PTP_PCNT_CLR_CLR, 0, 0, 1⟩]⟩ ]

/-- Every register of the SRV block (R413). -/
def regsSrv : List Reg := regsSrv0 ++ regsSrv1

/-- Registers of the STR block (R413), part 0. -/
def regsStr0 : List Reg :=
  [ ⟨0x80000, 0x1000, 32, none,
    [⟨F.STR_CTRL_EN, 0, 0, 1⟩, ⟨F.STR_CTRL_XEN, 0, 1, 1⟩, ⟨F.STR_CTRL_RATE, 0, 2, 1⟩, ⟨F.STR_CTRL_LFEC, 0, 3, 1⟩, ⟨F.STR_CTRL_HFEC, 0, 4, 1⟩, ⟨F.STR_CTRL_LT_PASS, 0, 5, 1⟩, ⟨F.STR_CTRL_AUTO, 0, 6, 1⟩, ⟨F.STR_CTRL_RAIL, 0, 7, 5⟩, ⟨F.STR_CTRL_LOOP, 0, 12, 2⟩, ⟨F.STR_CTRL_CLAIM_REF, 0, 14, 1⟩, ⟨F.STR_CTRL_OWNER, 0, 16, 8⟩]⟩,
    ⟨0x80004, 0x1000, 32, none,
    [⟨F.STR_STATUS_STATE, 0, 0, 3⟩, ⟨F.STR_STATUS_L_LOCK, 0, 3, 1⟩, ⟨F.STR_STATUS_H_LOCK, 0, 4, 1⟩, ⟨F.STR_STATUS_L_HIBER, 0, 5, 1⟩, ⟨F.STR_STATUS_H_HIBER, 0, 6, 1⟩, ⟨F.STR_STATUS_L_FLT, 0, 7, 1⟩, ⟨F.STR_STATUS_H_FLT, 0, 8, 1⟩, ⟨F.STR_STATUS_L_PHLOCK, 0, 9, 1⟩, ⟨F.STR_STATUS_H_PHLOCK, 0, 10, 1⟩, ⟨F.STR_STATUS_EQ_LP, 0, 11, 1⟩, ⟨F.STR_STATUS_L_FILL, 0, 12, 7⟩, ⟨F.STR_STATUS_H_FILL, 0, 19, 7⟩, ⟨F.STR_STATUS_WIGN, 0, 28, 4⟩]⟩,
    ⟨0x80008, 0x1000, 32, none,
    [⟨F.STR_EVT_UP, 0, 0, 1⟩, ⟨F.STR_EVT_DOWN, 0, 1, 1⟩, ⟨F.STR_EVT_TRAIN, 0, 2, 1⟩, ⟨F.STR_EVT_HALTED, 0, 3, 1⟩, ⟨F.STR_EVT_EL_OVF, 0, 4, 1⟩, ⟨F.STR_EVT_POOL_DROP, 0, 5, 1⟩, ⟨F.STR_EVT_POOL_TRUNC, 0, 6, 1⟩, ⟨F.STR_EVT_COPY_DROP, 0, 7, 1⟩, ⟨F.STR_EVT_GIANT, 0, 8, 1⟩, ⟨F.STR_EVT_UNK_OS, 0, 9, 1⟩, ⟨F.STR_EVT_LPI, 0, 10, 1⟩, ⟨F.STR_EVT_HOST_SPX, 0, 11, 1⟩, ⟨F.STR_EVT_RESV_REFUSED, 0, 12, 1⟩, ⟨F.STR_EVT_LT_TIMEOUT, 0, 13, 1⟩, ⟨F.STR_EVT_CLAIM_REFUSED, 0, 14, 1⟩]⟩,
    ⟨0x8000c, 0x1000, 32, none,
    [⟨F.STR_MAXFRM_MAXFRM, 0, 0, 14⟩]⟩,
    ⟨0x80010, 0x1000, 32, none,
    [⟨F.STR_ELAS_LOW, 0, 0, 6⟩, ⟨F.STR_ELAS_HIGH, 0, 8, 6⟩, ⟨F.STR_ELAS_START, 0, 16, 6⟩]⟩,
    ⟨0x80014, 0x1000, 32, none,
    [⟨F.STR_SRD_L_SWING, 0, 0, 4⟩, ⟨F.STR_SRD_L_PRE, 0, 4, 4⟩, ⟨F.STR_SRD_L_POST, 0, 8, 5⟩, ⟨F.STR_SRD_H_SWING, 0, 16, 4⟩, ⟨F.STR_SRD_H_PRE, 0, 20, 4⟩, ⟨F.STR_SRD_H_POST, 0, 24, 5⟩, ⟨F.STR_SRD_EQ_LP_OK, 0, 29, 1⟩]⟩,
    ⟨0x80018, 0x1000, 32, none,
    [⟨F.STR_LT_LT_TO, 0, 0, 10⟩]⟩,
    ⟨0x80020, 0x1000, 32, none,
    [⟨F.STR_FWD_L_C0, 0, 0, 8⟩, ⟨F.STR_FWD_L_C1, 0, 8, 8⟩, ⟨F.STR_FWD_L_C2, 0, 16, 8⟩, ⟨F.STR_FWD_L_C3, 0, 24, 8⟩]⟩,
    ⟨0x80024, 0x1000, 32, none,
    [⟨F.STR_FWD_H_C0, 0, 0, 8⟩, ⟨F.STR_FWD_H_C1, 0, 8, 8⟩, ⟨F.STR_FWD_H_C2, 0, 16, 8⟩, ⟨F.STR_FWD_H_C3, 0, 24, 8⟩]⟩,
    ⟨0x80028, 0x1000, 32, none,
    [⟨F.STR_ETM_ETYPE, 0, 0, 16⟩, ⟨F.STR_ETM_MASK, 0, 16, 16⟩]⟩,
    ⟨0x8002c, 0x1000, 32, none,
    [⟨F.STR_PARSE_ETH, 0, 0, 1⟩, ⟨F.STR_PARSE_IPV4, 0, 1, 1⟩, ⟨F.STR_PARSE_IPV6, 0, 2, 1⟩, ⟨F.STR_PARSE_VLAN, 0, 3, 1⟩, ⟨F.STR_PARSE_V6EXT, 0, 4, 1⟩]⟩,
    ⟨0x80030, 0x1000, 32, none,
    [⟨F.STR_POOL_RESV, 0, 0, 12⟩, ⟨F.STR_POOL_SHR_MAX, 0, 16, 13⟩]⟩,
    ⟨0x80034, 0x1000, 32, none,
    [⟨F.STR_POOL_STAT_RESV_USED, 0, 0, 12⟩, ⟨F.STR_POOL_STAT_SHR_USED, 0, 16, 13⟩]⟩,
    ⟨0x80038, 0x1000, 32, none,
    [⟨F.STR_INJ_INJ_HOLD, 0, 0, 12⟩]⟩,
    ⟨0x8003c, 0x1000, 32, none,
    [⟨F.STR_CNT_CLR_CLR, 0, 0, 1⟩]⟩,
    ⟨0x80040, 0x1000, 32, none,
    [⟨F.STR_TS_CTRL_MODE, 0, 0, 2⟩, ⟨F.STR_TS_CTRL_XEN, 0, 2, 1⟩, ⟨F.STR_TS_CTRL_ORG_EN, 0, 3, 1⟩, ⟨F.STR_TS_CTRL_SUB_MT, 0, 4, 4⟩, ⟨F.STR_TS_CTRL_ADD_MT, 0, 8, 4⟩, ⟨F.STR_TS_CTRL_CAP_MT, 0, 12, 4⟩, ⟨F.STR_TS_CTRL_ORG_DOM, 0, 16, 8⟩]⟩,
    ⟨0x80044, 0x1000, 32, none,
    [⟨F.STR_TS_EVT_CF_RANGE, 0, 0, 1⟩, ⟨F.STR_TS_EVT_NO_TRAILER, 0, 1, 1⟩, ⟨F.STR_TS_EVT_CAP_DROP, 0, 2, 1⟩, ⟨F.STR_TS_EVT_TSOP_BAD, 0, 3, 1⟩, ⟨F.STR_TS_EVT_ORG_COLD, 0, 4, 1⟩]⟩,
    ⟨0x80048, 0x1000, 32, none,
    [⟨F.STR_MOD_RX_DLY, 0, 0, 24⟩]⟩,
    ⟨0x8004c, 0x1000, 32, none,
    [⟨F.STR_MOD_TX_DLY, 0, 0, 24⟩]⟩,
    ⟨0x80100, 0x1000, 32, none,
    [⟨F.STR_CNT_FRM_L_N, 0, 0, 32⟩]⟩ ]

/-- Registers of the STR block (R413), part 1. -/
def regsStr1 : List Reg :=
  [ ⟨0x80104, 0x1000, 32, none,
    [⟨F.STR_CNT_FRM_H_N, 0, 0, 32⟩]⟩,
    ⟨0x80108, 0x1000, 32, none,
    [⟨F.STR_CNT_PTP_L_N, 0, 0, 32⟩]⟩,
    ⟨0x8010c, 0x1000, 32, none,
    [⟨F.STR_CNT_PTP_H_N, 0, 0, 32⟩]⟩,
    ⟨0x80110, 0x1000, 32, none,
    [⟨F.STR_CNT_TC_SUB_N, 0, 0, 32⟩]⟩,
    ⟨0x80114, 0x1000, 32, none,
    [⟨F.STR_CNT_TC_ADD_N, 0, 0, 32⟩]⟩,
    ⟨0x80118, 0x1000, 32, none,
    [⟨F.STR_CNT_EL_OVF_N, 0, 0, 32⟩]⟩,
    ⟨0x8011c, 0x1000, 32, none,
    [⟨F.STR_CNT_POOL_DROP_N, 0, 0, 32⟩]⟩,
    ⟨0x80120, 0x1000, 32, none,
    [⟨F.STR_CNT_POOL_TRUNC_N, 0, 0, 32⟩]⟩,
    ⟨0x80124, 0x1000, 32, none,
    [⟨F.STR_CNT_COPY_DROP_N, 0, 0, 32⟩]⟩,
    ⟨0x80128, 0x1000, 32, none,
    [⟨F.STR_CNT_GIANT_N, 0, 0, 32⟩]⟩,
    ⟨0x8012c, 0x1000, 32, none,
    [⟨F.STR_CNT_UNK_OS_N, 0, 0, 32⟩]⟩,
    ⟨0x80130, 0x1000, 32, none,
    [⟨F.STR_CNT_LPI_N, 0, 0, 32⟩]⟩,
    ⟨0x80134, 0x1000, 32, none,
    [⟨F.STR_CNT_HOST_SPX_N, 0, 0, 32⟩]⟩,
    ⟨0x80138, 0x1000, 32, none,
    [⟨F.STR_CNT_MALFORMED_N, 0, 0, 32⟩]⟩,
    ⟨0x8013c, 0x1000, 32, none,
    [⟨F.STR_CNT_HELD_N, 0, 0, 32⟩]⟩,
    ⟨0x80140, 0x1000, 32, none,
    [⟨F.STR_CNT_CF_RANGE_N, 0, 0, 32⟩]⟩,
    ⟨0x80144, 0x1000, 32, none,
    [⟨F.STR_CNT_NO_TRAILER_N, 0, 0, 32⟩]⟩,
    ⟨0x80148, 0x1000, 32, none,
    [⟨F.STR_CNT_ORIGIN_N, 0, 0, 32⟩]⟩,
    ⟨0x8014c, 0x1000, 32, none,
    [⟨F.STR_CNT_CAP_N, 0, 0, 32⟩]⟩,
    ⟨0x80150, 0x1000, 32, none,
    [⟨F.STR_CNT_CAP_DROP_N, 0, 0, 32⟩]⟩ ]

/-- Registers of the STR block (R413), part 2. -/
def regsStr2 : List Reg :=
  [ ⟨0x80154, 0x1000, 32, none,
    [⟨F.STR_CNT_TSOP_BAD_N, 0, 0, 32⟩]⟩,
    ⟨0x80158, 0x1000, 32, none,
    [⟨F.STR_CNT_ORG_COLD_N, 0, 0, 32⟩]⟩ ]

/-- Every register of the STR block (R413). -/
def regsStr : List Reg := regsStr0 ++ regsStr1 ++ regsStr2

/-- Registers of the SPX block (R413), part 0. -/
def regsSpx0 : List Reg :=
  [ ⟨0xa0000, 0x400, 32, none,
    [⟨F.SPX_CTRL_EN, 0, 0, 1⟩, ⟨F.SPX_CTRL_XEN, 0, 1, 1⟩, ⟨F.SPX_CTRL_RATE, 0, 2, 3⟩]⟩,
    ⟨0xa0004, 0x400, 32, none,
    [⟨F.SPX_ASYM_MODEL, 0, 0, 1⟩, ⟨F.SPX_ASYM_COEF_VALID, 0, 1, 1⟩]⟩,
    ⟨0xa0008, 0x400, 32, none,
    [⟨F.SPX_COEF_COEF, 0, 0, 32⟩]⟩,
    ⟨0xa000c, 0x400, 32, none,
    [⟨F.SPX_FIX_FIX, 0, 0, 32⟩]⟩,
    ⟨0xa0010, 0x400, 32, none,
    [⟨F.SPX_UNC_UNC, 0, 0, 16⟩]⟩,
    ⟨0xa0014, 0x400, 32, none,
    [⟨F.SPX_STEP_STEP_THR, 0, 0, 16⟩]⟩,
    ⟨0xa0018, 0x400, 32, none,
    [⟨F.SPX_RRT_RRT_LIMIT, 0, 0, 20⟩]⟩,
    ⟨0xa001c, 0x400, 32, none,
    [⟨F.SPX_RTTMAX_RTT_MAX, 0, 0, 20⟩]⟩,
    ⟨0xa0020, 0x400, 32, none,
    [⟨F.SPX_XPH_AVG, 0, 0, 4⟩, ⟨F.SPX_XPH_PHSTEP_EN, 0, 4, 1⟩]⟩,
    ⟨0xa0030, 0x400, 32, none,
    [⟨F.SPX_STATUS_SESS, 0, 0, 3⟩, ⟨F.SPX_STATUS_STARVED, 0, 3, 1⟩, ⟨F.SPX_STATUS_FALLBACK, 0, 4, 1⟩, ⟨F.SPX_STATUS_RANGING, 0, 5, 1⟩, ⟨F.SPX_STATUS_ROUTE_PEND, 0, 6, 1⟩, ⟨F.SPX_STATUS_RRT_HOLD, 0, 7, 1⟩, ⟨F.SPX_STATUS_ASYM_UNKNOWN, 0, 8, 1⟩, ⟨F.SPX_STATUS_PARTNER_COLD, 0, 9, 1⟩, ⟨F.SPX_STATUS_REC_VALID, 0, 10, 1⟩, ⟨F.SPX_STATUS_GOV_LIMIT, 0, 11, 1⟩, ⟨F.SPX_STATUS_MODEL_MISMATCH, 0, 12, 1⟩, ⟨F.SPX_STATUS_RR_FAIL, 0, 13, 1⟩, ⟨F.SPX_STATUS_VIOL_RUN, 0, 16, 5⟩, ⟨F.SPX_STATUS_EFF_RATE, 0, 24, 3⟩]⟩,
    ⟨0xa0034, 0x400, 32, none,
    [⟨F.SPX_EVT_SESS_UP, 0, 0, 1⟩, ⟨F.SPX_EVT_SESS_DOWN, 0, 1, 1⟩, ⟨F.SPX_EVT_DISC_FAIL, 0, 2, 1⟩, ⟨F.SPX_EVT_CAPS_FAIL, 0, 3, 1⟩, ⟨F.SPX_EVT_STARVED, 0, 4, 1⟩, ⟨F.SPX_EVT_FALLBACK, 0, 5, 1⟩, ⟨F.SPX_EVT_RTT_STEP, 0, 6, 1⟩, ⟨F.SPX_EVT_LINK_RESTORE, 0, 7, 1⟩, ⟨F.SPX_EVT_ROUTE_RESOLVED, 0, 8, 1⟩, ⟨F.SPX_EVT_RRT_HOLD, 0, 9, 1⟩, ⟨F.SPX_EVT_ASYM_UNKNOWN, 0, 10, 1⟩, ⟨F.SPX_EVT_PARTNER_CHANGED, 0, 11, 1⟩, ⟨F.SPX_EVT_RR_FAIL, 0, 12, 1⟩, ⟨F.SPX_EVT_VIOL, 0, 13, 1⟩, ⟨F.SPX_EVT_PH_STEP, 0, 14, 1⟩]⟩,
    ⟨0xa0040, 0x400, 32, (some (0, 2)),
    [⟨F.SPX_PSER_PSER, 0, 0, 32⟩]⟩,
    ⟨0xa0044, 0x400, 32, (some (1, 2)),
    [⟨F.SPX_PSER_PSER, 32, 0, 32⟩]⟩,
    ⟨0xa0048, 0x400, 32, none,
    [⟨F.SPX_PINFO_PORT, 0, 0, 5⟩, ⟨F.SPX_PINFO_TBS, 0, 5, 3⟩, ⟨F.SPX_PINFO_UT, 0, 8, 1⟩, ⟨F.SPX_PINFO_SRC, 0, 9, 1⟩, ⟨F.SPX_PINFO_GENL, 0, 10, 8⟩]⟩,
    ⟨0xa0050, 0x400, 32, (some (0, 2)),
    [⟨F.SPX_RTT_RTT, 0, 0, 32⟩]⟩,
    ⟨0xa0054, 0x400, 32, (some (1, 2)),
    [⟨F.SPX_RTT_RTT, 32, 0, 32⟩]⟩,
    ⟨0xa0058, 0x400, 32, (some (0, 2)),
    [⟨F.SPX_OFS_OFS, 0, 0, 32⟩]⟩,
    ⟨0xa005c, 0x400, 32, (some (1, 2)),
    [⟨F.SPX_OFS_OFS, 32, 0, 32⟩]⟩,
    ⟨0xa0060, 0x400, 32, none,
    [⟨F.SPX_ASYM_CUR_ASYM_CUR, 0, 0, 32⟩]⟩,
    ⟨0xa0064, 0x400, 32, none,
    [⟨F.SPX_UNC_CUR_UNC_CUR, 0, 0, 32⟩]⟩ ]

/-- Registers of the SPX block (R413), part 1. -/
def regsSpx1 : List Reg :=
  [ ⟨0xa0068, 0x400, 32, none,
    [⟨F.SPX_MRATE_MRATE, 0, 0, 18⟩]⟩,
    ⟨0xa0070, 0x400, 32, (some (0, 2)),
    [⟨F.SPX_PHASE_PHASE, 0, 0, 32⟩]⟩,
    ⟨0xa0074, 0x400, 32, (some (1, 2)),
    [⟨F.SPX_PHASE_PHASE, 32, 0, 32⟩]⟩,
    ⟨0xa007c, 0x400, 32, none,
    [⟨F.SPX_CNT_CLR_CLR, 0, 0, 1⟩]⟩,
    ⟨0xa0100, 0x400, 32, none,
    [⟨F.SPX_CNT_MARK_TX_N, 0, 0, 32⟩]⟩,
    ⟨0xa0104, 0x400, 32, none,
    [⟨F.SPX_CNT_MARK_RX_N, 0, 0, 32⟩]⟩,
    ⟨0xa0108, 0x400, 32, none,
    [⟨F.SPX_CNT_MEAS_N, 0, 0, 32⟩]⟩,
    ⟨0xa010c, 0x400, 32, none,
    [⟨F.SPX_CNT_REC_N, 0, 0, 32⟩]⟩,
    ⟨0xa0110, 0x400, 32, none,
    [⟨F.SPX_CNT_NACK_TX_N, 0, 0, 32⟩]⟩,
    ⟨0xa0114, 0x400, 32, none,
    [⟨F.SPX_CNT_NACK_RX_N, 0, 0, 32⟩]⟩,
    ⟨0xa0118, 0x400, 32, none,
    [⟨F.SPX_CNT_V_GAP_N, 0, 0, 32⟩]⟩,
    ⟨0xa011c, 0x400, 32, none,
    [⟨F.SPX_CNT_V_FRAG_N, 0, 0, 32⟩]⟩,
    ⟨0xa0120, 0x400, 32, none,
    [⟨F.SPX_CNT_V_UNK_N, 0, 0, 32⟩]⟩,
    ⟨0xa0124, 0x400, 32, none,
    [⟨F.SPX_CNT_V_IPG_N, 0, 0, 32⟩]⟩,
    ⟨0xa0128, 0x400, 32, none,
    [⟨F.SPX_CNT_V_PTP_N, 0, 0, 32⟩]⟩,
    ⟨0xa012c, 0x400, 32, none,
    [⟨F.SPX_CNT_V_DISC_N, 0, 0, 32⟩]⟩,
    ⟨0xa0130, 0x400, 32, none,
    [⟨F.SPX_CNT_STALE_N, 0, 0, 32⟩]⟩,
    ⟨0xa0134, 0x400, 32, none,
    [⟨F.SPX_CNT_DISC_TX_N, 0, 0, 32⟩]⟩,
    ⟨0xa0138, 0x400, 32, none,
    [⟨F.SPX_CNT_DISC_RX_N, 0, 0, 32⟩]⟩,
    ⟨0xa013c, 0x400, 32, none,
    [⟨F.SPX_CNT_DISC_NOCELL_N, 0, 0, 32⟩]⟩ ]

/-- Registers of the SPX block (R413), part 2. -/
def regsSpx2 : List Reg :=
  [ ⟨0xa0140, 0x400, 32, none,
    [⟨F.SPX_CNT_RTT_STEPS_N, 0, 0, 32⟩]⟩ ]

/-- Every register of the SPX block (R413). -/
def regsSpx : List Reg := regsSpx0 ++ regsSpx1 ++ regsSpx2

/-- Registers of the AT block (R413), part 0. -/
def regsAt0 : List Reg :=
  [ ⟨0xc0000, 0x0, 1, none,
    [⟨F.AT_CTRL_XEN, 0, 0, 1⟩, ⟨F.AT_CTRL_LEARN_EN, 0, 1, 1⟩, ⟨F.AT_CTRL_MIRROR_EN, 0, 2, 1⟩, ⟨F.AT_CTRL_WAKE_PULSE, 0, 3, 1⟩, ⟨F.AT_CTRL_DISC_EN, 0, 4, 1⟩]⟩,
    ⟨0xc0004, 0x0, 1, none,
    [⟨F.AT_STAT_SRC, 0, 0, 1⟩, ⟨F.AT_STAT_VBAT_LOW, 0, 1, 1⟩, ⟨F.AT_STAT_TIME_VALID, 0, 2, 1⟩, ⟨F.AT_STAT_CELL_LOSS, 0, 3, 1⟩, ⟨F.AT_STAT_APOR, 0, 4, 1⟩, ⟨F.AT_STAT_TBL_VALID, 0, 5, 1⟩, ⟨F.AT_STAT_WAKE, 0, 6, 1⟩, ⟨F.AT_STAT_LEAP61, 0, 7, 1⟩, ⟨F.AT_STAT_LEAP59, 0, 8, 1⟩, ⟨F.AT_STAT_CAL_RANGE, 0, 9, 1⟩, ⟨F.AT_STAT_UTC_PEND, 0, 10, 1⟩, ⟨F.AT_STAT_MAIN, 0, 11, 1⟩]⟩,
    ⟨0xc0010, 0x0, 1, (some (0, 2)),
    [⟨F.AT_TAI_TAI, 0, 0, 32⟩]⟩,
    ⟨0xc0014, 0x0, 1, (some (1, 2)),
    [⟨F.AT_TAI_TAI, 32, 0, 16⟩]⟩,
    ⟨0xc0018, 0x0, 1, none,
    [⟨F.AT_SUBSEC_CYC, 0, 0, 15⟩]⟩,
    ⟨0xc0020, 0x0, 1, none,
    [⟨F.AT_CAL_DATE_DAY, 0, 0, 5⟩, ⟨F.AT_CAL_DATE_WDAY, 0, 5, 3⟩, ⟨F.AT_CAL_DATE_MONTH, 0, 8, 4⟩, ⟨F.AT_CAL_DATE_YEAR, 0, 16, 12⟩]⟩,
    ⟨0xc0024, 0x0, 1, none,
    [⟨F.AT_CAL_TIME_SEC, 0, 0, 6⟩, ⟨F.AT_CAL_TIME_MIN, 0, 8, 6⟩, ⟨F.AT_CAL_TIME_HOUR, 0, 16, 5⟩]⟩,
    ⟨0xc0028, 0x0, 1, none,
    [⟨F.AT_UTC_OFS, 0, 0, 16⟩, ⟨F.AT_UTC_NEXT, 0, 16, 16⟩]⟩,
    ⟨0xc002c, 0x0, 1, (some (0, 2)),
    [⟨F.AT_UTC_AT_AT, 0, 0, 32⟩]⟩,
    ⟨0xc0030, 0x0, 1, (some (1, 2)),
    [⟨F.AT_UTC_AT_AT, 32, 0, 16⟩]⟩,
    ⟨0xc0040, 0x0, 1, none,
    [⟨F.AT_TRIM_TRIM, 0, 0, 16⟩]⟩,
    ⟨0xc0044, 0x0, 1, none,
    [⟨F.AT_FCURVE_F0, 0, 0, 16⟩, ⟨F.AT_FCURVE_T0, 0, 16, 8⟩]⟩,
    ⟨0xc0048, 0x0, 1, none,
    [⟨F.AT_FCURVE2_K, 0, 0, 16⟩]⟩,
    ⟨0xc004c, 0x0, 1, none,
    [⟨F.AT_TEMP_TEMP, 0, 0, 12⟩]⟩,
    ⟨0xc0080, 0x10, 4, none,
    [⟨F.AT_AL_CTRL_EN, 0, 0, 1⟩, ⟨F.AT_AL_CTRL_RESP, 0, 8, 9⟩, ⟨F.AT_AL_CTRL_ACT_IDX, 0, 18, 14⟩]⟩,
    ⟨0xc0084, 0x10, 4, (some (0, 2)),
    [⟨F.AT_AL_TIME_TIME, 0, 0, 32⟩]⟩,
    ⟨0xc0088, 0x10, 4, (some (1, 2)),
    [⟨F.AT_AL_TIME_TIME, 32, 0, 16⟩]⟩,
    ⟨0xc008c, 0x10, 4, none,
    [⟨F.AT_AL_REP_REP, 0, 0, 32⟩]⟩,
    ⟨0xc00c0, 0x0, 1, none,
    [⟨F.AT_AL_STAT_FIRED, 0, 0, 4⟩, ⟨F.AT_AL_STAT_PAST, 0, 4, 4⟩]⟩,
    ⟨0xc00d0, 0x4, 4, none,
    [⟨F.AT_KEY_VALID, 0, 0, 1⟩, ⟨F.AT_KEY_KEYID, 0, 8, 8⟩, ⟨F.AT_KEY_KCV, 0, 16, 16⟩]⟩ ]

/-- Registers of the AT block (R413), part 1. -/
def regsAt1 : List Reg :=
  [ ⟨0xc00e0, 0x0, 1, none,
    [⟨F.AT_LOG_PTR_HEAD, 0, 0, 6⟩, ⟨F.AT_LOG_PTR_NEW, 0, 8, 7⟩, ⟨F.AT_LOG_PTR_OVF, 0, 16, 16⟩]⟩,
    ⟨0xc00e4, 0x0, 1, none,
    [⟨F.AT_RETAIN_LOGFAIL, 0, 0, 1⟩, ⟨F.AT_RETAIN_COLLAPSE, 0, 1, 1⟩, ⟨F.AT_RETAIN_TBL_RESTORED, 0, 2, 1⟩, ⟨F.AT_RETAIN_KEY_ERR, 0, 3, 1⟩, ⟨F.AT_RETAIN_UNL_USED, 0, 4, 1⟩]⟩,
    ⟨0xc00e8, 0x0, 1, none,
    [⟨F.AT_DEFER_INT, 0, 0, 1⟩, ⟨F.AT_DEFER_RESET, 0, 1, 1⟩, ⟨F.AT_DEFER_TAINT, 0, 2, 1⟩, ⟨F.AT_DEFER_ACT, 0, 3, 1⟩, ⟨F.AT_DEFER_MOOT, 0, 4, 1⟩, ⟨F.AT_DEFER_SRC, 0, 16, 9⟩]⟩,
    ⟨0xc00ec, 0x0, 1, none,
    [⟨F.AT_DEFER_LAST_DEFER_LAST, 0, 0, 32⟩]⟩,
    ⟨0xc00f0, 0x0, 1, none,
    [⟨F.AT_OUTAGE_OUTAGE, 0, 0, 32⟩]⟩,
    ⟨0xc0100, 0x4, 64, none,
    [⟨F.AT_TBL_E, 0, 0, 20⟩, ⟨F.AT_TBL_N, 0, 20, 8⟩, ⟨F.AT_TBL_LEARNED, 0, 28, 1⟩]⟩,
    ⟨0xc0200, 0x8, 64, none,
    [⟨F.AT_LOG_ENTRY, 0, 0, 32⟩]⟩,
    ⟨0xc0204, 0x8, 64, none,
    [⟨F.AT_LOG_ENTRY, 32, 0, 32⟩]⟩ ]

/-- Every register of the AT block (R413). -/
def regsAt : List Reg := regsAt0 ++ regsAt1

/-- Registers of the SQ block (R413), part 0. -/
def regsSq0 : List Reg :=
  [ ⟨0xd0000, 0x0, 1, none,
    [⟨F.SQ_CTRL_XEN, 0, 0, 1⟩, ⟨F.SQ_CTRL_BTN_OFF, 0, 1, 1⟩, ⟨F.SQ_CTRL_AUTO_ON, 0, 2, 1⟩, ⟨F.SQ_CTRL_PROG, 0, 3, 2⟩]⟩,
    ⟨0xd0004, 0x0, 1, none,
    [⟨F.SQ_STATUS_STATE, 0, 0, 8⟩, ⟨F.SQ_STATUS_SEQ, 0, 8, 3⟩, ⟨F.SQ_STATUS_POS, 0, 11, 4⟩, ⟨F.SQ_STATUS_CASC_ERR, 0, 15, 1⟩, ⟨F.SQ_STATUS_PROG_ERR, 0, 16, 1⟩, ⟨F.SQ_STATUS_RETRY, 0, 17, 4⟩, ⟨F.SQ_STATUS_OFF_PEND, 0, 21, 1⟩, ⟨F.SQ_STATUS_ON_PEND, 0, 22, 1⟩, ⟨F.SQ_STATUS_LOCK_PEND, 0, 23, 1⟩, ⟨F.SQ_STATUS_SD_LATCH, 0, 24, 1⟩, ⟨F.SQ_STATUS_ACK_RUN, 0, 25, 1⟩, ⟨F.SQ_STATUS_ACKED, 0, 26, 1⟩, ⟨F.SQ_STATUS_COLLAPSED, 0, 27, 1⟩, ⟨F.SQ_STATUS_CORE_GOOD, 0, 28, 1⟩]⟩,
    ⟨0xd0008, 0x0, 1, none,
    [⟨F.SQ_EVT_UP_START, 0, 0, 1⟩, ⟨F.SQ_EVT_UP_DONE, 0, 1, 1⟩, ⟨F.SQ_EVT_DOWN_START, 0, 2, 1⟩, ⟨F.SQ_EVT_REVERSED, 0, 3, 1⟩, ⟨F.SQ_EVT_DOWN_DONE, 0, 4, 1⟩, ⟨F.SQ_EVT_FAIL_C, 0, 5, 1⟩, ⟨F.SQ_EVT_FAIL_P, 0, 6, 1⟩, ⟨F.SQ_EVT_LOCKOUT, 0, 7, 1⟩, ⟨F.SQ_EVT_OFF_TO, 0, 8, 1⟩, ⟨F.SQ_EVT_PREBIAS, 0, 9, 1⟩, ⟨F.SQ_EVT_BTN_SHORT, 0, 10, 1⟩, ⟨F.SQ_EVT_BTN_LONG, 0, 11, 1⟩, ⟨F.SQ_EVT_ACK_TIMEOUT, 0, 12, 1⟩, ⟨F.SQ_EVT_MR, 0, 13, 1⟩, ⟨F.SQ_EVT_ON_REFUSED, 0, 14, 1⟩, ⟨F.SQ_EVT_CASC_ERR, 0, 15, 1⟩]⟩,
    ⟨0xd0010, 0x0, 1, none,
    [⟨F.SQ_TIME0_PGSTAB, 0, 0, 8⟩, ⟨F.SQ_TIME0_PGTO, 0, 16, 10⟩]⟩,
    ⟨0xd0014, 0x0, 1, none,
    [⟨F.SQ_TIME1_PGDROP, 0, 0, 10⟩, ⟨F.SQ_TIME1_CHAT_MAX, 0, 16, 8⟩, ⟨F.SQ_TIME1_SQ_RETRY, 0, 24, 3⟩]⟩,
    ⟨0xd0018, 0x0, 1, none,
    [⟨F.SQ_TIME2_OFFMIN, 0, 0, 14⟩, ⟨F.SQ_TIME2_OFFTO, 0, 16, 10⟩]⟩,
    ⟨0xd001c, 0x0, 1, none,
    [⟨F.SQ_TIME3_ACK, 0, 0, 8⟩, ⟨F.SQ_TIME3_LONG, 0, 8, 4⟩, ⟨F.SQ_TIME3_RST, 0, 16, 10⟩]⟩,
    ⟨0xd0020, 0x0, 1, none,
    [⟨F.SQ_FAIL_CH, 0, 0, 5⟩, ⟨F.SQ_FAIL_CAUSE, 0, 5, 3⟩, ⟨F.SQ_FAIL_STATE, 0, 8, 8⟩, ⟨F.SQ_FAIL_CLASS, 0, 16, 1⟩]⟩,
    ⟨0xd0100, 0x10, 24, none,
    [⟨F.SQ_RAIL_CFG_ON_STEP, 0, 0, 4⟩, ⟨F.SQ_RAIL_CFG_OFF_STEP, 0, 4, 4⟩, ⟨F.SQ_RAIL_CFG_CLASS, 0, 8, 1⟩, ⟨F.SQ_RAIL_CFG_CORE, 0, 9, 1⟩, ⟨F.SQ_RAIL_CFG_OD, 0, 10, 1⟩, ⟨F.SQ_RAIL_CFG_NOSENSE, 0, 11, 1⟩, ⟨F.SQ_RAIL_CFG_VALID, 0, 12, 1⟩]⟩,
    ⟨0xd0104, 0x10, 24, none,
    [⟨F.SQ_RAIL_THR_GOOD_THR, 0, 0, 10⟩, ⟨F.SQ_RAIL_THR_OFF_THR, 0, 16, 10⟩]⟩,
    ⟨0xd0108, 0x10, 24, none,
    [⟨F.SQ_RAIL_DEP_DEP, 0, 0, 24⟩]⟩,
    ⟨0xd010c, 0x10, 24, none,
    [⟨F.SQ_RAIL_ST_ST, 0, 0, 3⟩, ⟨F.SQ_RAIL_ST_GOOD_CMP, 0, 3, 1⟩, ⟨F.SQ_RAIL_ST_OFF_CMP, 0, 4, 1⟩, ⟨F.SQ_RAIL_ST_CAUSE, 0, 5, 3⟩, ⟨F.SQ_RAIL_ST_HELD, 0, 8, 1⟩, ⟨F.SQ_RAIL_ST_GLITCH, 0, 16, 8⟩, ⟨F.SQ_RAIL_ST_CHAT, 0, 24, 8⟩]⟩ ]

/-- Every register of the SQ block (R413). -/
def regsSq : List Reg := regsSq0

/-- Registers of the MON block (R413), part 0. -/
def regsMon0 : List Reg :=
  [ ⟨0xe0000, 0x0, 1, none,
    [⟨F.MON_CTRL_XEN, 0, 0, 1⟩, ⟨F.MON_CTRL_GOV_EN, 0, 1, 1⟩, ⟨F.MON_CTRL_EV_RING, 0, 2, 2⟩]⟩,
    ⟨0xe0004, 0x0, 1, none,
    [⟨F.MON_STATUS_ACTIVE, 0, 0, 8⟩, ⟨F.MON_STATUS_SHED_LVL, 0, 8, 3⟩, ⟨F.MON_STATUS_JT_LVL, 0, 11, 2⟩, ⟨F.MON_STATUS_UNLOCKED, 0, 13, 1⟩, ⟨F.MON_STATUS_UNL_AGENT, 0, 14, 1⟩, ⟨F.MON_STATUS_UNLOCK_FAILS, 0, 15, 4⟩]⟩,
    ⟨0xe0008, 0x0, 1, none,
    [⟨F.MON_EVT_CONF, 0, 0, 1⟩, ⟨F.MON_EVT_ST_PASS, 0, 1, 1⟩, ⟨F.MON_EVT_ST_FAIL, 0, 2, 1⟩, ⟨F.MON_EVT_JT_WARN, 0, 3, 1⟩, ⟨F.MON_EVT_JT_SHED, 0, 4, 1⟩, ⟨F.MON_EVT_GOV_SHED, 0, 5, 1⟩, ⟨F.MON_EVT_GOV_RESTORE, 0, 6, 1⟩, ⟨F.MON_EVT_GOV_OVER, 0, 7, 1⟩, ⟨F.MON_EVT_UNLOCK_FAIL, 0, 8, 1⟩, ⟨F.MON_EVT_STICKY_REFUSED, 0, 9, 1⟩, ⟨F.MON_EVT_RAISED, 0, 10, 1⟩]⟩,
    ⟨0xe000c, 0x0, 1, none,
    [⟨F.MON_UNLOCK_KEY, 0, 0, 16⟩]⟩,
    ⟨0xe0010, 0x0, 1, none,
    [⟨F.MON_STICKY_MS, 0, 0, 8⟩, ⟨F.MON_STICKY_AL, 0, 8, 4⟩]⟩,
    ⟨0xe0014, 0x0, 1, none,
    [⟨F.MON_AT_STAT_CAL_INV, 0, 0, 1⟩, ⟨F.MON_AT_STAT_RC_RUN, 0, 1, 1⟩]⟩,
    ⟨0xe0018, 0x0, 1, none,
    [⟨F.MON_JTEMP_JTEMP, 0, 0, 12⟩, ⟨F.MON_JTEMP_JMAX, 0, 16, 12⟩, ⟨F.MON_JTEMP_JMAX_CLR, 0, 31, 1⟩]⟩,
    ⟨0xe0020, 0x0, 1, none,
    [⟨F.MON_GOV_STAT_P, 0, 0, 15⟩, ⟨F.MON_GOV_STAT_OVER, 0, 15, 1⟩, ⟨F.MON_GOV_STAT_USED, 0, 16, 16⟩]⟩,
    ⟨0xe0024, 0x0, 1, none,
    [⟨F.MON_GOV_THR_SHED_AT, 0, 0, 12⟩, ⟨F.MON_GOV_THR_RESTORE_AT, 0, 12, 12⟩, ⟨F.MON_GOV_THR_PIO, 0, 24, 8⟩]⟩,
    ⟨0xe0028, 0x0, 1, none,
    [⟨F.MON_GOV_LIM_PCONT, 0, 0, 16⟩, ⟨F.MON_GOV_LIM_BUDGET, 0, 16, 16⟩]⟩,
    ⟨0xe002c, 0x0, 1, none,
    [⟨F.MON_GOV_OVER_OVER_S, 0, 0, 32⟩]⟩,
    ⟨0xe0100, 0x10, 5, none,
    [⟨F.MON_SRCA_CTRL_EN, 0, 0, 1⟩, ⟨F.MON_SRCA_CTRL_RESP, 0, 1, 7⟩, ⟨F.MON_SRCA_CTRL_K, 0, 8, 8⟩, ⟨F.MON_SRCA_CTRL_W, 0, 16, 16⟩]⟩,
    ⟨0xe0104, 0x10, 5, none,
    [⟨F.MON_SRCA_PARAM_PARAM, 0, 0, 32⟩]⟩,
    ⟨0xe0108, 0x10, 5, none,
    [⟨F.MON_SRCA_CNT_CONF_CNT, 0, 0, 16⟩, ⟨F.MON_SRCA_CNT_DET_CNT, 0, 16, 16⟩]⟩,
    ⟨0xe010c, 0x10, 5, none,
    [⟨F.MON_SRCA_ST_ST_RES, 0, 0, 2⟩, ⟨F.MON_SRCA_ST_ST_BUSY, 0, 2, 1⟩]⟩,
    ⟨0xe0150, 0x10, 3, none,
    [⟨F.MON_SRCS_CTRL_EN, 0, 0, 1⟩, ⟨F.MON_SRCS_CTRL_RESP, 0, 1, 7⟩, ⟨F.MON_SRCS_CTRL_K, 0, 8, 8⟩, ⟨F.MON_SRCS_CTRL_W, 0, 16, 16⟩]⟩,
    ⟨0xe0158, 0x10, 3, none,
    [⟨F.MON_SRCS_CNT_CONF_CNT, 0, 0, 16⟩, ⟨F.MON_SRCS_CNT_DET_CNT, 0, 16, 16⟩]⟩,
    ⟨0xe015c, 0x10, 3, none,
    [⟨F.MON_SRCS_ST_ST_RES, 0, 0, 2⟩, ⟨F.MON_SRCS_ST_ST_BUSY, 0, 2, 1⟩]⟩ ]

/-- Every register of the MON block (R413). -/
def regsMon : List Reg := regsMon0

/-- Registers of the REC block (R413), part 0. -/
def regsRec0 : List Reg :=
  [ ⟨0xf0000, 0x0, 1, none,
    [⟨F.REC_CTRL_XEN, 0, 0, 1⟩, ⟨F.REC_CTRL_COMPACT_EN, 0, 1, 1⟩, ⟨F.REC_CTRL_EV_RING, 0, 2, 2⟩]⟩,
    ⟨0xf0004, 0x0, 1, none,
    [⟨F.REC_PERIOD_PERIOD, 0, 0, 11⟩]⟩,
    ⟨0xf0008, 0x0, 1, none,
    [⟨F.REC_XCTRL_CREDIT_INT, 0, 0, 8⟩, ⟨F.REC_XCTRL_COMPACT_INT, 0, 16, 8⟩]⟩,
    ⟨0xf000c, 0x0, 1, none,
    [⟨F.REC_HSEL0_SLOT0, 0, 0, 5⟩, ⟨F.REC_HSEL0_SLOT1, 0, 8, 5⟩, ⟨F.REC_HSEL0_SLOT2, 0, 16, 5⟩, ⟨F.REC_HSEL0_SLOT3, 0, 24, 5⟩]⟩,
    ⟨0xf0010, 0x0, 1, none,
    [⟨F.REC_HSEL1_SLOT4, 0, 0, 5⟩, ⟨F.REC_HSEL1_SLOT5, 0, 8, 5⟩, ⟨F.REC_HSEL1_SLOT6, 0, 16, 5⟩, ⟨F.REC_HSEL1_SLOT7, 0, 24, 5⟩]⟩,
    ⟨0xf0014, 0x0, 1, none,
    [⟨F.REC_TRIG_EN_EN, 0, 0, 7⟩]⟩,
    ⟨0xf0020, 0x0, 1, none,
    [⟨F.REC_STATUS_READY, 0, 0, 1⟩, ⟨F.REC_STATUS_RO_MODE, 0, 1, 1⟩, ⟨F.REC_STATUS_WRITING, 0, 2, 1⟩, ⟨F.REC_STATUS_COMPACTING, 0, 3, 1⟩, ⟨F.REC_STATUS_COMPACT_DEFER, 0, 4, 1⟩, ⟨F.REC_STATUS_PRES_FULL, 0, 5, 1⟩, ⟨F.REC_STATUS_MAP_ERR, 0, 6, 1⟩, ⟨F.REC_STATUS_SB_VALID, 0, 7, 1⟩, ⟨F.REC_STATUS_QLEN, 0, 8, 6⟩]⟩,
    ⟨0xf0024, 0x0, 1, none,
    [⟨F.REC_EVT_REC_FAIL, 0, 0, 1⟩, ⟨F.REC_EVT_LOG_MEDIA, 0, 1, 1⟩, ⟨F.REC_EVT_SUPPR, 0, 2, 1⟩, ⟨F.REC_EVT_TORN, 0, 3, 1⟩, ⟨F.REC_EVT_MAP_ERR, 0, 4, 1⟩, ⟨F.REC_EVT_NO_CREDIT, 0, 5, 1⟩, ⟨F.REC_EVT_REFRESH, 0, 6, 1⟩]⟩,
    ⟨0xf0028, 0x0, 1, none,
    [⟨F.REC_SEQ_SEQ, 0, 0, 32⟩]⟩,
    ⟨0xf0030, 0x0, 1, (some (0, 2)),
    [⟨F.REC_OPSEC_OPSEC, 0, 0, 32⟩]⟩,
    ⟨0xf0034, 0x0, 1, (some (1, 2)),
    [⟨F.REC_OPSEC_OPSEC, 32, 0, 8⟩]⟩,
    ⟨0xf0038, 0x0, 1, none,
    [⟨F.REC_PCC_PCC, 0, 0, 32⟩]⟩,
    ⟨0xf003c, 0x0, 1, none,
    [⟨F.REC_CREDIT_CREDIT, 0, 0, 12⟩]⟩,
    ⟨0xf0040, 0x0, 1, none,
    [⟨F.REC_BAD_CIRC, 0, 0, 10⟩, ⟨F.REC_BAD_PRES, 0, 16, 9⟩]⟩,
    ⟨0xf0044, 0x0, 1, none,
    [⟨F.REC_SUPPR_TOTAL_TOTAL, 0, 0, 32⟩]⟩,
    ⟨0xf0048, 0x0, 1, none,
    [⟨F.REC_HEAD_SECT, 0, 0, 9⟩, ⟨F.REC_HEAD_SLOT, 0, 9, 2⟩, ⟨F.REC_HEAD_COUNT, 0, 16, 12⟩]⟩,
    ⟨0xf004c, 0x0, 1, none,
    [⟨F.REC_PRES_COUNT, 0, 0, 11⟩]⟩,
    ⟨0xf0050, 0x0, 1, none,
    [⟨F.REC_MAPGEN_MAPGEN, 0, 0, 32⟩]⟩,
    ⟨0xf0054, 0x0, 1, none,
    [⟨F.REC_SUPPR_PEND_PEND, 0, 0, 16⟩]⟩ ]

/-- Every register of the REC block (R413). -/
def regsRec : List Reg := regsRec0

/-- Registers of the CAL block (R413), part 0. -/
def regsCal0 : List Reg :=
  [ ⟨0x100000, 0x0, 1, none,
    [⟨F.CAL_CTRL_XEN, 0, 0, 1⟩, ⟨F.CAL_CTRL_AUTO_TRACE, 0, 1, 1⟩, ⟨F.CAL_CTRL_STORE_EN, 0, 2, 1⟩, ⟨F.CAL_CTRL_PER_EN, 0, 3, 1⟩, ⟨F.CAL_CTRL_PERIOD, 0, 8, 8⟩]⟩,
    ⟨0x100004, 0x0, 1, none,
    [⟨F.CAL_XCTRL_AGREE_PORT, 0, 0, 8⟩, ⟨F.CAL_XCTRL_AGREE_REF, 0, 8, 8⟩, ⟨F.CAL_XCTRL_DRIFT_MAX, 0, 16, 12⟩]⟩,
    ⟨0x100008, 0x0, 1, none,
    [⟨F.CAL_PMASK_PMASK, 0, 0, 32⟩]⟩,
    ⟨0x100010, 0x0, 1, none,
    [⟨F.CAL_STAT_BUSY, 0, 0, 1⟩, ⟨F.CAL_STAT_RUN, 0, 1, 2⟩, ⟨F.CAL_STAT_STEP, 0, 3, 2⟩, ⟨F.CAL_STAT_UNTRACED, 0, 5, 1⟩, ⟨F.CAL_STAT_COPY, 0, 6, 1⟩, ⟨F.CAL_STAT_NO_COPY, 0, 7, 1⟩, ⟨F.CAL_STAT_SENSE, 0, 8, 3⟩, ⟨F.CAL_STAT_DLL_LIN, 0, 11, 3⟩, ⟨F.CAL_STAT_PORT_LB, 0, 14, 3⟩, ⟨F.CAL_STAT_REF_ALIGN, 0, 17, 3⟩, ⟨F.CAL_STAT_FAIL_STEP, 0, 20, 2⟩, ⟨F.CAL_STAT_FAIL_UNIT, 0, 22, 8⟩, ⟨F.CAL_STAT_STORE_FAIL, 0, 30, 1⟩]⟩,
    ⟨0x100014, 0x0, 1, none,
    [⟨F.CAL_EVT_RUN_DONE, 0, 0, 1⟩, ⟨F.CAL_EVT_UNIT_FAIL, 0, 1, 1⟩, ⟨F.CAL_EVT_REF_QUAL, 0, 2, 1⟩, ⟨F.CAL_EVT_REF_LOSS, 0, 3, 1⟩, ⟨F.CAL_EVT_TRACED, 0, 4, 1⟩, ⟨F.CAL_EVT_UNTRACED, 0, 5, 1⟩, ⟨F.CAL_EVT_COPY_TORN, 0, 6, 1⟩, ⟨F.CAL_EVT_STORE_DONE, 0, 7, 1⟩, ⟨F.CAL_EVT_STORE_FAIL, 0, 8, 1⟩]⟩,
    ⟨0x100018, 0x0, 1, none,
    [⟨F.CAL_GEN_GEN, 0, 0, 32⟩]⟩,
    ⟨0x10001c, 0x0, 1, none,
    [⟨F.CAL_REFMON_REF_QUAL, 0, 0, 1⟩, ⟨F.CAL_REFMON_CLK_ERR, 0, 8, 8⟩, ⟨F.CAL_REFMON_PPS_ERR, 0, 16, 16⟩]⟩,
    ⟨0x100020, 0x0, 1, none,
    [⟨F.CAL_TRACE_P_PORT, 0, 0, 32⟩]⟩,
    ⟨0x100024, 0x0, 1, none,
    [⟨F.CAL_TRACE_T_TIO, 0, 0, 16⟩, ⟨F.CAL_TRACE_T_LINE, 0, 16, 3⟩]⟩,
    ⟨0x100028, 0x0, 1, (some (0, 3)),
    [⟨F.CAL_SWRAW_RAW, 0, 0, 32⟩]⟩,
    ⟨0x10002c, 0x0, 1, (some (1, 3)),
    [⟨F.CAL_SWRAW_RAW, 32, 0, 32⟩]⟩,
    ⟨0x100030, 0x0, 1, (some (2, 3)),
    [⟨F.CAL_SWRAW_RAW, 64, 0, 9⟩]⟩ ]

/-- Every register of the CAL block (R413). -/
def regsCal : List Reg := regsCal0

/-- Registers of the TST block (R413), part 0. -/
def regsTst0 : List Reg :=
  [ ⟨0x110000, 0x0, 1, none,
    [⟨F.TST_KEY_KEY, 0, 0, 16⟩]⟩,
    ⟨0x110004, 0x0, 1, none,
    [⟨F.TST_STATUS_UNLOCKED, 0, 0, 1⟩, ⟨F.TST_STATUS_ACTIVE, 0, 1, 1⟩, ⟨F.TST_STATUS_KEY_FAILS, 0, 2, 8⟩]⟩,
    ⟨0x110010, 0x0, 1, none,
    [⟨F.TST_DBDLY_DLY, 0, 0, 16⟩]⟩,
    ⟨0x110014, 0x0, 1, none,
    [⟨F.TST_BP_RING, 0, 0, 8⟩, ⟨F.TST_BP_EN, 0, 8, 1⟩]⟩,
    ⟨0x110020, 0x0, 1, none,
    [⟨F.TST_ECC_ADDR_WADDR, 0, 0, 20⟩, ⟨F.TST_ECC_ADDR_KIND, 0, 20, 1⟩]⟩,
    ⟨0x110024, 0x0, 1, none,
    [⟨F.TST_ECC_CTRL_NBITS, 0, 0, 2⟩, ⟨F.TST_ECC_CTRL_P, 0, 2, 8⟩, ⟨F.TST_ECC_CTRL_ARM, 0, 10, 1⟩]⟩,
    ⟨0x110030, 0x0, 1, none,
    [⟨F.TST_VSN_CH, 0, 0, 5⟩, ⟨F.TST_VSN_COUNT, 0, 8, 5⟩, ⟨F.TST_VSN_ARMED, 0, 13, 1⟩]⟩,
    ⟨0x110034, 0x0, 1, none,
    [⟨F.TST_SYN_FORCE_UNLOCK, 0, 0, 1⟩]⟩,
    ⟨0x110100, 0x4, 32, none,
    [⟨F.TST_TSOFS_RX, 0, 0, 12⟩, ⟨F.TST_TSOFS_TX, 0, 16, 12⟩]⟩,
    ⟨0x110200, 0x4, 32, none,
    [⟨F.TST_SPXDROP_K, 0, 0, 5⟩]⟩,
    ⟨0x110300, 0x4, 16, none,
    [⟨F.TST_TIOSKEW_SKEW, 0, 0, 12⟩]⟩ ]

/-- Every register of the TST block (R413). -/
def regsTst : List Reg := regsTst0

/-- Registers of the PSM block (R413), part 0. -/
def regsPsm0 : List Reg :=
  [ ⟨0x1c0000, 0x0, 1, none,
    [⟨F.PSM_CTRL_EN, 0, 0, 1⟩]⟩,
    ⟨0x1c0100, 0x10, 4, none,
    [⟨F.PSM_CMD_CMD, 0, 0, 2⟩]⟩,
    ⟨0x1c0104, 0x10, 4, none,
    [⟨F.PSM_STAT_SERVICE, 0, 0, 1⟩, ⟨F.PSM_STAT_ERR, 0, 1, 3⟩, ⟨F.PSM_STAT_OWNER, 0, 4, 8⟩, ⟨F.PSM_STAT_RES, 0, 12, 8⟩, ⟨F.PSM_STAT_NWIGN, 0, 20, 6⟩, ⟨F.PSM_STAT_UCODE_OK, 0, 26, 6⟩]⟩,
    ⟨0x1c0108, 0x10, 4, none,
    [⟨F.PSM_UCODE_WORD, 0, 0, 32⟩]⟩ ]

/-- Every register of the PSM block (R413). -/
def regsPsm : List Reg := regsPsm0

/-- The registers of the block that an address of BAR0 lies in (R413). -/
def blockRegs (addr : Nat) : List Reg :=
  match addr / 0x10000 with
  | 0 => regsGlb
  | 1 => regsHif
  | 2 => regsMem
  | 3 => regsTb
  | 4 => regsCk
  | 5 => regsTa
  | 6 | 7 => regsSrv
  | 8 | 9 => regsStr
  | 10 | 11 => regsSpx
  | 12 => regsAt
  | 13 => regsSq
  | 14 => regsMon
  | 15 => regsRec
  | 16 => regsCal
  | 17 => regsTst
  | 28 => regsPsm
  | _ => []

end Sys2Proof.Machine
end

