-- ==== Sys2Proof/Machine/Operands.lean ====
section
/-!
DEFINITION. Register reads (R13 to R18, R346, R415 to R417): the register at an address, its word, the values that the hardware
computes at a read, and the latches of wide registers. Writes are in BusWrite.lean.
-/
namespace Sys2Proof.Machine

/-- The register at an address and its instance (R413). -/
def findReg (a : Nat) : Option (Reg × Nat) :=
  (blockRegs a).findSome? (fun r =>
    if a < r.addr then none
    else if r.stride = 0 then (if a = r.addr then some (r, 0) else none)
    else
      let i := (a - r.addr) / r.stride
      if (a - r.addr) % r.stride = 0 && decide (i < r.count) then some (r, i) else none)

/-- A perturbation is nonzero or armed (R405): TST_STATUS.ACTIVE. -/
def State.tstActive (s : State) : Bool :=
  s.get F.TST_DBDLY_DLY ≠ 0 || s.on F.TST_BP_EN || s.on F.TST_ECC_CTRL_ARM || s.on F.TST_VSN_ARMED || s.ck.forced
    || (List.range 32).any (fun n => s.get F.TST_TSOFS_RX n ≠ 0 || s.get F.TST_TSOFS_TX n ≠ 0 || s.get F.TST_SPXDROP_K n ≠ 0)
    || (List.range 16).any (fun n => s.get F.TST_TIOSKEW_SKEW n ≠ 0)

/-- What a field shows (R69, R132, R162, R171, R177, R288, R306, R345, R376): most fields show what they hold; some are counts or images of other
state; K, W and the SHUTDOWN bit of MS2 and MS7 are fixed. -/
def State.shown (s : State) (f : Fld) (i : Nat) : Nat :=
  match f.addr, f.lo with
  | 0x10008, 0 => s.hif.inflight.length
  | 0x30020, 6 => s.get F.CK_STATUS_SYN_UNLOCK
  | 0x30028, 16 => (s.tb.cur.map (·.index)).getD 0
  | 0x30040, 0 => toBits 40 ((s.tb.cur.map (·.rate)).getD 0)
  | 0x30050, 0 => s.raw % 2 ^ 73
  | 0x60028, 0 => s.au
  | 0x600AC, 16 => b2n s.slotEmpty
  | 0x61010, 1 => match s.classLimit i with
      | some l => b2n (s.annWithin i l)
      | none => 0
  | 0xA0030, 24 => s.effRate i
  | 0x110004, 1 => b2n s.tstActive
  | 0x100010, 5 => s.get F.TB_STATUS_UNTRACED
  | 0xE0100, 8 => if i = 2 then 1 else s.get f i
  | 0xE0100, 16 => if i = 2 then 1 else s.get f i
  | 0xE0150, 1 => if i = 2 then s.get f i ||| 32 else s.get f i
  | _, _ => s.get f i

/-- The field lies behind the crossing to an Atoll without supply (R24). -/
def State.clamped (s : State) (f : Fld) : Bool := !s.pwr.aonUp && (f.dom = .aon || f.dom = .sticky)

/-- The word a register shows; WO fields and reserved bits read 0 (R15, R17), and so does what a clamped crossing hides (R24). -/
def State.regWord (s : State) (r : Reg) (i : Nat) : Nat :=
  r.slices.foldl (fun a x =>
    match x.fld.acc with
    | .wo => a
    | _ => if s.clamped x.fld then a else a + bits (s.shown x.fld i) x.src x.width * 2 ^ x.lo) 0

/-! ### The windows of the calibration set (R346) -/

/-- The word at an address of the CAL windows; none outside them. Unbonded resources read 0 (R4). -/
def State.calWindow (s : State) (a : Nat) : Option Nat :=
  let v := s.fuses.variant
  let word (off : Nat) : Nat := toBits 32 (Store.get 0 s.calSet off)
  let byte (off : Nat) : Nat := toBits 8 (Store.get 0 s.calSet off)
  let o := a - 0x100000
  if a < 0x100100 || 0x10C600 ≤ a then none
  else if o < 0x900 then
    let n := (o - 0x100) / 0x40
    let w := (o - 0x100) % 0x40 / 4
    some (if v.ports ≤ n || 12 ≤ w then 0 else word (0x40 + 48 * n + 4 * w))
  else if o < 0x980 then some (if v.tios ≤ (o - 0x900) / 8 then 0 else word (0x640 + (o - 0x900)))
  else if o < 0x98C then some (word (0x6E0 + (o - 0x980)))
  else if o < 0x9A0 then none
  else if o < 0x9C0 then some (if v.ckos ≤ (o - 0x9A0) / 4 then 0 else word (0x6C0 + (o - 0x9A0)))
  else if o < 0xA00 then none
  else if o < 0xB00 then
    let t (i : Nat) : Nat := toBits 16 (Store.get 0 s.calSet (0x700 + (o - 0xA00) + i))
    some (t 0 + 2 ^ 16 * t 2)
  else if o < 0x1000 then none
  else
    let off := 0x800 + (o - 0x1000)
    some (byte off + 2 ^ 8 * byte (off + 1) + 2 ^ 16 * byte (off + 2) + 2 ^ 24 * byte (off + 3))

/-! ### Reads of one register (R415 to R417) -/

/-- The register belongs to a resource that this variant does not bond (R4). -/
def State.unbonded (s : State) (a : Nat) : Bool := s.fuses.variant.unbondedAddr a

/-! ### The PSM legacy window (R409, R434, R435) -/

/-- The native register that a page address mirrors: port 8q + k, Strait offsets 0x000 to 0x03C and SPX 0x000 to 0x020. -/
def psmNative (a : Nat) : Option Nat :=
  let o := a - 0x180000
  let n := 8 * (o / 0x10000) + o % 0x10000 / 0x1000
  let w := o % 0x1000
  if a < 0x180000 || 0x1C0000 ≤ a || 8 ≤ o % 0x10000 / 0x1000 || w % 4 ≠ 0 then none
  else if w < 0x40 then some (0x80000 + 0x1000 * n + w)
  else if 0x800 ≤ w && w ≤ 0x820 then some (0xA0000 + 0x400 * n + (w - 0x800))
  else none

/-- Partition of a page or of a PSM register. -/
def psmPart (a : Nat) : Nat := if a < 0x1C0000 then (a - 0x180000) / 0x10000 else (a - 0x1C0100) / 0x10

/-- A partition is bonded. -/
def State.partBondedQ (s : State) (q : Nat) : Bool := decide (8 * q < s.fuses.variant.ports)

/-- The fields that a page holds as an image: native RW and RWI, the expert fields among them (R435). -/
def Slice.imaged (x : Slice) : Bool :=
  match x.fld.acc with
  | .rw | .rwi | .rwx _ _ _ => true
  | _ => false

/-- The bits of a register word that a page holds. -/
def imageMask (a : Nat) : Nat :=
  match findReg a with
  | some (r, _) => r.slices.foldl (fun m x => if x.imaged then m + (2 ^ x.width - 1) * 2 ^ x.lo else m) 0
  | none => 0

/-- A read in the window: 0 while PSM_CTRL.EN = 0 but for PSM_CTRL; a page shows the native register, in SERVICE with its imaged
fields. -/
def State.psmPeek (s : State) (a : Nat) : Nat :=
  let native (b : Nat) : Nat := match findReg b with
    | some (r, i) => s.regWord r i
    | none => 0
  if a = 0x1C0000 then native a
  else if !s.on F.PSM_CTRL_EN || !s.partBondedQ (psmPart a) then 0
  else match psmNative a with
    | some b =>
      let m := imageMask b
      if s.on F.PSM_STAT_SERVICE (psmPart a) then (native b &&& (2 ^ 32 - 1 - m)) + (Store.get 0 s.psm.pages a &&& m) else native b
    | none => if a < 0x1C0000 then 0 else native a

/-- The value now at an aligned address; a reserved address and an unbonded instance read 0. -/
def State.peek (s : State) (a : Nat) : Nat :=
  if s.unbonded a then 0
  else if 0x180000 ≤ a then s.psmPeek a
  else match findReg a with
    | some (r, i) => s.regWord r i
    | none => (s.calWindow a).getD 0

/-- The registers that a read of the _LO word at an address latches: its _MID and _HI words, and for AT_TAI_LO the subseconds
and the calendar (R417, R260). -/
def latched (a : Nat) : List Nat :=
  match findReg a with
  | some (r, _) =>
    match r.wide with
    | some (0, k) => (List.range (k - 1)).map (fun j => a + 4 * (j + 1))
        ++ (if a = F.AT_TAI_TAI.addr then [F.AT_SUBSEC_CYC.addr, F.AT_CAL_DATE_DAY.addr, F.AT_CAL_TIME_SEC.addr] else [])
    | _ => []
  | none => []

/-- Key of a latch or a staged word: the address and the agent, host or sideband. -/
def latchKey (sb : Bool) (a : Nat) : Nat := 2 * a + b2n sb

/-- The register at an address lies behind the crossing to an Atoll without supply: a read of it returns 0 (R24). -/
def State.clampedAt (s : State) (a : Nat) : Bool :=
  match findReg a with
  | some (r, _) => r.slices.all (fun x => s.clamped x.fld)
  | none => false

/-- An agent reads the register at an address: the value, and the latches set by a _LO read (R417). -/
def State.readReg (s : State) (sb : Bool) (a : Nat) : Nat × State :=
  let v := match Store.get none s.lat.read (latchKey sb a) with
    | some x => if s.clampedAt a then 0 else x
    | none => s.peek a
  (v, (latched a).foldl (fun (t : State) b =>
    { t with lat := { t.lat with read := Store.set none t.lat.read (latchKey sb b) (some (s.peek b)) } }) s)

/-- A wide register of domain MAIN (R416): the ring bases, and everything outside ID, AT, and REC_OPSEC. -/
def mainWide (a : Nat) : Bool := decide (0x10000 ≤ a) && decide (a / 0x10000 ≠ 12) && decide (a / 8 ≠ 0xF0030 / 8)

end Sys2Proof.Machine
end

