-- ==== Sys2Proof/Machine/Supervisor.lean ====
section
/-!
DEFINITION. Resets (R33 to R36) and the supervisor: rails, the sequencer, the push-button and RST_OUT_N (R262 to R284).
-/
namespace Sys2Proof.Machine

/-! ### Main reset (R33, R34, R324, R339, R404, R409) -/

/-- A sideband command that a calibration run, a store or a record write still had to complete ends with ABORTED. -/
def State.abortSideband (s : State) : State :=
  let fin (s : State) (c : Src × Nat × Bool) : State :=
    match c.1 with
    | .sideband => s.completeSb c.2.1 stAborted 0
    | .ring _ => s
  let s := match s.cal.run.bind (·.cmd) with
    | some c => fin s c
    | none => s
  let s := match s.cal.store.bind (·.cmd) with
    | some (src, tag, q, _) => fin s (src, tag, q)
    | none => s
  s.recd.reads.foldl (fun (s : State) c => fin s (c.src, c.tag.toNat, c.quiet)) s

/-- What the recorder keeps over a main reset: main NVM. Staged images are lost and counted as suppressed; a write in progress
leaves a torn slot and loses the record that it was overwriting. -/
def Rec.afterReset (r : Rec) : Rec :=
  let r' := match r.writing with
    | some w => { r with torn := Store.set false r.torn w.slot true, slots := Store.set [] r.slots w.slot [] }
    | none => r
  { Rec.reset with slots := r'.slots, torn := r'.torn, maps := r'.maps }

/-- What calibration keeps over a main reset: the stored copies, the one being written torn. -/
def Cal.afterReset (c : Cal) : Cal :=
  { Cal.reset with copies := match c.store with
      | some st => Store.set ⟨false, 0, 0, 0, 0, 0, []⟩ c.copies st.copy
          { Store.get ⟨false, 0, 0, 0, 0, 0, []⟩ c.copies st.copy with valid := false }
      | none => c.copies }

/-- The latches and staged words that outlive a clear: those of the registers for which `keep` holds (R417). -/
def Latches.keepOnly (l : Latches) (keep : Nat → Bool) : Latches :=
  ⟨l.read.filter (fun p => keep (p.1 / 2)), l.write.filter (fun p => keep (p.1 / 2))⟩

/-- Clear reset domain MAIN and everything that the main domain holds. -/
def State.clearMain (s : State) : State :=
  { s with fMain := [], cyc := 0, tb := Tb.reset, srv := Srv.reset, ports := [], hif := Hif.reset
           lat := s.lat.keepOnly (fun a => !mainWide a)
           mem := Mem.reset, ck := Ck.reset, ta := Ta.reset, recd := s.recd.afterReset, cal := s.cal.afterReset
           snvm := { s.snvm with key := false, rd := false, selects := s.snvm.selects.filter (fun c => c.src = .sideband) }, tstKey := false, psm := ⟨[], []⟩ }

/-- A main reset (R33): RST_OUT_N asserted, the main domain cleared and held; start-up resumes at step 6 where SYN0 is frozen or
unlocked or the rails went down, else at step 7. P and USED read 0 while the main domain does not run (R299), so OVER is
clear (R302). DESIGN CHOICE (assumption 15): what is staged on X2 and has not met its 32 kHz edge, a learning update or an ATEMP offset, is
dropped. -/
def State.mainReset (s : State) (railsDown : Bool) : State :=
  let relock := railsDown || s.on F.CK_STATUS_SYN_UNLOCK || !s.pwr.synStarted
  let s := s.abortSideband
  let s := s.bump F.REC_SUPPR_PEND_PEND 0 s.recd.staged
  let s := s.clearMain
  let s := s.clearAll 0 [F.MON_GOV_STAT_P, F.MON_GOV_STAT_USED, F.MON_GOV_STAT_OVER]
  { s with pwr := { s.pwr with mainRun := false, loadWait := false, step8 := false, step10 := false, rstOut := true, synStarted := !relock
                               synLate := s.pwr.synLate && !relock }
           ato := { s.ato with mainAt := 0, loadAt := none, learnt := none, atempNext := none, x6 := [] } }

/-! ### Rails (R262 to R264) -/

abbrev sqOff : Nat := 0
abbrev sqUp : Nat := 1
abbrev sqRun : Nat := 2
abbrev sqDown : Nat := 3
abbrev sqOffmin : Nat := 4
abbrev sqFaultOff : Nat := 5
abbrev sqCollapsed : Nat := 6

/-- SQ_STATUS.SEQ and the global state. -/
def State.seq (s : State) : Nat := s.get F.SQ_STATUS_SEQ
def State.gstate (s : State) : Nat := s.get F.SQ_STATUS_STATE

/-- State of rail channel n. -/
def State.railSt (s : State) (n : Nat) : Nat := s.get F.SQ_RAIL_ST_ST n

/-- The channel is in the program. -/
def State.railUsed (s : State) (n : Nat) : Bool := s.on F.SQ_RAIL_CFG_VALID n

/-- Channels of the program, ascending. -/
def State.railsUsed (s : State) : List Nat := (List.range 24).filter (fun n => s.railUsed n)

/-- Global on and off steps. -/
def State.onG (s : State) (n : Nat) : Nat := 16 * s.get F.SQ_STATUS_POS + s.get F.SQ_RAIL_CFG_ON_STEP n
def State.offG (s : State) (n : Nat) : Nat := 16 * s.get F.SQ_STATUS_POS + s.get F.SQ_RAIL_CFG_OFF_STEP n

/-- Every CORE rail is GOOD. -/
def State.coreGood (s : State) : Bool :=
  s.sq.progOk && s.railsUsed.all (fun n => !s.on F.SQ_RAIL_CFG_CORE n || decide (s.railSt n = railGood))

/-- VDD_IO and VDD_CORE are good, on which the test access port works (R407). DESIGN CHOICE (assumption 11): a program does not name its
supplies; they are its first two CORE rails, as the default program places them (R267). -/
def State.scanUp (s : State) : Bool :=
  s.sq.progOk && ((s.railsUsed.filter (fun n => s.on F.SQ_RAIL_CFG_CORE n)).take 2).all (fun n => decide (s.railSt n = railGood))

/-- Without its supplies the test access port is back in Test-Logic-Reset and holds nothing (R407, R408; assumption 11). -/
def State.scanFollow (s : State) : State :=
  if s.scanUp then s else { s with jtag := 0x02, scanOut := [], pwr := { s.pwr with scanHeld := false } }

/-- Ports follow the rails they name (R83, R84). -/
def State.portsFollow (s : State) (n : Nat) : State :=
  if s.mainUp then
    s.forPorts s.fuses.variant.ports (fun p s =>
      if s.on F.STR_CTRL_AUTO p && decide (s.get F.STR_CTRL_RAIL p = n) then s.reviewEnable p else s)
  else s

/-- A rail changes state. A CORE rail that leaves GOOD is a main reset in the same cycle (R278). -/
def State.railMove (s : State) (n st : Nat) : State :=
  let was := s.railSt n
  let s := s.set F.SQ_RAIL_ST_ST st n
  let s := s.put F.SQ_STATUS_CORE_GOOD s.coreGood
  let s := if s.on F.SQ_RAIL_CFG_CORE n && was = railGood && st ≠ railGood then (s.mainReset true).scanFollow else s
  if was ≠ st then s.portsFollow n else s

/-- Enable a rail: EN asserted, transition count and cause cleared, PREBIAS where its off comparator is already high. -/
def State.railEnable (s : State) (n : Nat) : State :=
  let s := (s.clearAll n [F.SQ_RAIL_ST_CHAT, F.SQ_RAIL_ST_CAUSE]).railMove n railRamp
  if s.on F.SQ_RAIL_ST_OFF_CMP n && !s.on F.SQ_RAIL_CFG_NOSENSE n then s.raise F.SQ_EVT_PREBIAS else s

/-- Disable a rail: EN released. -/
def State.railDisable (s : State) (n : Nat) : State :=
  if s.railSt n = railRamp || s.railSt n = railGood then s.railMove n railFalling else s

/-- Channels in descending off step, ties in descending channel order (R271). -/
def State.descending (s : State) (l : List Nat) : List Nat :=
  let ins (n : Nat) (acc : List Nat) : List Nat :=
    let before := acc.takeWhile (fun m => decide (s.offG n < s.offG m) || (decide (s.offG n = s.offG m) && decide (n < m)))
    before ++ n :: acc.drop before.length
  l.foldl (fun acc n => ins n acc) []

/-- Switch off the queue of rails one after another: those that are OFF leave it, the first that is on is disabled. -/
def State.runOffQ (s : State) : State :=
  let q := s.sq.offQ.dropWhile (fun n => decide (s.railSt n = railOffSt))
  let s := { s with sq := { s.sq with offQ := q } }
  match q with
  | [] => s
  | n :: _ => s.railDisable n

/-- Enable the held rails of each SQ_RAIL_ON one after another (R276); a rail on its way down is waited for. -/
def State.runOnQ (s : State) : State :=
  let rest (l : List Nat) : List Nat := l.dropWhile (fun n => decide (s.railSt n = railGood) && !s.on F.SQ_RAIL_ST_HELD n)
  let qs := (s.sq.onQ.map rest).filter (fun l => !l.isEmpty)
  (qs.filterMap (·.head?)).foldl (fun (s : State) n =>
    if s.railSt n = railOffSt then (s.lower F.SQ_RAIL_ST_HELD n).railEnable n else s) { s with sq := { s.sq with onQ := qs } }

/-! ### Requests (R274) -/

/-- Ask for a command pulse on SEQSYNC, driven once the line has rested (R269); one that is already on its way serves. -/
def State.pulse (s : State) (down : Bool) : State :=
  if s.sq.asked then s else { s with sq := { s.sq with asked := true } }.emit (.seqCommand down)

/-- An on request; `button` for a PWRBTN_N press. -/
def State.onRequest (s : State) (button : Bool) : State :=
  let q := s.seq
  if q = sqOff then
    if !s.sq.progOk then s
    else if s.sq.learned then s.pulse false
    else s.raise F.SQ_STATUS_ON_PEND
  else if q = sqDown || q = sqOffmin then s.raise F.SQ_STATUS_ON_PEND
  else if q = sqFaultOff && !button then s.raise F.SQ_EVT_ON_REFUSED
  else s

/-- An off request; `shutdown` for a SHUTDOWN response. It cancels a latched on request and the retry of a class C failure. -/
def State.offRequest (s : State) (shutdown : Bool) : State :=
  let s := if shutdown then s.raise F.SQ_STATUS_SD_LATCH else s
  let q := s.seq
  let noRetry (s : State) : State := { s with sq := { s.sq with retry := false } }
  if q = sqUp then s.raise F.SQ_STATUS_OFF_PEND
  else if q = sqRun then { s with sq := { s.sq with retry := false, offAsked := true } }.pulse true
  else if q = sqDown || q = sqOffmin then noRetry (s.lower F.SQ_STATUS_ON_PEND)
  else s

/-! ### Failures (R264, R275, R276) -/

/-- SQ_FAIL as a word. -/
def State.sqFailWord (s : State) : Nat :=
  s.get F.SQ_FAIL_CH + 32 * s.get F.SQ_FAIL_CAUSE + 256 * s.get F.SQ_FAIL_STATE + 65536 * s.get F.SQ_FAIL_CLASS

/-- Record and report a failure: SQ_FAIL, the event-ring entry, the alert, the recorder trigger. -/
def State.reportFail (s : State) (n cause : Nat) (classP : Bool) : State :=
  let s := ((s.set F.SQ_FAIL_CH n).set F.SQ_FAIL_CAUSE cause).set F.SQ_FAIL_STATE s.gstate
  let s := (s.put F.SQ_FAIL_CLASS classP).alert 3
  let s := s.raise (if classP then F.SQ_EVT_FAIL_P else F.SQ_EVT_FAIL_C)
  (s.postMain (s.get F.HIF_EVMAP_SQ) 0x0F 0 0 (le 4 s.sqFailWord)).recTrigger trSqFail s.sqFailWord

/-- Class C: RETRY, lockout, and the power-down of the whole cascade. -/
def State.failC (s : State) : State :=
  let r := min 8 (s.get F.SQ_STATUS_RETRY + 1)
  let s := s.set F.SQ_STATUS_RETRY r
  let s := if s.get F.SQ_TIME1_SQ_RETRY < r then s.raise F.SQ_STATUS_LOCK_PEND else s
  let s := { s with sq := { s.sq with failC := decide (s.seq = sqUp), retry := true } }
  if s.seq = sqRun then s.pulse true else s

/-- Class P: the rail and its dependants are held off and switched off in descending off step, each after the one before has reached OFF;
ports that name one of them go to DISABLED. An SQ_RAIL_ON that had one of them to enable ends. -/
def State.failP (s : State) (n : Nat) : State :=
  let deps := s.railsUsed.filter (fun k => decide (k = n) || (s.get F.SQ_RAIL_DEP_DEP n).testBit k)
  let s := deps.foldl (fun (s : State) k => s.raise F.SQ_RAIL_ST_HELD k) s
  let s := deps.foldl (fun (s : State) k => s.portsFollow k) s
  let off := s.descending (deps.filter (fun k => decide (s.railSt k ≠ railOffSt)))
  let on := s.sq.onQ.filter (fun l => !l.any (fun k => deps.contains k))
  { s with sq := { s.sq with offQ := s.sq.offQ ++ off, onQ := on } }.runOffQ

/-- A rail fails with a cause (R264): EN released at once, then its class's handling. -/
def State.railFail (s : State) (n cause : Nat) : State :=
  let classP := s.on F.SQ_RAIL_CFG_CLASS n
  let s := s.reportFail n cause classP
  let s := (s.set F.SQ_RAIL_ST_CAUSE cause n).railMove n railFalling
  if classP then s.failP n else s.failC

/-! ### The sequencer (R269 to R273) -/

/-- Power-up state k: enable every rail whose on step is k and that is not held off; one that is still on its way down is enabled when
it is OFF. -/
def State.enterUp (s : State) (k : Nat) : State :=
  let s := (s.set F.SQ_STATUS_SEQ sqUp).set F.SQ_STATUS_STATE k
  s.railsUsed.foldl (fun (s : State) n =>
    if s.onG n = k && !s.on F.SQ_RAIL_ST_HELD n && s.railSt n = railOffSt then s.railEnable n else s) s

/-- Power-down state k; `first` for the state in which the power-down begins (R271). With a CORE rail to disable it is a main
reset on entry (R278). -/
def State.enterDown (s : State) (k : Nat) (first : Bool) : State :=
  let s := (s.set F.SQ_STATUS_SEQ sqDown).set F.SQ_STATUS_STATE k
  let core := s.railsUsed.any (fun n => s.on F.SQ_RAIL_CFG_CORE n && decide (s.railSt n ≠ railOffSt)
    && (decide (s.offG n = k) || (first && decide (k < s.offG n))))
  let s := if core && s.pwr.mainRun then s.mainReset true else s
  let above := if first then s.descending (s.railsUsed.filter (fun n => decide (k < s.offG n) && decide (s.railSt n ≠ railOffSt)))
    else []
  let s := s.railsUsed.foldl (fun (s : State) n => if s.offG n = k then s.railDisable n else s) s
  { s with sq := { s.sq with offQ := s.sq.offQ ++ above, onQ := [] } }.runOffQ

/-- The device's work in the state is done (R270, R271): in UP every rail of the state is GOOD, or has failed, which holds it off (R276) or
ends the work at once (R275). -/
def State.workDone (s : State) : Bool :=
  if s.seq = sqUp then
    s.sq.failC || s.railsUsed.all (fun n => decide (s.onG n ≠ s.gstate) || s.on F.SQ_RAIL_ST_HELD n || decide (s.railSt n = railGood))
  else s.sq.offQ.isEmpty
    && s.railsUsed.all (fun n => decide (s.offG n ≠ s.gstate) || decide (s.railSt n = railOffSt))

/-- A power-down begins (R273, R275, R311): from RUN, or by reversal in state `k`. -/
def State.beginDown (s : State) (k : Nat) (reversed : Bool) : State :=
  let retry := s.sq.retry && !s.on F.SQ_STATUS_OFF_PEND && !s.sq.offAsked
  let s := s.raise (if reversed then F.SQ_EVT_REVERSED else F.SQ_EVT_DOWN_START)
  let s := s.clearAll 0 [F.SQ_STATUS_OFF_PEND, F.SQ_STATUS_ACK_RUN, F.SQ_STATUS_ACKED]
  let s := { s with sq := { s.sq with failC := false, retry := retry, offAsked := false }, pwr := { s.pwr with rstOut := true } }
  let s := s.recTrigger trDown (k + 256 * s.get F.SQ_STATUS_SD_LATCH)
  s.enterDown k true

/-- A command pulse seen on SEQSYNC (R269, R273). -/
def State.commandPulse (s : State) : State :=
  let s : State := { s with sq := { s.sq with asked := false } }
  if s.seq = sqOff && s.sq.learned && s.sq.progOk then
    let s := (s.raise F.SQ_EVT_UP_START).lower F.SQ_STATUS_ON_PEND
    let s := (List.range 24).foldl (fun (s : State) n => s.lower F.SQ_RAIL_ST_HELD n) s
    s.enterUp 1
  else if s.seq = sqRun then s.beginDown 254 false
  else s

/-- RUN is entered. -/
def State.enterRun (s : State) : State :=
  let s := (s.set F.SQ_STATUS_SEQ sqRun).set F.SQ_STATUS_STATE 255
  ((s.raise F.SQ_EVT_UP_DONE).lower F.SQ_STATUS_SD_LATCH).lower F.SQ_STATUS_COLLAPSED

/-- A reversal is pending at the end of a power-up state (R271). -/
def State.reverses (s : State) : Bool := s.on F.SQ_STATUS_OFF_PEND || s.sq.failC

/-- The line goes high at the end of a state; `low` is the gap sample, which a pending reversal of this device pulls low (R269, R271,
R273). -/
def State.stateEnd (s : State) (low : Bool) : State :=
  let k := s.gstate
  if !s.workDone then s
  else if s.seq = sqUp then
    if s.reverses then (s.emit .seqReversal).beginDown k true
    else if low then s.beginDown k true
    else if k < 254 then s.enterUp (k + 1)
    else s.enterRun
  else if s.seq = sqDown then
    if 1 < k then s.enterDown (k - 1) false
    else ((s.set F.SQ_STATUS_SEQ sqOffmin).set F.SQ_STATUS_STATE 0).raise F.SQ_EVT_DOWN_DONE
  else s

/-- t_OFFMIN has passed since entry to OFFMIN (R273, R275); a latched on request outlives a lockout (R274). -/
def State.offminEnd (s : State) : State :=
  if s.seq ≠ sqOffmin then s
  else
    let want := s.on F.SQ_STATUS_ON_PEND || s.sq.retry
    let s := { s with sq := { s.sq with retry := false } }
    if s.on F.SQ_STATUS_LOCK_PEND then
      ((s.set F.SQ_STATUS_SEQ sqFaultOff).lower F.SQ_STATUS_LOCK_PEND).raise F.SQ_EVT_LOCKOUT
    else
      let s := (s.lower F.SQ_STATUS_ON_PEND).set F.SQ_STATUS_SEQ sqOff
      if want then s.pulse false else s

/-- A latched on request has been kept until OFF: the command pulse (R274). -/
def State.keptOn (s : State) : State :=
  if s.on F.SQ_STATUS_ON_PEND then (s.lower F.SQ_STATUS_ON_PEND).onRequest false else s

/-- FAULT_OFF to OFF (R273, R284). -/
def State.clearFault (s : State) : State := ((s.set F.SQ_STATUS_SEQ sqOff).set F.SQ_STATUS_RETRY 0).keptOn

/-- The position has been learned, or the cascade is found in error (R267, R268). Auto-on is an on request. -/
def State.learnPos (s : State) (p : Nat) : State :=
  let s := { s.set F.SQ_STATUS_POS p with sq := { s.sq with learned := true } }
  if s.seq = sqOff && s.sq.progOk && (s.on F.SQ_CTRL_AUTO_ON || s.on F.SQ_STATUS_ON_PEND)
  then (s.lower F.SQ_STATUS_ON_PEND).pulse false else s

/-- CASC_ERR: as a rejected program (R267, R268). -/
def State.cascadeError (s : State) : State :=
  { ((s.raise F.SQ_STATUS_CASC_ERR).raise F.SQ_EVT_CASC_ERR).raise F.SQ_STATUS_PROG_ERR with sq := { s.sq with progOk := false } }

/-- VSTBY below 2.7 V (R277): every EN and SEQSYNC released, no order kept. A latched on request is kept until OFF (R274). -/
def State.collapse (s : State) : State :=
  let s := s.railsUsed.foldl (fun (s : State) n => s.railDisable n) s
  let s := (s.set F.SQ_STATUS_SEQ sqCollapsed).set F.SQ_STATUS_STATE 0
  let s := s.clearAll 0 [F.SQ_STATUS_OFF_PEND, F.SQ_STATUS_ACK_RUN, F.SQ_STATUS_ACKED, F.SQ_STATUS_LOCK_PEND]
  { s.raise F.SQ_STATUS_COLLAPSED with
    sq := { s.sq with offQ := [], onQ := [], failC := false, retry := false, asked := false, offAsked := false }, pwr := { s.pwr with rstOut := true } }

/-! ### What the balls drive (R263, R268, R269, R272, R273, R277) -/

/-- How a ball is driven: to a level, not at all, or by its internal pull-down alone. -/
inductive Drive where
  | high
  | low
  | released
  | pulledDown
  deriving DecidableEq, Repr

/-- ENn: low from the standby power-on reset until the sequencer enables the rail; asserted it is pushed high, or released for an external
pull-up where OD is set; after a collapse only the pull-down holds it (R263, R277). -/
def State.enDrive (s : State) (n : Nat) : Drive :=
  if s.pwr.stby ≠ .up then .low
  else if s.seq = sqCollapsed then .pulledDown
  else if s.railUsed n && (s.railSt n = railRamp || s.railSt n = railGood) then
    (if s.on F.SQ_RAIL_CFG_OD n then .released else .high)
  else .low

/-- SEQSYNC: low until the position is learned and with a rejected program, in OFFMIN and FAULT_OFF, and within a global state until the
device's work in it is done; else released (R267 to R269, R272, R273). DESIGN CHOICE (assumption 50): R277 releases it on the collapse
and R273 holds it low in COLLAPSED; it is released until VSTBY is back above 2.9 V, then low. -/
def State.syncDrive (s : State) : Drive :=
  if s.pwr.stby ≠ .up then .released
  else if s.seq = sqCollapsed then (if s.pwr.vstbyHigh then .low else .released)
  else if !s.sq.learned || !s.sq.progOk then .low
  else if s.seq = sqOffmin || s.seq = sqFaultOff then .low
  else if s.seq = sqUp || s.seq = sqDown then (if s.workDone then .released else .low)
  else .released

/-- SEQ_CO: high impedance while the device is unpowered or in standby reset, high from the release on but for the pulses of a train
(R268). -/
def State.seqCoDrive (s : State) : Drive := if s.pwr.stby = .up then .high else .released

/-- RST_OUT_N is low, or released (R279). -/
def State.rstDrive (s : State) : Drive := if s.pwr.rstOut then .low else .released

/-! ### Push-button (R281, R282) -/

/-- A short press in RUN with BTN_OFF = 1. -/
def State.shortPress (s : State) : State :=
  let acked := s.on F.SQ_STATUS_ACKED
  let s := (s.raise F.SQ_EVT_BTN_SHORT).alert 1
  let s := s.postMain (s.get F.HIF_EVMAP_SQ) 0x10 (b2n acked) 0 []
  if acked then (s.lower F.SQ_STATUS_ACKED).raise F.SQ_STATUS_ACK_RUN else s.raise F.SQ_STATUS_ACK_RUN

abbrev causeTimeout : Nat := 1
abbrev causeChatter : Nat := 2
abbrev causeDrop : Nat := 3
abbrev causeOffTo : Nat := 4

/-- The channel's comparators count: it is in the program and not flagged NOSENSE. -/
def State.sensed (s : State) (n : Nat) : Bool := s.railUsed n && !s.on F.SQ_RAIL_CFG_NOSENSE n

/-- TST_VSN on channel n (R405): the armed lows act when the channel is in RAMP or GOOD, and the test is disarmed. In RAMP each
low counts towards CHAT_MAX; in GOOD a low of 10 us is a glitch, or a drop where t_PGDROP is shorter. -/
def State.vsnAct (s : State) (n : Nat) : State :=
  let st := s.railSt n
  if s.on F.TST_VSN_ARMED && decide (s.get F.TST_VSN_CH = n) && (decide (st = railRamp) || decide (st = railGood)) then
    let k := s.get F.TST_VSN_COUNT
    let s := s.clearAll 0 [F.TST_VSN_COUNT, F.TST_VSN_ARMED]
    if !s.sensed n then s
    else if st = railRamp then
      (let seen := s.get F.SQ_RAIL_ST_CHAT n + k
       let s := s.bump F.SQ_RAIL_ST_CHAT n k
       if s.eff F.SQ_TIME1_CHAT_MAX < seen then s.railFail n causeChatter else s)
    else if 10 ≤ s.eff F.SQ_TIME1_PGDROP then s.bump F.SQ_RAIL_ST_GLITCH n k
    else s.railFail n causeDrop
  else s

/-! ### Standby and Atoll power-on resets (R33) -/

/-- The supervisor's side of a standby power-on reset: domain STBY cleared with everything the standby domain holds. A word of
the standby NVM that was being programmed is left uncorrectable. -/
def State.clearStby (s : State) : State :=
  { s with fStby := [], sb := Sb.reset, sq := Sq.reset, lat := s.lat.keepOnly (fun a => decide (a / 0x10000 = 12))
           mon := { Mon.reset with
             dets := s.mon.dets.filter (fun p => decide (p.1 < 5))
             blind := (s.mon.blind.filter (fun p => decide (p.1 < 5))).map (fun p => (p.1, { p.2 with cmd := none })) }
           ato := { s.ato with wait := none, waits := [], x6 := [] }
           snvm := match s.snvm.op with
             | some (a, _) => { s.snvm with op := none, bad := Store.set false s.snvm.bad a true, selects := [] }
             | none => s.snvm
           recd := { s.recd with staged := 0 } }

/-- Standby power-on reset: the standby and main domains are cleared. -/
def State.stbyReset (s : State) : State :=
  let s := (s.mainReset true).clearStby
  let s := s.set F.MON_STATUS_ACTIVE s.ato.active
  { s with jtag := 0x02, scanOut := []
           pwr := { s.pwr with stby := .off, synStarted := false, synLate := false, mrHeld := false, scanHeld := false, rstOut := true } }

/-- Atoll power-on reset: AON at its reset values, every sticky flag set, key slots zero, no detection kept and no self-test under way;
the other domains cleared. -/
def State.atollReset (s : State) : State :=
  let s := s.stbyReset
  { s with fAon := [], fSticky := [], lat := ⟨[], []⟩, mon := { s.mon with dets := [], blind := [] }, ato := { At.reset with mirror := s.ato.mirror } }.set
    F.MON_STATUS_ACTIVE 0

end Sys2Proof.Machine
end

