-- ==== Sys2Proof/Machine/MonitorOps.lean ====
section
/-!
DEFINITION. Monitor sources, unions and their responses, the sticky flags, the self-test, the thermal levels and the energy
governor (R287 to R306), with the response table of the Atoll (R251, R252, R254).
-/
namespace Sys2Proof.Machine

/-! ### Sources: MS0 to MS4 in domain AON, MS5 to MS7 in STBY (R306) -/

/-- EN. -/
def State.msEn (s : State) (k : Nat) : Bool := if k < 5 then s.on F.MON_SRCA_CTRL_EN k else s.on F.MON_SRCS_CTRL_EN (k - 5)

/-- The mask, bit order of R257; SHUTDOWN of MS7 reads 1 (R288). -/
def State.msResp (s : State) (k : Nat) : Nat :=
  if k < 5 then s.get F.MON_SRCA_CTRL_RESP k
  else if k = 7 then s.get F.MON_SRCS_CTRL_RESP 2 ||| 32 else s.get F.MON_SRCS_CTRL_RESP (k - 5)

/-- K and W; those of MS2 are fixed at 1. -/
def State.msK (s : State) (k : Nat) : Nat :=
  if k = 2 then 1 else if k < 5 then s.eff F.MON_SRCA_CTRL_K k else s.eff F.MON_SRCS_CTRL_K (k - 5)
def State.msW (s : State) (k : Nat) : Nat :=
  if k = 2 then 1 else if k < 5 then s.eff F.MON_SRCA_CTRL_W k else s.eff F.MON_SRCS_CTRL_W (k - 5)

/-- The microseconds that the events tell. -/
def State.tellUs (s : State) (us : Nat) : State := { s with pwr := { s.pwr with us := max s.pwr.us us } }

/-- Set or clear bit `k` of a mask. -/
def putBit (a k : Nat) (b : Bool) : Nat := if b then a ||| 2 ^ k else if a.testBit k then a - 2 ^ k else a

/-- MSk is active; of MS0 to MS4 the Atoll keeps it. -/
def State.msActive (s : State) (k : Nat) : Bool := if k < 5 then s.ato.active.testBit k else (s.get F.MON_STATUS_ACTIVE).testBit k

/-- Set or clear it, with ACTIVE, which shows it (R289). -/
def State.setActive (s : State) (k : Nat) (b : Bool) : State :=
  let s : State := if k < 5 then { s with ato := { s.ato with active := putBit s.ato.active k b } } else s
  s.set F.MON_STATUS_ACTIVE (putBit (s.get F.MON_STATUS_ACTIVE) k b)

/-- MSk is confirmed (R288, R289). -/
def State.confirm (s : State) (k : Nat) : State :=
  let s := (s.setActive k true).set F.MON_STICKY_MS (s.get F.MON_STICKY_MS ||| 2 ^ k)
  let s := s.joinUnion k (s.msResp k)
  let s := if k < 5 then s.bump F.MON_SRCA_CNT_CONF_CNT k else s.bump F.MON_SRCS_CNT_CONF_CNT (k - 5)
  let s := if s.pwr.stby = .up then s.raise F.MON_EVT_CONF else s
  if k = 4 then (s.raise F.MON_AT_STAT_CAL_INV).raise F.MON_AT_STAT_RC_RUN else s

/-- One detection of MSk at `us` (R287, R289, R297): to the test in a blind window; ignored with EN = 0; the sensors of MS5 to
MS7 work only while the main domain runs, armed at start-up step 8 (R29), those of MS0 to MS4 while the Atoll does. -/
def State.detect (s : State) (k us : Nat) : State :=
  let s := s.tellUs us
  match s.mon.blind.find? (fun p => decide (p.1 = k)) with
  | some (_, t) => { s with mon := { s.mon with blind := s.mon.blind.map (fun p => if p.1 = k then (k, { t with hit := true }) else p) } }
  | none =>
    if !s.msEn k || (if k < 5 then !s.pwr.aonUp else !(s.mainUp && s.pwr.step8)) then s
    else
      let s := if k < 5 then s.bump F.MON_SRCA_CNT_DET_CNT k else s.bump F.MON_SRCS_CNT_DET_CNT (k - 5)
      let l := (us :: (Store.get [] s.mon.dets k).filter (fun t => decide (us < t + 1000 * s.msW k))).take 255
      let s := { s with mon := { s.mon with dets := Store.set [] s.mon.dets k l } }
      if !s.msActive k && decide (s.msK k ≤ l.length) then s.confirm k else s

/-! ### Responses (R251, R292 to R294) -/

/-- Responses excluded by more severe ones of the union (R292). -/
def excluded (resp : Nat) : Nat :=
  if resp.testBit 5 then resp &&& (rReset ||| rPowerOn ||| rAct) else if resp.testBit 4 then resp &&& rAct else 0

/-- The mask holds a response. -/
def holds (resp r : Nat) : Bool := resp &&& r ≠ 0

/-- Sources in the order of R257: MS0 to MS4, AL0 to AL3. -/
def unionSources (members : Nat) : Nat := members % 32 + 32 * bits members 8 4

/-- The backup log entry of a union, KIND SOURCE. -/
def State.logUnion (s : State) (members resp : Nat) (moot defr : Bool) : State :=
  s.logEntry logSource (unionSources members + 512 * (resp % 512) + 2 ^ 18 * b2n moot + 2 ^ 19 * b2n defr)

/-- WAKE_N is driven low (R253). -/
def State.wake (s : State) : State :=
  { s.raise F.AT_STAT_WAKE with ato := { (s.raise F.AT_STAT_WAKE).ato with wakePulse := s.on F.AT_CTRL_WAKE_PULSE } }

/-- RESET or SHUTDOWN as the matrix executes it (R274, R293). -/
def State.finalResponse (s : State) (reset : Bool) : State := if reset then s.mainReset false else s.offRequest true

/-- The wait of the oldest response that waits is over: its record is awaited no more, and it is executed. -/
def State.endWait (s : State) : State :=
  match s.ato.wait with
  | none => s
  | some r =>
    let q := s.recd.queue.map (fun i => if leAt i.data 8 4 = s.ato.waitSeq then { i with awaited := false } else i)
    let a : At := match s.ato.waits with
      | [] => { s.ato with wait := none }
      | x :: t => { s.ato with wait := some x.1, waitSeq := x.2, waits := t }
    { s with ato := a, recd := { s.recd with queue := q } }.finalResponse r

/-- The awaited record `seq` is committed: the response that waits for it is executed. -/
def State.recordAwaited (s : State) (seq : Nat) : State :=
  match s.ato.waits.find? (fun x => x.2 = seq) with
  | some x => { s with ato := { s.ato with waits := s.ato.waits.erase x } }.finalResponse x.1
  | none => s.endWait

/-- The INT response in MAIN (R293): MON_ALARM, AT_ALARM for alarm members, the alert. -/
def State.intResponse (s : State) (members exec moot : Nat) : State :=
  let s := (s.alert 2).postMain (s.get F.MON_CTRL_EV_RING) 0x11 0 0 (le 2 members ++ le 2 exec ++ le 2 moot)
  let al := bits members 8 4
  if al = 0 then s
  else s.postMain (s.get F.HIF_EVMAP_AT) 0x0D 0 0 [BitVec.ofNat 8 al, BitVec.ofNat 8 (s.get F.AT_AL_STAT_PAST &&& al)]

/-- Mark the image staged last under a trigger as awaited. -/
def awaitImage (trig seq : Nat) (l : List Image) : List Image :=
  l.map (fun i => if i.trig = trig && decide (leAt i.data 8 4 = seq) then { i with awaited := true } else i)

/-- RESET or SHUTDOWN waits for the union's record, whose SEQ is `seq` (R293), beside those that wait already. -/
def State.waitResponse (s : State) (reset : Bool) (seq : Nat) : State :=
  { s with ato := if s.ato.wait.isNone then { s.ato with wait := some reset, waitSeq := seq }
                  else { s.ato with waits := s.ato.waits ++ [(reset, seq)] }
           recd := { s.recd with queue := awaitImage trMonUnion seq s.recd.queue } }

/-- The matrix executes a union in MAIN (R293, R294). ACT executes before the record's wait, for the entry of every member that holds
it; excluded by RESET and SHUTDOWN it never meets them. An entry that is not armed is moot (R251). -/
def State.matrix (s : State) (members resp : Nat) (act : List Nat) : State :=
  let armed := act.any (fun i => (s.action i).valid)
  let unarmed := act.any (fun i => !(s.action i).valid)
  let seq := s.get F.REC_SEQ_SEQ
  let moot := excluded resp ||| (resp &&& rPowerOn) ||| (if armed then 0 else resp &&& rAct)
  let exec := resp - moot
  let s := if holds exec rZeroize then s.zeroize else s
  let s := if holds exec rWake then s.wake else s
  let s := if holds exec rTaint then s.taint else s
  let s := if holds exec rInt then s.intResponse members exec moot else s
  let s := if holds exec rLog then s.recTrigger trMonUnion (members + 2 ^ 13 * resp + 2 ^ 22 * moot) else s
  let atoll := unionSources members ≠ 0 || members = 2 ^ 12
  let gone := moot ≠ 0 || (holds exec rAct && unarmed)
  let s := if (holds exec rLog && atoll) || gone then s.logUnion members resp gone false else s
  let s := if moot ≠ 0 || (holds exec rAct && unarmed) then s.raise F.AT_DEFER_MOOT else s
  let s := if holds exec rAct then act.foldl (fun (s : State) i => (s.act i).2) s else s
  if holds exec rReset then (if holds exec rLog then s.waitResponse true seq else s.finalResponse true)
  else if holds exec rShutdown then (if holds exec rLog then s.waitResponse false seq else s.finalResponse false)
  else s

/-- The Atoll resolves a union in STANDBY or BATTERY (R251, R254). -/
def State.atollResolve (s : State) (members resp : Nat) : State :=
  let standby := decide (s.ost = 1)
  let ex := excluded resp
  let moot := ex ||| (resp &&& rShutdown) ||| (if standby then 0 else resp &&& rPowerOn)
  let live := resp - moot
  let defer := live &&& (rInt ||| rTaint ||| rReset ||| rAct)
  let s := if holds live rZeroize then s.zeroize else s
  let s := if holds live rWake then s.wake else s
  let s := if holds live rLog || moot ≠ 0 then s.logUnion members resp (moot ≠ 0) (defer ≠ 0) else s
  let s := if holds defer rInt then s.raise F.AT_DEFER_INT else s
  let s := if holds defer rReset then s.raise F.AT_DEFER_RESET else s
  let s := if holds defer rTaint then s.raise F.AT_DEFER_TAINT else s
  let s := if holds defer rAct then s.raise F.AT_DEFER_ACT else s
  let s := if moot ≠ 0 then s.raise F.AT_DEFER_MOOT else s
  let s := if defer ≠ 0 then s.set F.AT_DEFER_SRC (s.get F.AT_DEFER_SRC ||| unionSources members) else s
  if holds live rPowerOn && s.pwr.stby = .up then s.onRequest false else s

/-- The union collected since the last edge closes (R291). -/
def State.closeUnion (s : State) : State :=
  let m := s.ato.members
  let r := s.ato.resp
  let a := s.ato.actIdx
  if m = 0 then s
  else
    let s := { s with ato := { s.ato with members := 0, resp := 0, actIdx := [], cellDetail := false } }
    if s.on F.AT_STAT_MAIN then s.matrix m r a else s.atollResolve m r

/-- AT_DEFER as a word (R260). -/
def State.deferWord (s : State) : Nat :=
  s.get F.AT_DEFER_INT + 2 * s.get F.AT_DEFER_RESET + 4 * s.get F.AT_DEFER_TAINT + 8 * s.get F.AT_DEFER_ACT
    + 16 * s.get F.AT_DEFER_MOOT + 2 ^ 16 * s.get F.AT_DEFER_SRC

/-- Delivery of the deferred responses at start-up step 10 (R252). -/
def State.deliverDefer (s : State) : State :=
  let w := s.deferWord
  let s := if s.on F.AT_DEFER_TAINT then s.taint else s
  let s := if s.on F.AT_DEFER_INT then s.postMain (s.get F.HIF_EVMAP_AT) 0x0E 0 0 (le 4 w) else s
  (s.set F.AT_DEFER_LAST_DEFER_LAST w).clearAll 0 [F.AT_DEFER_INT, F.AT_DEFER_RESET, F.AT_DEFER_TAINT, F.AT_DEFER_ACT,
    F.AT_DEFER_MOOT, F.AT_DEFER_SRC]

/-! ### Sticky flags (R296) -/

/-- A failed unlock. -/
def State.unlockFail (s : State) : State :=
  let s := (s.raise F.MON_EVT_UNLOCK_FAIL).bump F.MON_STATUS_UNLOCK_FAILS
  { s with mon := { s.mon with unlock := [], holdoff := true } }

/-- A write to MON_UNLOCK by the host (0) or the sideband (1): within 1 s of a failure a right sequence opens no window, and a wrong value
fails as ever. -/
def State.unlockWrite (s : State) (ag key : Nat) : State :=
  let first := Store.get 0 s.mon.unlock ag
  let s' := { s with mon := { s.mon with unlock := Store.set 0 s.mon.unlock ag 0 } }
  if key = 0x5EA1 then { s with mon := { s.mon with unlock := Store.set 0 s.mon.unlock ag (s.pwr.us + 1) } }
  else if key = 0x0C1E && first ≠ 0 && decide (s.pwr.us + 1 ≤ first + 1000) then
    (if s.mon.holdoff then s' else (s'.raise F.MON_STATUS_UNLOCKED).set F.MON_STATUS_UNL_AGENT ag)
  else s'.unlockFail

/-- Any other MON write of an agent breaks its unlock sequence. -/
def State.unlockBreak (s : State) (ag : Nat) : State := { s with mon := { s.mon with unlock := Store.set 0 s.mon.unlock ag 0 } }

/-- A W1C write of `w` to MON_STICKY by an agent: outside its window a failed unlock; inside, each written flag whose source is
neither active nor confirmed or fired on this edge is cleared, and the window closes; the flags of an Atoll without supply are
not written (R24). -/
def State.stickyWrite (s : State) (ag w : Nat) : State :=
  if !s.on F.MON_STATUS_UNLOCKED || s.get F.MON_STATUS_UNL_AGENT ≠ ag then s.unlockFail
  else if !s.pwr.aonUp then s.lower F.MON_STATUS_UNLOCKED
  else
    let w := w % 4096
    let s := s.lower F.MON_STATUS_UNLOCKED
    let act := s.get F.MON_STATUS_ACTIVE
    let now := s.get F.MON_STICKY_MS + 256 * s.get F.MON_STICKY_AL
    let stay := act ||| (s.ato.members &&& 4095)
    let go := (List.range 12).foldl (fun a n => if w.testBit n && now.testBit n && !stay.testBit n then a + 2 ^ n else a) 0
    let s := (s.set F.MON_STICKY_MS (now - go)).set F.MON_STICKY_AL ((now - go) / 256)
    let s := if w &&& act ≠ 0 then s.raise F.MON_EVT_STICKY_REFUSED else s
    if go ≠ 0 then s.recTrigger trStickyClear (go + 4096 * ag) else s

/-- A sticky flag of a source or alarm whose mask holds TAINT is set (R173, R296). -/
def State.taintHeld (s : State) : Bool :=
  (List.range 8).any (fun k => (s.get F.MON_STICKY_MS).testBit k && (s.msResp k).testBit 3)
    || (List.range 4).any (fun n => (s.get F.MON_STICKY_AL).testBit n && (s.get F.AT_AL_CTRL_RESP n).testBit 3)

/-! ### Self-test (R297) -/

/-- ST_BUSY and ST_RES of a source. -/
def State.setStBusy (s : State) (k : Nat) (b : Bool) : State :=
  if k < 5 then s.put F.MON_SRCA_ST_ST_BUSY b k else s.put F.MON_SRCS_ST_ST_BUSY b (k - 5)
def State.setStRes (s : State) (k v : Nat) : State :=
  if k < 5 then s.set F.MON_SRCA_ST_ST_RES v k else s.set F.MON_SRCS_ST_ST_RES v (k - 5)

/-- Why MON_SELFTEST of source `k` does not start: its status, in the order of R297. -/
def State.selftestStatus (s : State) (k : Nat) : Nat :=
  let t := Store.get 0 s.mon.tested k
  if 7 < k then stBadParam
  else if t ≠ 0 && decide (s.pwr.us + 1 < t + 1000000) then stBusy
  else if (5 ≤ k && !s.mainUp) || (k = 2 && s.on F.AT_STAT_SRC) then stNotReady
  else stOk

/-- The blind window opens; the command completes when it ends. -/
def State.selftestStart (s : State) (k : Nat) (c : Cmd) : State :=
  { s.setStBusy k true with
    mon := { s.mon with
      blind := s.mon.blind.filter (fun p => decide (p.1 ≠ k)) ++ [(k, ⟨false, some (c.src, c.tag.toNat, c.quiet)⟩)]
      tested := Store.set 0 s.mon.tested k (s.pwr.us + 1) } }

/-- The blind window ends: result, event, trigger, completion; then the source takes one extra sample. -/
def State.selftestEnd (s : State) (k : Nat) (hit cond : Bool) (us : Nat) : State :=
  let s := s.tellUs us
  match s.mon.blind.find? (fun p => decide (p.1 = k)) with
  | none => s
  | some (_, t) =>
    let pass := hit || t.hit
    let s := { s with mon := { s.mon with blind := s.mon.blind.filter (fun p => decide (p.1 ≠ k)) } }
    let s := (s.setStBusy k false).setStRes k (if pass then 1 else 2)
    let s := if s.pwr.stby = .up then s.raise (if pass then F.MON_EVT_ST_PASS else F.MON_EVT_ST_FAIL) else s
    let s := if pass then s else s.recTrigger trSelftestFail k
    let s := match t.cmd with
      | some (src, tag, quiet) => s.finish src tag stOk quiet (b2n (!pass))
      | none => s
    if cond then s.detect k us else s

/-! ### Shedding (R298 to R302) -/

/-- EQ_LP of a port: its receive equalisers are in reduced-power mode under shedding step 4 (R100, R300). -/
def State.eqReview (s : State) (n : Nat) : State :=
  s.put F.STR_STATUS_EQ_LP (decide (4 ≤ s.get F.MON_STATUS_SHED_LVL) && s.on F.STR_SRD_EQ_LP_OK n) n

/-- What a shedding level does: memory test and scrub pause, compaction defers, SPX limits its rate, receive equalisers save
power. -/
def State.applyShed (s : State) : State :=
  let l := s.get F.MON_STATUS_SHED_LVL
  if !s.mainUp then s
  else
    let s := { s with mem := { s.mem with pauseReq := decide (1 ≤ l) } }.mtReview
    let s := (s.put F.REC_STATUS_COMPACT_DEFER (decide (2 ≤ l))).put F.REC_STATUS_COMPACTING (s.recd.pass.isSome && decide (l < 2))
    s.forPorts s.fuses.variant.ports (fun n s => (s.put F.SPX_STATUS_GOV_LIMIT (decide (3 ≤ l)) n).eqReview n)

/-- The shedding level is the higher of the two demands (R301). -/
def State.setShed (s : State) (bud jt : Nat) : State :=
  let s := { s with mon := { s.mon with budLvl := bud, jtLvl := jt } }
  (s.set F.MON_STATUS_SHED_LVL (max bud jt)).applyShed

/-- SHED_AT and RESTORE_AT as they act. -/
def State.shedAt (s : State) : Nat := s.eff F.MON_GOV_THR_SHED_AT
def State.restoreAt (s : State) : Nat :=
  if s.get F.MON_GOV_THR_RESTORE_AT < s.shedAt then s.get F.MON_GOV_THR_RESTORE_AT else s.shedAt / 2

/-- USED from the buckets, in 0.1 J. -/
def State.usedNow (s : State) : Nat := s.mon.buckets.foldl (· + ·) 0 / 10000

/-- USED and OVER after the buckets changed (R299, R302). -/
def State.govUsed (s : State) : State :=
  let u := s.usedNow
  let s := s.set F.MON_GOV_STAT_USED (min u 65535)
  let s : State := if u < s.shedAt then { s with mon := { s.mon with below := true } } else s
  if s.get F.MON_GOV_LIM_BUDGET ≤ u && !s.on F.MON_GOV_STAT_OVER then
    ((s.raise F.MON_GOV_STAT_OVER).raise F.MON_EVT_GOV_OVER).recTrigger trGovOver (min u 65535)
  else if u < s.shedAt then s.lower F.MON_GOV_STAT_OVER
  else s

/-- One millisecond of the governor with `l` the readings of its three current sensors at their nominal voltages, in 10 mW (R299, R302,
R326). -/
def State.govEval (s : State) (l : List Nat) : State :=
  if !s.mainUp then s
  else
    let p := min ((l.zipIdx.foldl (fun (a : Int) x => a + s.gained (13 + x.2) x.1) 0).toNat + s.get F.MON_GOV_THR_PIO) 32767
    let s := s.set F.MON_GOV_STAT_P p
    let b := match s.mon.buckets with
      | [] => [p - s.get F.MON_GOV_LIM_PCONT]
      | h :: t => (h + (p - s.get F.MON_GOV_LIM_PCONT)) :: t
    let s := { s with mon := { s.mon with buckets := b } }.govUsed
    if s.usedNow < s.get F.MON_GOV_LIM_BUDGET then s
    else
      let s' := { s with mon := { s.mon with overMs := (s.mon.overMs + 1) % 1000 } }
      if s.mon.overMs = 999 then s'.bump F.MON_GOV_OVER_OVER_S else s'

/-- Take the next shedding step that the budget or the thermal level asks for (R298, R300): the budget asks for one when USED reaches
SHED_AT, and for another while P exceeds P_CONT. -/
def State.govShed (s : State) : State :=
  let old := s.get F.MON_STATUS_SHED_LVL
  let asks := s.mainUp && s.on F.MON_CTRL_GOV_EN && decide (s.shedAt ≤ s.get F.MON_GOV_STAT_USED)
      && (s.mon.below || decide (s.get F.MON_GOV_LIM_PCONT < s.get F.MON_GOV_STAT_P))
  let bud := if asks then min 4 (s.mon.budLvl + 1) else s.mon.budLvl
  let s : State := if asks then { s with mon := { s.mon with below := false } } else s
  let jt := if 2 ≤ s.get F.MON_STATUS_JT_LVL then min 4 (s.mon.jtLvl + 1) else s.mon.jtLvl
  let s := s.setShed bud jt
  if old < max bud jt then s.raise F.MON_EVT_GOV_SHED else s

/-- Undo one step (R301). -/
def State.govRestore (s : State) : State :=
  let l := s.get F.MON_STATUS_SHED_LVL
  if 0 < l && decide (s.get F.MON_GOV_STAT_USED ≤ s.restoreAt) && decide (s.get F.MON_STATUS_JT_LVL < 2) then
    (s.setShed (min s.mon.budLvl (l - 1)) (min s.mon.jtLvl (l - 1))).raise F.MON_EVT_GOV_RESTORE
  else s

/-- The thermal level of a reading, from the level in force (R298). SHUT has no leaving level of its own and is left with SHED
(assumption 21). -/
def thermalLevel (old : Nat) (t : Int) : Nat :=
  if 2160 ≤ t || (old = 3 && decide (1920 ≤ t)) then 3
  else if 2000 ≤ t || (decide (2 ≤ old) && decide (1920 ≤ t)) then 2
  else if 1840 ≤ t || (decide (1 ≤ old) && decide (1760 ≤ t)) then 1
  else 0

/-- A level is entered at reading `t`. -/
def State.enterThermal (s : State) (l : Nat) (t : Int) : State :=
  let s := if l = 1 then s.raise F.MON_EVT_JT_WARN else if l = 2 then s.raise F.MON_EVT_JT_SHED else s
  s.postMain (s.get F.MON_CTRL_EV_RING) 0x12 0 l (le 2 (toBits 16 t))

/-- The largest of a list of readings. -/
def maxInt : List Int → Option Int
  | [] => none
  | x :: t => match maxInt t with
      | some y => some (max x y)
      | none => some x

/-- The 1 ms sample of the junction sensors' readings `l` in 1/16 degree (R288, R298, R305, R326): JTEMP is the highest under their trims.
DESIGN CHOICE (assumption 21): its 12 bits hold at most 127.94 degrees, and a higher reading shows as that; the levels take the reading
itself. -/
def State.thermal (s : State) (l : List Int) (us : Nat) : State :=
  match maxInt (l.zipIdx.map (fun x => s.junction x.2 x.1)) with
  | none => s.tellUs us
  | some t =>
  if !s.mainUp then s.tellUs us
  else
    let shown := clampInt (-2048) 2047 t
    let s := s.setInt F.MON_JTEMP_JTEMP shown
    let s := if s.int F.MON_JTEMP_JMAX < shown then s.setInt F.MON_JTEMP_JMAX shown else s
    let old := s.get F.MON_STATUS_JT_LVL
    let new := thermalLevel old t
    let s := s.set F.MON_STATUS_JT_LVL new
    let s := (List.range 4).foldl (fun s l => if old < l && l ≤ new then s.enterThermal l t else s) s
    if 2160 ≤ t then s.detect 7 us else s.tellUs us

end Sys2Proof.Machine
end

