-- ==== Sys2Proof/Machine/Atoll.lean ====
section
/-!
DEFINITION. Meanings of the Atoll rows: supplies, seconds, trim, learning, mirror, wake, and the AT commands (R233 to R261).
-/
namespace Sys2Proof.Machine

/-! ### Supplies (R233 to R235) -/

abbrev supToVbat : Nat := 1
abbrev supToVstby : Nat := 2
abbrev supVbatLow : Nat := 3
abbrev supCollapse : Nat := 4
abbrev supNoCell : Nat := 5

/-- VSTBY_BELOW_2V8 (R233). -/
def execVstbyBelow2v8 (vbatQualified : Bool) (s : State) : Result :=
  .next (let s := { s with pwr := { s.pwr with vstbyHigh := false } }
         if !s.pwr.aonUp || s.on F.AT_STAT_SRC then s
         else if vbatQualified then (s.raise F.AT_STAT_SRC).logEntry logSupply supToVbat
         else s.logEntry logSupply supNoCell)

/-- VSTBY_ABOVE_2V9 (R233). -/
def execVstbyAbove2v9 (s : State) : Result :=
  .next (let s := { s with pwr := { s.pwr with vstbyHigh := true } }
         if s.pwr.aonUp && s.on F.AT_STAT_SRC then (s.lower F.AT_STAT_SRC).logEntry logSupply supToVstby else s)

/-- VSTBY_COLLAPSE (R235, R277): the Atoll in MAIN records COLLAPSE, the supervisor releases every EN and SEQSYNC. -/
def execVstbyCollapse (s : State) : Result :=
  .next (let s := if s.pwr.aonUp && s.on F.AT_STAT_MAIN then (s.raise F.AT_RETAIN_COLLAPSE).logEntry logSupply supCollapse else s
         if s.pwr.stby = .up then s.collapse else s)

/-- ATOLL_POR (R233): VAON has risen; `vstby29` is whether VSTBY is above 2.9 V. -/
def execAtollPor (vstby29 : Bool) (s : State) : Result :=
  .next (let s := s.atollReset
         ({ s with pwr := { s.pwr with aonUp := true, vstbyHigh := vstby29 } }).put F.AT_STAT_SRC (!vstby29))

/-- ATOLL_BROWN_OUT (R233): counting and retention stop. -/
def execAtollBrownOut (s : State) : Result := .next { s with pwr := { s.pwr with aonUp := false } }

/-- VBAT_LOW (R234): a comparison of VBAT, `mv` in millivolts. -/
def execVbatLow (mv : Nat) (s : State) : Result :=
  .next (if !s.pwr.aonUp then s
         else if mv < 2200 && !s.on F.AT_STAT_VBAT_LOW then (s.raise F.AT_STAT_VBAT_LOW).logEntry logSupply supVbatLow
         else if 2300 < mv then s.lower F.AT_STAT_VBAT_LOW
         else s)

/-! ### Seconds and trim (R236 to R245) -/

/-- ATOLL_SECOND (R236, R245): `cycles` untrimmed cycles have passed since the last event that told them; the second edge is
captured by the Atoll's line at raw time `edge`. -/
def execAtollSecond (cycles : Nat) (edge : Raw) (s : State) : Result :=
  .next (if !s.pwr.aonUp then s
         else
           let s := (s.atollRun cycles).reach edge
           s.discipline (s.atollEdge edge))

/-- HEARTBEAT (R235). -/
def execHeartbeat (s : State) : Result :=
  .next (if s.pwr.aonUp && s.ready then
           { s.raise F.AT_STAT_MAIN with ato := { s.ato with
               hb := s.tai, mainAt := if s.on F.AT_STAT_MAIN then s.ato.mainAt else s.raw } }
         else s)

/-- HEARTBEAT_TIMEOUT (R235). -/
def execHeartbeatTimeout (s : State) : Result := .next (if s.pwr.aonUp then s.lower F.AT_STAT_MAIN else s)

/-- The Atoll temperature window of MS3: outside ATEMP_LO to ATEMP_HI (R287, R306). -/
def State.atempOut (s : State) (t : Int) : Bool :=
  let p := s.get F.MON_SRCA_PARAM_PARAM 3
  decide (t < signed 12 p) || decide (signed 12 (p / 2 ^ 16) < t)

/-- TRIM_INTERVAL (R237, R240, R242, R255): AT_TEMP, AT_TRIM by the table rule at the basic level, UNL_USED, MS3; `lost` are the
retention words found uncorrectable since the last interval. A learning update that commits on the interval's own edge comes after its
reading of the table (R241). -/
def execTrimInterval (cycles : Nat) (atemp : BitVec 12) (us : Nat) (s : State) (lost : List Nat := []) : Result :=
  .next (if !s.pwr.aonUp then s.tellUs us
         else
           let s := lost.foldl (fun (s : State) w => s.retentionLost w) s
           let before := s
           let s := s.atollRun cycles
           let t := atemp.toInt
           let shown := t + s.ato.atempOfs
           let s := s.setInt F.AT_TEMP_TEMP (clampInt (-2048) 2047 shown)
           let s := if s.on F.AT_CTRL_XEN then s
             else
               let r := (if cycles ≤ 1 then before else s).tableTrim t
               let s := s.setInt F.AT_TRIM_TRIM r.1
               if !s.on F.AT_STAT_MAIN && !r.2 then s.raise F.AT_RETAIN_UNL_USED else s
           if s.atempOut shown then s.detect 3 us else s.tellUs us)

/-- The conditions of R241 hold throughout the window from `start` on: LOCKED since at least 10 s, one generation, no discipline load,
SYN0 locked, the Atoll in MAIN, and an ATEMP that moved by at most 0.25 degree from the first sample to the last. A start whose epoch
has left the history lies behind 4,096 epochs of one LOCKED spell, in which no step and no revision begins a generation (R56). -/
def State.learnable (s : State) (start : Raw) (first last : Int) : Bool :=
  s.pwr.aonUp && s.ready && s.on F.AT_CTRL_LEARN_EN
    && decide (s.tbState = tbLocked) && decide (s.tb.lockedAt + 4000000000000 ≤ start)
    && (match slotAt start s.tb.hist with
        | some h => decide (h.pub.gen = s.get F.TB_GEN_GEN)
        | none => true)
    && (match s.ato.loadAt with
        | some r => decide (r < start)
        | none => true)
    && !s.on F.CK_STATUS_SYN_UNLOCK && s.on F.AT_STAT_MAIN && decide (s.ato.mainAt ≤ start)
    && decide ((last - first).natAbs ≤ 4)

/-- LEARNING_MEASUREMENT (R241): the ends of the window as the Atoll's line captures them, with the first and last samples of ATEMP and
its mean. -/
def execLearningMeasurement (start stop : Raw) (mean : BitVec 12) (s : State) (first : BitVec 12 := mean)
    (last : BitVec 12 := mean) : Result :=
  .next (let s := s.reach stop
         let a := s.atollEdge start
         let b := s.atollEdge stop
         if s.learnable a first.toInt last.toInt && decide (0 < s.zt b - s.zt a) then s.learn (s.zt b - s.zt a) mean.toInt else s)

/-- Generation of the mirror copy in a sector; 0 where there is none (R243). -/
def State.mirrorGen (s : State) (sec : Nat) : Nat := (Store.get (0, []) s.ato.mirror sec).1

/-- The sector of the next mirror copy: the one without the newest. -/
def State.mirrorSector (s : State) : Nat := if s.mirrorGen 801 < s.mirrorGen 800 then 801 else 800

/-- MIRROR_WRITE (R243): the table goes to the sector that does not hold the newest copy. -/
def execMirrorWrite (s : State) : Result :=
  .next (if s.ready && s.on F.AT_CTRL_MIRROR_EN && decide (s.tbState = tbLocked) && s.ato.changed then
           let copy := (max (s.mirrorGen 800) (s.mirrorGen 801) + 1, (List.range 64).map s.pointWord)
           let sec := s.mirrorSector
           { s.nvClear (sectorWord sec) 256 with ato := { s.ato with
               mirror := Store.set (0, []) s.ato.mirror sec copy, changed := false } }
         else s)

/-- WAKE_PULSE_END (R253). -/
def execWakePulseEnd (s : State) : Result :=
  .next (if s.ato.wakePulse then { s.lower F.AT_STAT_WAKE with ato := { (s.lower F.AT_STAT_WAKE).ato with wakePulse := false } }
         else s)

/-! ### Commands (R261); towards an Atoll without supply nothing commits, and the command completes NOT_READY (R24; assumption 15) -/

/-- AT_SET_TIME (R246). The load commits at once (assumption 15); the TIME entry holds the change. -/
def execAtSetTime (c : Cmd) (s : State) : Result :=
  .next (c.run s ⟨true, false⟩ (c.reservedOk 0 (2 ^ 48 - 1) (2 ^ 32 - 1) false) (fun s =>
    if !s.pwr.aonUp then c.done s stNotReady
    else if s.mainUp && s.tbState = tbLocked && s.on F.AT_CTRL_DISC_EN then c.done s stBusy
    else if 999999999 < c.cAt 0 4 then c.done s stBadParam
    else
      let old := s.validTai
      let before := s.atollTime26
      let t : Int := c.b.toNat * ztPerSec + c.cAt 0 4 * 65536
      let s := (s.setCounter t 0).counterSet old
      c.done (s.logTimeEntry 2 ((s.atollTime26 - before) / (2 ^ 26 * 65536 * 1000000))) stOk))

/-- AT_SET_UTC (R247). -/
def execAtSetUtc (c : Cmd) (s : State) : Result :=
  .next (c.run s ⟨true, false⟩ (c.reservedOk 0xFFFF (2 ^ 48 - 1) 0 false) (fun s =>
    let sec := c.b.toNat
    let ofs := signed 16 c.a.toNat
    let d := ofs - s.int F.AT_UTC_OFS
    if !s.pwr.aonUp then c.done s stNotReady
    else if sec = 0 then c.done ((s.setInt F.AT_UTC_OFS ofs).leapFlags).calendar stOk
    else if (d = 1 || d = -1) && decide (s.tai < sec) && decide (((sec : Int) - ofs) % 60 = 0) then
      let s := ((s.setInt F.AT_UTC_NEXT ofs).set F.AT_UTC_AT_AT sec).raise F.AT_STAT_UTC_PEND
      c.done (s.leapFlags).calendar stOk
    else c.done s stBadParam))

/-- AT_KEY_WRITE (R256): the statuses in the order of its rule; the KCV is the result. -/
def execAtKeyWrite (c : Cmd) (s : State) : Result :=
  .next (c.run s ⟨true, false⟩ (c.reservedOk 0xFFFF 0 0 true) (fun s =>
    let slot := bits c.a.toNat 0 8
    let id := bits c.a.toNat 8 8
    if 3 < slot || id = 0 then c.done s stBadParam
    else if !s.ready || !s.pwr.aonUp then c.done s stNotReady
    else c.xfer s 32 (fun s =>
      if s.ato.resp.testBit 6 then c.done s stAborted
      else
        let key := c.input s 32
        let kcv := leAt (hmacSha256 key (List.replicate 8 0)) 0 2
        let s := ((s.raise F.AT_KEY_VALID slot).set F.AT_KEY_KEYID id slot).set F.AT_KEY_KCV kcv slot
        let s := { s with ato := { s.ato with keys := Store.set [] s.ato.keys slot key } }
        c.done (s.logEntry logKey (2 ^ slot)) stOk kcv)))

/-- AT_ZEROIZE (R256). -/
def execAtZeroize (c : Cmd) (s : State) : Result :=
  .next (c.run s ⟨true, false⟩ (c.reservedOk 0 0 0 false) (fun s => if s.pwr.aonUp then c.done s.zeroize stOk else c.done s stNotReady))

/-- AT_TBL_CLEAR (R243, R261): BUSY while a learning update is on its way. -/
def execAtTblClear (c : Cmd) (s : State) : Result :=
  .next (c.run s ⟨true, false⟩ (c.reservedOk 0 0 0 false) (fun s =>
    if !s.pwr.aonUp then c.done s stNotReady
    else if s.ato.learnt.isSome then c.done s stBusy
    else
      let s := s.clearTable
      c.done { s with ato := { s.ato with changed := true } } stOk))

end Sys2Proof.Machine
end

