-- ==== Sys2Proof/Machine/Calibration.lean ====
section
/-!
DEFINITION. Calibration runs, the reference qualifier and the stores of the calibration copies (R326 to R345).
-/
namespace Sys2Proof.Machine

abbrev csPass : Nat := 1
abbrev csPrecond : Nat := 2
abbrev csImplausible : Nat := 3
abbrev csNoAgree : Nat := 4
abbrev csSkipped : Nat := 5

/-- A set of values being made. -/
abbrev CalSetT := List (Nat × Int)

/-- A value of a set. -/
def calGet (t : CalSetT) (off : Nat) : Int := Store.get 0 t off

/-- Replace a value of a set. -/
def calPut (t : CalSetT) (off : Nat) (v : Int) : CalSetT := Store.set 0 t off v

/-! ### Plausibility and agreement (R332, R333) -/

/-- Whether two block sums agree within `ps`: 4,096 samples in units of 1/16 tap, 0.15625 ps. -/
def agrees (s1 s2 : Int) (ps : Nat) : Bool := decide ((s1 - s2).natAbs * 5 ≤ ps * 131072)

/-- The value of two block sums: their mean in 1/16 tap, rounded to nearest. -/
def blockMean (s1 s2 : Int) : Int := roundEven (s1 + s2) 8192

/-- The block sums of a unit of PORT_LB or REF_ALIGN in 1/16 tap, its samples corrected by the tap tables as the run has them so far
(R327). DESIGN CHOICE (assumption 10): a sample is not rounded to a whole tap before the mean is taken. -/
def corrected (t : CalSetT) (hits : List CalHits) (u : CalUnit) : CalUnit :=
  let sums (block : Nat) (l : List Int) : List Int := l.zipIdx.map (fun p =>
    (hits.filter (fun h => h.step = u.step && h.unit = u.unit && h.block = block && h.side = p.2)).foldl
      (fun x h => x + h.count * calGet t (calTap h.line h.tap)) (16 * p.1))
  if u.step < stepPort then u else { u with a := sums 0 u.a, b := sums 1 u.b }

/-- The drift limit applies to the value at an offset: it came from a valid copy or an earlier run since main reset. -/
def State.drifts (s : State) (off : Nat) : Bool := s.cal.fromCopy || s.cal.seen.contains off

/-- Drift of a delay value at `off` against the one in force, limit in ps (6.4 units of 1/16 tap each). -/
def State.driftOk (s : State) (off : Nat) (new old : Int) : Bool :=
  !s.drifts off || decide ((new - old).natAbs * 10 ≤ s.eff F.CAL_XCTRL_DRIFT_MAX * 64)

/-- Nominal sum of a port's side by mode, in 1/16 tap. -/
def nominalSum (mode : Nat) : Int := if mode = 0 then 24320 * 16 else if mode = 1 then 11776 * 16 else 22016 * 16

/-- Nominal limits of sensor trim words. DESIGN CHOICE (assumption 8): words 0 to 3 the offsets and 4 to 7 the gains of the
junction sensors, 8 to 12 the voltage gains, 13 to 15 the current gains, 16 the ATEMP offset; offsets in 1/16 degree, gains as
the deviation from 1 in units of 10^-4. -/
def trimLimit (j : Nat) : Nat := if j < 4 then 80 else if j < 8 then 200 else if j < 13 then 300 else if j < 16 then 500 else 48

/-- The trim words of sensor `u`: junction sensors 0 to 3, voltages 4 to 8, currents 9 to 11, ATEMP 12. -/
def trimWords (u : Nat) : List Nat := if u < 4 then [u, u + 4] else [u + 4]

/-- A trim is plausible; the drift limit is half the nominal one. -/
def State.trimOk (s : State) (j : Nat) (new old : Int) : Bool :=
  decide (new.natAbs ≤ trimLimit j) && (!s.drifts (calTrim j) || decide ((new - old).natAbs * 2 ≤ trimLimit j))

/-! ### One unit of one step (R329 to R334) -/

/-- Result of a unit: its status, the set after it, and the port, ball and line bits it traces. -/
structure UnitRes where
  status : Nat
  set : CalSetT
  deriving DecidableEq, Repr

/-- SENSE. -/
def State.calSense (s : State) (t : CalSetT) (u : CalUnit) : UnitRes :=
  let ws := (trimWords u.unit).zip u.a
  if !u.pre || 12 < u.unit || u.a.length < (trimWords u.unit).length then ⟨csPrecond, t⟩
  else if ws.all (fun p => s.trimOk p.1 p.2 (calGet s.calSet (calTrim p.1))) then
    ⟨csPass, ws.foldl (fun t p => calPut t (calTrim p.1) p.2) t⟩
  else ⟨csImplausible, t⟩

/-- DLL_LIN: `a` the 512 corrections, `b` residual INL and DNL in fs. -/
def calDll (t : CalSetT) (u : CalUnit) : UnitRes :=
  if !u.pre || 90 < u.unit || u.a.length ≠ 512 then ⟨csPrecond, t⟩
  else if u.a.all (fun c => decide (c.natAbs ≤ 96)) && decide ((u.b.getD 0 0).natAbs ≤ 4000) && decide ((u.b.getD 1 0).natAbs ≤ 1500)
    then ⟨csPass, u.a.zipIdx.foldl (fun t p => calPut t (calTap u.unit p.2) p.1) t⟩
  else ⟨csImplausible, t⟩

/-- The line receive constant that REF_ALIGN measured on a port in this run; none where it did not pass. -/
def State.refRx (s : State) (us : List CalUnit) (n : Nat) : Option Int :=
  match us.find? (fun u => u.step = stepRef && u.unit = n) with
  | none => none
  | some u =>
    let v := blockMean (u.a.getD 0 0) (u.b.getD 0 0)
    let off := calPort n 0 (s.calMode n .line) 0
    if u.pre && agrees (u.a.getD 0 0) (u.b.getD 0 0) (s.eff F.CAL_XCTRL_AGREE_REF)
        && decide ((v - Config.fusedCal off).natAbs ≤ 3200) && s.driftOk off v (calGet s.calSet off)
    then some v else none

/-- The new sum of a side, with its status. -/
def State.sideSum (s : State) (u : CalUnit) (side : Nat) (sd : Side) : Nat × Int :=
  let n := u.unit
  let m := s.calMode n sd
  let s1 := u.a.getD side 0
  let s2 := u.b.getD side 0
  let v := blockMean s1 s2 - Config.fusedCal (0x10000 + 2 * n + side)
  let old := calGet s.calSet (calPort n side m 0) + calGet s.calSet (calPort n side m 1)
  if !agrees s1 s2 (s.eff F.CAL_XCTRL_AGREE_PORT) then (csNoAgree, v)
  else if decide (6400 < (v - nominalSum m).natAbs) || !s.driftOk (calPort n side m 0) v old then (csImplausible, v)
  else (csPass, v)

/-- Split a new sum of a side (R334): by the measured receive constant, or by halves of the change. -/
def splitSum (t : CalSetT) (n side mode : Nat) (sum : Int) (rx : Option Int) : CalSetT :=
  let r0 := calGet t (calPort n side mode 0)
  let x0 := calGet t (calPort n side mode 1)
  match rx with
  | some r => calPut (calPut t (calPort n side mode 0) r) (calPort n side mode 1) (sum - r)
  | none =>
    let d := sum - (r0 + x0)
    calPut (calPut t (calPort n side mode 0) (r0 + d / 2)) (calPort n side mode 1) (x0 + (d - d / 2))

/-- PORT_LB: both sides of a port. `rx` is what REF_ALIGN measured for the port in this run. -/
def State.calPortLb (s : State) (t : CalSetT) (u : CalUnit) (rx : Option Int) : UnitRes :=
  let n := u.unit
  if !u.pre then ⟨csPrecond, t⟩
  else
    let l := s.sideSum u 0 .line
    let h := s.sideSum u 1 .host
    if l.1 ≠ csPass then ⟨l.1, t⟩
    else if h.1 ≠ csPass then ⟨h.1, t⟩
    else
      let t := splitSum t n 0 (s.calMode n .line) l.2 rx
      ⟨csPass, splitSum t n 1 (s.calMode n .host) h.2 (rx.map (fun _ => Config.hostSplit n (s.calMode n .host) h.2))⟩

/-- REF_ALIGN on a port, a ball (32 + n) or a capture line (48 + i). A port whose PORT_LB is not in the run keeps its sums. -/
def State.calRef (s : State) (t : CalSetT) (u : CalUnit) : UnitRes :=
  let s1 := u.a.getD 0 0
  let s2 := u.b.getD 0 0
  let v := blockMean s1 s2
  let off := if u.unit < 32 then calPort u.unit 0 (s.calMode u.unit .line) 0
    else if u.unit < 48 then calTioIn (u.unit - 32) else calLine (u.unit - 48)
  if !u.pre || 50 < u.unit then ⟨csPrecond, t⟩
  else if !agrees s1 s2 (s.eff F.CAL_XCTRL_AGREE_REF) then ⟨csNoAgree, t⟩
  else if decide (3200 < (v - Config.fusedCal off).natAbs) || !s.driftOk off v (calGet s.calSet off) then ⟨csImplausible, t⟩
  else if u.unit < 32 then
    let n := u.unit
    let m := s.calMode n .line
    ⟨csPass, splitSum t n 0 m (calGet t (calPort n 0 m 0) + calGet t (calPort n 0 m 1)) (some v)⟩
  else if u.unit < 48 then
    let n := u.unit - 32
    ⟨csPass, calPut (calPut t off v) (calTioOut n) (v + Config.fusedCal (calTioOut n))⟩
  else
    let t := calPut t off v
    ⟨csPass, if u.unit = 49 then (List.range s.fuses.variant.ckos).foldl (fun t n => calPut t (calCko n) (v + Config.fusedCal (calCko n))) t
             else t⟩

/-- Offsets of the values with a drift limit that a unit measures (R332). -/
def State.unitValues (s : State) (u : CalUnit) : List Nat :=
  let n := u.unit
  if u.step = stepSense then (trimWords n).map calTrim
  else if u.step = stepPort then
    [calPort n 0 (s.calMode n .line) 0, calPort n 0 (s.calMode n .line) 1, calPort n 1 (s.calMode n .host) 0,
      calPort n 1 (s.calMode n .host) 1]
  else if u.step = stepRef then
    if n < 32 then [calPort n 0 (s.calMode n .line) 0, calPort n 0 (s.calMode n .line) 1]
    else if n < 48 then [calTioIn (n - 32)] else [calLine (n - 48)]
  else []

/-! ### A run's units in run order (R330, R335, R344) -/

/-- What a run has found so far: the set, failed units, the first failure (step, unit, status), the worst status per step, the
steps whose first failure has been reported, the passing REF_ALIGN and PORT_LB units, and the offsets of the values measured. -/
structure RunAcc where
  set : CalSetT
  failed : Nat
  first : Option (Nat × Nat × Nat)
  worst : List (Nat × Nat)
  fails : List (Nat × Nat × Nat)
  refPass : List Nat
  lbPass : List Nat
  passed : Nat
  seen : List Nat
  deriving DecidableEq, Repr

/-- Enter a unit's result. -/
def RunAcc.enter (a : RunAcc) (u : CalUnit) (offs : List Nat) (r : UnitRes) : RunAcc :=
  let a := { a with set := r.set, worst := Store.set 0 a.worst u.step (max (Store.get 0 a.worst u.step) r.status) }
  if r.status = csPass then
    { a with passed := a.passed + 1
             seen := a.seen ++ offs.filter (fun o => !a.seen.contains o)
             refPass := if u.step = stepRef then u.unit :: a.refPass else a.refPass
             lbPass := if u.step = stepPort then u.unit :: a.lbPass else a.lbPass }
  else
    { a with failed := a.failed + 1
             first := some (a.first.getD (u.step, u.unit, r.status))
             fails := if a.fails.any (fun f => f.1 = u.step) then a.fails else a.fails ++ [(u.step, u.unit, r.status)] }

/-- Unit `n` of step `k` exists: every sensor, each bonded line, ball and port, and the three capture lines (R5, R326). -/
def Variant.calUnit (v : Variant) (k n : Nat) : Bool :=
  if k = stepSense then decide (n < 13)
  else if k = stepDll then (88 ≤ n && n < 91) || (n < 88 && v.dllBonded n)
  else if k = stepPort then decide (n < v.ports)
  else if n < 32 then decide (n < v.ports)
  else if n < 48 then decide (n - 32 < v.tios)
  else decide (n < 51)

/-- The units of step `k` that a run covers: every sensor, line, ball and capture line, and the ports that it names. -/
def stepUnits (v : Variant) (r : CalRun) (k : Nat) : List Nat :=
  (List.range 91).filter (fun n => r.steps.testBit k && v.calUnit k n
    && !((k = stepPort || (k = stepRef && n < 32)) && !r.ports.testBit n))

/-- The units of a run in run order, step by step, each with what was measured on it; nothing was where its precondition failed before,
and nothing counts where it failed or was lost in its phase (R330). -/
def State.runUnits (s : State) (r : CalRun) (us : List CalUnit) : List CalUnit :=
  (List.range 4).flatMap (fun k => (stepUnits s.fuses.variant r k).map (fun n =>
    let u := (us.find? (fun u => u.step = k && u.unit = n)).getD ⟨k, n, false, [], []⟩
    { u with pre := u.pre && !s.cal.failed.contains (k, n) }))

/-- Measure every unit of a run, each with the results of the steps before it. -/
def State.measure (s : State) (r : CalRun) (us : List CalUnit) (hits : List CalHits) : RunAcc :=
  let us := s.runUnits r us
  us.foldl (fun a u =>
    let c := corrected a.set hits u
    a.enter u (s.unitValues u) (
      if u.step = stepSense then s.calSense a.set c
      else if u.step = stepDll then calDll a.set c
      else if u.step = stepPort then s.calPortLb a.set c (s.refRx (us.map (corrected a.set hits)) u.unit)
      else s.calRef a.set c))
    ⟨s.calSet, 0, none, [], [], [], [], 0, s.cal.seen⟩

/-! ### Trace and state (R336) -/

/-- Set or clear bit `n` of a field. -/
def State.setBit (s : State) (f : Fld) (n : Nat) (b : Bool) : State :=
  let v := s.get f
  s.set f (if b then v ||| 2 ^ n else if v.testBit n then v - 2 ^ n else v)

/-- The points that a run traced, and those that an untraced split took away. -/
def State.traceRun (s : State) (a : RunAcc) : State :=
  let s := a.lbPass.foldl (fun s n => if a.refPass.contains n then s else s.setBit F.CAL_TRACE_P_PORT n false) s
  a.refPass.foldl (fun s u =>
    if u < 32 then s.setBit F.CAL_TRACE_P_PORT u true
    else if u < 48 then s.setBit F.CAL_TRACE_T_TIO (u - 32) true
    else s.setBit F.CAL_TRACE_T_LINE (u - 48) true) s

/-- The state is TRACED. -/
def State.traced (s : State) : Bool :=
  (List.range s.fuses.variant.ports).all (fun n => !s.on F.STR_CTRL_EN n || (s.get F.CAL_TRACE_P_PORT).testBit n)
    && (List.range s.fuses.variant.tios).all (fun n => (s.get F.CAL_TRACE_T_TIO).testBit n)
    && decide (s.get F.CAL_TRACE_T_LINE = 7)

/-- Evaluate the calibration state; a change is an event and a recorder trigger. -/
def State.calState (s : State) : State :=
  let un := !s.traced
  if un = s.on F.TB_STATUS_UNTRACED then s
  else
    let s := (s.put F.TB_STATUS_UNTRACED un).raise (if un then F.CAL_EVT_UNTRACED else F.CAL_EVT_TRACED)
    s.recTrigger trCal 6

/-! ### The switch (R328) -/

/-- The new set takes effect: at a CAL epoch, or in COLD at r_sw, which CAL_SWRAW records; its ATEMP offset is on its way to the Atoll. -/
def State.calSwitch (s : State) (t : CalSetT) : State :=
  let r := s.raw
  let cur := !s.cal.cur
  let s := { s with cal := { s.cal with set0 := if cur then s.cal.set0 else t, set1 := if cur then t else s.cal.set1, cur := cur, swAt := r }
                    tb := { s.tb with calset := cur }
                    ato := { s.ato with atempNext := some (calGet t (calTrim 16)) } }
  if s.tbState = tbCold then s.set F.CAL_SWRAW_RAW (r % 2 ^ 73) else s.beginEpoch kCal r 0

/-! ### Stores (R340 to R343) -/

/-- Start a store of the set in force into the copy not in use. -/
def State.storeStart (s : State) (cmd : Option (Src × Nat × Bool × Nat × Nat)) : State :=
  let g (k : Nat) : Nat := (Store.get ⟨false, 0, 0, 0, 0, 0, []⟩ s.cal.copies k).gen
  let k := if s.on F.CAL_STAT_NO_COPY then 0 else 1 - s.get F.CAL_STAT_COPY
  let gen := if s.on F.CAL_STAT_NO_COPY then 1 else max (g 0) (g 1) + 1
  let refAll := (List.range s.fuses.variant.ports).all (fun n => (s.get F.CAL_TRACE_P_PORT).testBit n)
  let c : CalCopy := ⟨false, b2n s.traced + 2 * b2n refAll, gen, s.get F.REC_OPSEC_OPSEC % 2 ^ 32, s.get F.REC_PCC_PCC,
    s.get F.MON_JTEMP_JTEMP, s.calSet⟩
  let s := s.nvClear (calCopyWord k) 4096
  { s with cal := { s.cal with copies := Store.set ⟨false, 0, 0, 0, 0, 0, []⟩ s.cal.copies k c, store := some ⟨k, gen, cmd⟩ } }

/-- Start a store, or let it wait for the one in progress. -/
def State.storeOrWait (s : State) (cmd : Option (Src × Nat × Bool × Nat × Nat)) : State :=
  match s.cal.store with
  | none => s.storeStart cmd
  | some _ => { s with cal := { s.cal with storeNext := s.cal.storeNext ++ [cmd] } }

/-- Complete CAL_RUN: result and status (R338). -/
def State.finishCal (s : State) (c : Src × Nat × Bool) (st failed gen : Nat) : State :=
  s.finish c.1 c.2.1 st c.2.2 (failed + 2 ^ 32 * gen)

/-- A store ends. -/
def State.storeDone (s : State) (ok : Bool) : State :=
  match s.cal.store with
  | none => s
  | some x =>
    let z : CalCopy := ⟨false, 0, 0, 0, 0, 0, []⟩
    let s := { s with cal := { s.cal with store := none
                                          copies := Store.set z s.cal.copies x.copy { Store.get z s.cal.copies x.copy with valid := ok } } }
    let s := if ok then
        (((s.set F.CAL_STAT_COPY x.copy).lower F.CAL_STAT_NO_COPY).set F.CAL_GEN_GEN x.gen).raise F.CAL_EVT_STORE_DONE
      else
        ((s.raise F.CAL_STAT_STORE_FAIL).raise F.CAL_EVT_STORE_FAIL).recTrigger trCal (4 + 2 ^ 11 * x.copy)
    let s := match x.cmd with
      | some (src, tag, q, st, failed) =>
        s.finishCal (src, tag, q) (if (st = stOk || st = stUntraced) && !ok then stNvmFail else st) failed (if ok then x.gen else 0)
      | none => s
    match s.cal.storeNext with
    | y :: t => { s with cal := { s.cal with storeNext := t } }.storeStart y
    | [] => s

/-! ### The phases of a run in progress (R329, R330, R335) -/

/-- The precondition of a unit fails, or is lost. -/
def State.calFail (s : State) (k n : Nat) : State := { s with cal := { s.cal with failed := (k, n) :: s.cal.failed } }

/-- Several units of a step fail their precondition. -/
def State.calFailAll (s : State) (k : Nat) (ns : List Nat) : State := ns.foldl (fun s n => s.calFail k n) s

/-- The ports that a phase measures, and all its units. -/
def phasePorts (v : Variant) (r : CalRun) (p : CalPhase) : List Nat :=
  match p.port with
  | some n => [n]
  | none => if p.step = stepPort || (p.step = stepRef && r.kind = 1) then (List.range v.ports).filter (fun n => r.ports.testBit n) else []
def phaseUnits (v : Variant) (r : CalRun) (p : CalPhase) : List Nat :=
  match p.port with
  | some n => [n]
  | none => (stepUnits v r p.step).filter (fun n => p.step ≠ stepRef || decide (32 ≤ n) || r.kind = 1)

/-- A phase begins: CAL_STAT.STEP, the lines that are not locked, the reference as it stands, and its port taken into CAL. -/
def State.calEnter (s : State) (r : CalRun) (p : CalPhase) (held : Option Nat) : State :=
  let s := s.set F.CAL_STAT_STEP p.step
  if p.step = stepDll then s.calFailAll stepDll ((phaseUnits s.fuses.variant r p).filter (fun d => !s.dllLocked d))
  else
    let s : State := if p.step = stepRef then
        { s with cal := { s.cal with run := some { r with refQual := s.on F.CAL_REFMON_REF_QUAL } } } else s
    match p.port with
    | some n => if held = some n then s else s.calTake n
    | none => s

/-- A phase ends: ports that are not in CAL fail it, all its units where the reference has not held; its port is released unless the next
phase measures it too. -/
def State.calLeave (s : State) (r : CalRun) (p : CalPhase) (next : Option Nat) : State :=
  let v := s.fuses.variant
  let s := s.calFailAll p.step ((phasePorts v r p).filter (fun n => s.pstate n ≠ psCal))
  let s := if p.step = stepRef && !r.refQual then s.calFailAll stepRef (phaseUnits v r p) else s
  match p.port with
  | some n => if next = some n then s else s.calRelease n
  | none => s

/-- From one phase of the run to the next. -/
def State.calTurn (s : State) : State :=
  match s.cal.run with
  | none => s
  | some r =>
    let old := s.calPhase
    let new := r.phases[s.cal.phase]?
    let s := match old with
      | some p => s.calLeave r p (new.bind (·.port))
      | none => s
    let s : State := { s with cal := { s.cal with phase := s.cal.phase + 1 } }
    match new with
    | some p => s.calEnter r p (old.bind (·.port))
    | none => s

/-- Bring the run to its `k`-th phase. -/
def State.calTurns (s : State) (k : Nat) : State := (List.range (k - s.cal.phase)).foldl (fun s _ => s.calTurn) s

/-- Bring the run in progress to the phase that the time is in. -/
def State.calSync (s : State) : State :=
  match s.cal.run with
  | some r => s.calTurns (phasesBegun r.phases (s.cyc - s.cal.runAt))
  | none => s

/-- The phases that are left of the run. -/
def State.calFinish (s : State) : State :=
  match s.cal.run with
  | some r => s.calTurns (r.phases.length + 1)
  | none => s

/-! ### Runs (R337, R338) -/

/-- Start a run. -/
def State.startRun (s : State) (r : CalRun) : State :=
  let first := ((List.range 4).find? (fun k => r.steps.testBit k)).getD 0
  { ((s.raise F.CAL_STAT_BUSY).set F.CAL_STAT_RUN r.kind).set F.CAL_STAT_STEP first with
    cal := { s.cal with run := some r, runAt := s.cyc, phase := 0, failed := []
                        perAt := if r.periodic then s.get F.REC_OPSEC_OPSEC else s.cal.perAt } }

/-- Start a run, or let it wait for the run in progress. -/
def State.runOrWait (s : State) (r : CalRun) : State :=
  if s.cal.run.isSome then { s with cal := { s.cal with due := s.cal.due ++ [r] } } else s.startRun r

/-- Statuses of the steps, the first failure, events and triggers at the end of a run. -/
def State.reportRun (s : State) (a : RunAcc) (r : CalRun) : State :=
  let w (k : Nat) : Nat := if r.kind = 1 && k = stepRef && !r.steps.testBit stepRef then csSkipped else Store.get 0 a.worst k
  let s := (((s.set F.CAL_STAT_SENSE (w 0)).set F.CAL_STAT_DLL_LIN (w 1)).set F.CAL_STAT_PORT_LB (w 2)).set F.CAL_STAT_REF_ALIGN (w 3)
  let s := match a.first with
    | some (k, u, _) => ((s.set F.CAL_STAT_FAIL_STEP k).set F.CAL_STAT_FAIL_UNIT u).raise F.CAL_EVT_UNIT_FAIL
    | none => (s.set F.CAL_STAT_FAIL_STEP 0).set F.CAL_STAT_FAIL_UNIT 0
  let s := a.fails.foldl (fun s f => s.recTrigger trCal (2 + 16 * f.1 + 256 * f.2.2 + 4096 * f.2.1)) s
  let s := (s.raise F.CAL_EVT_RUN_DONE).recTrigger trCal (1 + 4096 * min a.failed 4095)
  (s.lower F.CAL_STAT_BUSY).clearAll 0 [F.CAL_STAT_RUN, F.CAL_STAT_STEP]

/-- The end of a run: trace and state, which the CAL epoch of the switch shows (R336), report, store. -/
def State.endRun (s : State) (r : CalRun) (us : List CalUnit) (hits : List CalHits) : State :=
  let a := s.measure r us hits
  let changed := decide (a.set ≠ s.calSet)
  let s := s.traceRun a
  let s := if a.passed = 0 && r.kind ≠ 1 then s else s.calState
  let s := if a.passed = 0 then s else s.calSwitch a.set
  let s := s.reportRun a r
  let s := { s with cal := { s.cal with run := none, seen := a.seen } }
  let st := match a.first with
    | some (_, _, x) => if x = csPrecond then stPrecondFail else stAborted
    | none => if s.on F.TB_STATUS_UNTRACED then stUntraced else stOk
  let hour := !r.periodic || (match s.cal.storedAt with
    | some t => decide (t + 3600 ≤ s.get F.REC_OPSEC_OPSEC)
    | none => true)
  let s := if s.on F.CAL_CTRL_STORE_EN && changed && !r.nostore && hour then
      let s := s.storeOrWait (r.cmd.map (fun c => (c.1, c.2.1, c.2.2, st, a.failed)))
      if r.periodic then { s with cal := { s.cal with storedAt := some (s.get F.REC_OPSEC_OPSEC) } } else s
    else match r.cmd with
      | some c => s.finishCal c st a.failed 0
      | none => s
  match s.cal.due with
  | [] => s
  | x :: t => { s with cal := { s.cal with due := t } }.startRun { x with refQual := s.on F.CAL_REFMON_REF_QUAL }

/-! ### Meanings -/

/-- REF_QUALIFIED (R331): errors of the clock in 0.1 ppm and of the PPS period in ns. -/
def execRefQualified (clkErr ppsErr : Int) (s : State) : Result :=
  .next (if s.pwr.stby ≠ .up then s
         else
           let s := (s.setInt F.CAL_REFMON_CLK_ERR (clampInt (-128) 127 clkErr)).setInt F.CAL_REFMON_PPS_ERR
             (clampInt (-32768) 32767 ppsErr)
           if 50 < clkErr.natAbs || 1000 < ppsErr.natAbs then s
           else
             let s := s.raise F.CAL_REFMON_REF_QUAL
             if s.mainUp then s.raise F.CAL_EVT_REF_QUAL else s)

/-- REF_LOSS_CAL (R331). -/
def execRefLossCal (clkErr ppsErr : Int) (s : State) : Result :=
  .next (if s.pwr.stby ≠ .up then s
         else
           let s := (s.setInt F.CAL_REFMON_CLK_ERR (clampInt (-128) 127 clkErr)).setInt F.CAL_REFMON_PPS_ERR
             (clampInt (-32768) 32767 ppsErr)
           let s := s.calSync.lower F.CAL_REFMON_REF_QUAL
           let s := match s.cal.run with
             | some r => { s with cal := { s.cal with run := some { r with refQual := false } } }
             | none => s
           if s.mainUp then s.raise F.CAL_EVT_REF_LOSS else s)

/-- A run may start, or wait for the one in progress, which may be the power-up run. -/
def State.calMay (s : State) : Bool := s.ready || (s.mainUp && s.cal.run.isSome)

/-- PERIOD minutes have passed since the last periodic run, 0 acting as 1. -/
def State.perDue (s : State) : Bool := decide (s.cal.perAt + 60 * max 1 (s.get F.CAL_CTRL_PERIOD) ≤ s.get F.REC_OPSEC_OPSEC)

/-- CAL_PERIODIC_RUN (R337). DESIGN CHOICE (assumption 10): the interval counts from the start of the last periodic run, the first from
T4. -/
def execCalPeriodicRun (s : State) : Result :=
  .next (if s.calMay && s.on F.CAL_CTRL_PER_EN && s.perDue && !s.cal.due.any (·.periodic) then
           s.runOrWait ⟨3, 3, 0, false, true, s.on F.CAL_REFMON_REF_QUAL, none⟩
         else s)

/-- AUTO_TRACE_RUN (R337): at most once per power-up. -/
def execAutoTraceRun (s : State) : Result :=
  .next (if s.calMay && s.on F.CAL_CTRL_AUTO_TRACE && s.on F.CAL_REFMON_REF_QUAL && s.on F.TB_STATUS_UNTRACED && !s.cal.autoDone then
           let ports := s.get F.CAL_PMASK_PMASK % 2 ^ s.fuses.variant.ports
           { s with cal := { s.cal with autoDone := true } }.runOrWait ⟨3, 8, ports, false, false, true, none⟩
         else s)

/-- CAL_RUN_END (R328, R330): `units` are the measurements of the run. What was left of its phases has passed (assumption 10). -/
def execCalRunEnd (units : List CalUnit) (s : State) (hits : List CalHits := []) : Result :=
  .next (match s.cal.run with
    | none => s
    | some r =>
      if r.kind = 1 then s
      else s.calFinish.endRun r units hits)

/-- CAL_STORE_DONE (R342, R343). -/
def execCalStoreDone (ok : Bool) (s : State) : Result := .next (s.storeDone ok)

/-- CAL_RUN (R338). -/
def execCalRun (c : Cmd) (s : State) : Result :=
  .next (c.run s ⟨true, true⟩ true (fun s =>
    let steps := c.a.toNat % 16
    let ports := c.cAt 0 4
    if s.cal.run.isSome then c.done s stBusy
    else if steps = 0 || !c.reservedOk 0x1F 0 (2 ^ 32 - 1) false || decide (2 ^ s.fuses.variant.ports ≤ ports) then c.done s stBadParam
    else s.startRun ⟨2, steps, ports, c.a.toNat.testBit 4, false, s.on F.CAL_REFMON_REF_QUAL, some (c.src, c.tag.toNat, c.quiet)⟩))

end Sys2Proof.Machine
end

