-- ==== Sys2Proof/Machine/Clocking.lean ====
section
/-!
DEFINITION. SYN0, its frequency sources and DPLL, loss of lock, the frequency checker and halt, delay-locked lines and clock
outputs (R178 to R198).
-/
namespace Sys2Proof.Machine

/-! ### Loss of lock and halt (R185 to R190) -/

/-- SYN0 loses lock, or REF_LOSS freezes it (R187). -/
def State.lockLoss (s : State) : State :=
  let s := (s.lower F.CK_STATUS_RELOCKING).raise F.CK_STATUS_SYN_UNLOCK
  (s.raise F.CK_EVT_SYN_UNLOCK).tbDegrade.fsrcReview

/-- PORT_HALT to every port, with CKO and TIO outputs (R188). -/
def State.haltAll (s : State) : State :=
  let ferr := s.get F.CK_FERR_FERR
  let s := s.forPorts s.fuses.variant.ports (fun n s =>
    let r := s.haltPort n
    if r.1 then (r.2.postMain (s.get F.HIF_EVMAP_CK) 0x0C 0 n (le 4 ferr)).recTrigger trCkHalt n else s)
  let s := if s.halted then s else s.gensHalt
  { (s.raise F.CK_STATUS_HALT).raise F.CK_EVT_HALT with ck := { s.ck with goodWins := 0 } }

/-- The halt is released (R188). -/
def State.haltEnd (s : State) : State :=
  if !s.halted then s
  else
    let s := (s.lower F.CK_STATUS_HALT).raise F.CK_EVT_HALT_RELEASE
    (s.forPorts s.fuses.variant.ports (fun n s => s.unhaltPort n)).gensRelease

/-! ### Lock detection (R185, R186) -/

/-- The digital detector of the ZN4832 at one reference cycle (R185): `some true` where N cycles in a row were in window, `some
false` where four in a row were not. -/
def LockDet.window (n : Nat) (d : LockDet) (out : Bool) : LockDet × Option Bool :=
  let d := if out then { d with inRun := 0, outRun := d.outRun + 1 } else { d with inRun := d.inRun + 1, outRun := 0 }
  (d, if 4 ≤ d.outRun then some false else if n ≤ d.inRun then some true else none)

/-- The block rule of the 484-ball parts at one reference cycle (R186): at the end of a block of N cycles `some true` where none was
out of window, `some false` where at least N/512, and at least one, were. -/
def LockDet.block (n : Nat) (d : LockDet) (out : Bool) : LockDet × Option Bool :=
  let outs := d.blkOut + b2n out
  let d := { d with outRun := if out then d.outRun + 1 else 0 }
  if d.blk + 1 < n then ({ d with blk := d.blk + 1, blkOut := outs }, none)
  else ({ d with blk := 0, blkOut := 0 }, if outs = 0 then some true else if n ≤ 512 * outs then some false else none)

/-- What a run of reference cycles shows: the detector after them, how many were out of window, SYN_LOCK, and whether lock was lost
and whether the lock criterion was met since. -/
structure LockRun where
  det : LockDet
  outs : Nat
  lock : Bool
  lost : Bool
  met : Bool
  deriving DecidableEq, Repr

/-- One more reference cycle. -/
def LockRun.cycle (v : Variant) (n : Nat) (x : LockRun) (out : Bool) : LockRun :=
  let r := if v = .zn4832 then x.det.window n out else x.det.block n out
  let x := { x with det := r.1, outs := x.outs + b2n out }
  match r.2 with
  | some true => { x with lock := true, met := true }
  | some false => { x with lock := false, met := false, lost := x.lost || x.lock }
  | none => x

/-- Reference cycle by reference cycle the window test of the phase errors `errs`, in ps (R185): one beyond WIN is out of window, and
so is every one while REF_LOSS is set. -/
def State.lockRun (s : State) (errs : List Int) : LockRun :=
  let win := s.eff F.CK_LOCK_WIN
  let away := s.on F.CK_STATUS_REF_LOSS
  errs.foldl (fun x e => x.cycle s.fuses.variant (s.eff F.CK_LOCK_N) (away || decide (win < e.natAbs)))
    ⟨s.ck.det, 0, s.on F.CK_STATUS_SYN_LOCK, false, false⟩

/-- LOCKF of a 484-ball part is driven low: its last reference cycle was out of window (R6, R186). DESIGN CHOICE (assumption 34): R186
gives no level for the time in which the main domain is held in reset and SYN0 acquires at start-up step 6; the model releases the ball
then. -/
def State.lockfLow (s : State) : Bool := s.fuses.variant != .zn4832 && s.mainUp && (s.on F.CK_STATUS_REF_LOSS || decide (0 < s.ck.det.outRun))

/-- SYN0 has locked again (R189). -/
def State.relocked (s : State) : State :=
  let s := (s.lower F.CK_STATUS_RELOCKING).lower F.CK_STATUS_SYN_UNLOCK
  { s.raise F.CK_EVT_SYN_RELOCK with ck := { s.ck with forced := false } }.tbUndegrade.haltEnd.fsrcReview

/-- Reference cycles with phase errors `errs` pass (R185, R186): PHERR counts those out of window, SYN_LOCK follows the detector, and
a loss of lock acts; while SYN0 closes its loop the lock criterion ends SYN_UNLOCK (R189). -/
def State.refCycles (s : State) (errs : List Int) : State :=
  let x := s.lockRun errs
  let s := (s.bump F.CK_PHERR_CNT_PHERR 0 x.outs).put F.CK_STATUS_SYN_LOCK x.lock
  let s := { s with ck := { s.ck with det := x.det } }
  let s := if x.lost then s.lockLoss else s.fsrcReview
  if x.met && s.on F.CK_STATUS_RELOCKING then s.relocked else s

/-- REF_LOSS (R179, R187). -/
def execRefLoss (s : State) : Result :=
  .next (if s.mainUp then
           let s := (s.raise F.CK_STATUS_REF_LOSS).raise F.CK_EVT_REF_LOSS
           { s with ck := { s.ck with refLost := true } }.lockLoss
         else s)

/-- REF_RESTORE (R179): `cycles` are the reference cycles under REF_LOSS that no command has reported, all out of window (R185). -/
def execRefRestore (s : State) (cycles : Nat := 0) : Result :=
  .next (if s.mainUp then
           let s := if s.on F.CK_STATUS_REF_LOSS then s.refCycles (List.replicate cycles 0) else s
           (s.lower F.CK_STATUS_REF_LOSS).fsrcReview
         else s)

/-- SYN0_UNLOCK (R185 to R187): `errs` are the phase errors of the reference cycles that no command has reported, in ps. -/
def execSyn0Unlock (s : State) (errs : List Int := []) : Result := .next (if s.mainUp then s.refCycles errs else s)

/-- The reference of the next checker window (R188): `refErr` is REFIN's frequency against the Atoll clock in ppb, where a comparison
window ended. REFIN returns only after one that agreed within 100 ppm and in which REF_LOSS stayed clear. -/
def State.checkerRef (s : State) (refErr : Option Int) : State :=
  let away := s.on F.CK_STATUS_REF_LOSS
  let clean := !away && !s.ck.refLost
  let t := match refErr with
    | some _ => { s with ck := { s.ck with refLost := away } }
    | none => s
  let far := match refErr with
    | some d => decide (100000 < d.natAbs)
    | none => false
  if away || far then t.raise F.CK_STATUS_CHK_REF
  else if refErr.isSome && clean then t.lower F.CK_STATUS_CHK_REF
  else t

/-- CHECKER_WINDOW_END (R188): `err` in ppb, `refErr` as for `checkerRef`. -/
def execCheckerWindowEnd (err : Int) (refErr : Option Int) (us : Nat) (s : State) : Result :=
  .next (if !s.mainUp then s
         else
           let s := (s.setInt F.CK_FERR_FERR (clampInt (-2147483648) 2147483647 err)).checkerRef refErr
           if 200000 < err.natAbs then s.haltAll.detect 6 us
           else
             let n := if err.natAbs ≤ 150000 then s.ck.goodWins + 1 else 0
             let s := { s with ck := { s.ck with goodWins := n } }.tellUs us
             if 100 ≤ n then s.haltEnd else s)

/-- SYN0_RELOCK_START (R189). -/
def execSyn0RelockStart (s : State) : Result :=
  .next (if s.on F.CK_CTRL_RELOCK_EN && s.on F.CK_STATUS_SYN_UNLOCK && !s.on F.CK_STATUS_REF_LOSS
         then { s.raise F.CK_STATUS_RELOCKING with ck := { s.ck with det := ⟨0, s.ck.det.outRun, 0, 0⟩ } } else s)

/-- SYN_RELOCK (R189): `errs` are the phase errors of the reference cycles since the loop closed that no command has reported. -/
def execSynRelock (s : State) (errs : List Int := []) : Result :=
  .next (if s.on F.CK_STATUS_RELOCKING then s.refCycles errs else s)

/-! ### The DPLL (R182, R183) -/

/-- DPLL_UPDATE (R182): `ferr` is the selected candidate's frequency relative to SCLK over the last second in ppb, `measured` the
four candidates' frequencies against nominal at y = 0 in ppb, which PULL bounds (R181). The loop's target is free; REFIN's is y = 0.
In COLD it is applied at once. -/
def execDpllUpdate (ferr : Int) (measured : List Int) (s : State) : Result :=
  .next (if !s.mainUp then s
         else
           let s := { s with ck := { s.ck with measured := measured } }.fsrcReview
           let d := s.get F.CK_STATUS_DPLL
           let s := if d = dpllLocking && decide (ferr.natAbs ≤ 10) then s.set F.CK_STATUS_DPLL dpllLocked
             else if d = dpllLocked && decide (100 < ferr.natAbs) then s.set F.CK_STATUS_DPLL dpllLocking else s
           let s := if !s.on F.CK_STATUS_FSEL_VALID then s
             else if s.on F.CK_FSRC_TYPE (s.get F.CK_STATUS_FSEL) then
               let (x, s) := s.free
               { s with ck := { s.ck with target := signed 40 x } }
             else { s with ck := { s.ck with target := 0 } }
           if s.tbState = tbCold then s.setInt F.CK_SYN_ADJ_ADJ (s.adjAfter 1000000) else s)

/-- FSRC_QUALIFY (R181). -/
def execFsrcQualify (k : Nat) (s : State) : Result :=
  .next (if decide (k < 4) && s.mainUp && s.fsrcEligible k then
           { s with ck := { s.ck with qual := s.ck.qual ||| 2 ^ k } }.fsrcSelect
         else s)

/-- FSRC_WTR_EXPIRY (R181). -/
def execFsrcWtrExpiry (s : State) : Result :=
  .next (match s.fsrcBest with
    | some b => if s.ck.wtrRun && s.on F.CK_FSEL_REVERT && s.fsrcBetter b (s.get F.CK_STATUS_FSEL) then s.fsrcTake b else s
    | none => s)

/-! ### Guard, lines, outputs (R184, R192, R195) -/

/-- GUARD_STRETCH (R184). -/
def execGuardStretch (s : State) : Result :=
  .next (if s.mainUp then (s.bump F.CK_GUARD_CNT_GUARD).raise F.CK_EVT_GUARD else s)

/-- DLL_UNLOCK (R192). -/
def execDllUnlock (d : Nat) (s : State) : Result :=
  .next (let s := s.calSync
         let l := s.get F.CK_DLL_LOCK_LOCK
         let s := if s.calPhase.any (fun p => p.step = stepDll) then s.calFail stepDll d else s
         if d < 88 && l.testBit d then
           ((s.set F.CK_DLL_LOCK_LOCK (l - 2 ^ d)).bump F.CK_DLL_UNL_CNT_DLL_UNL).raise F.CK_EVT_DLL_UNLOCK
         else s)

/-- DLL_RELOCK (R192); a DLL of an unbonded resource stays idle (R5). -/
def execDllRelock (d : Nat) (s : State) : Result :=
  .next (if d < 88 && s.fuses.variant.dllBonded d && s.mainUp then s.set F.CK_DLL_LOCK_LOCK (s.get F.CK_DLL_LOCK_LOCK ||| 2 ^ d) else s)

/-- CKO_START (R195). -/
def execCkoStart (n : Nat) (s : State) : Result := .next (if n < 8 then s.genStart n else s)

end Sys2Proof.Machine
end

