-- ==== Sys2Proof/Machine/Host.lean ====
section
/-!
DEFINITION. Meanings of the host-interface rows: doorbells, descriptor fetch, held completions, moderation, link and reset of the
interface, NOP and RESET (R347 to R370).
-/
namespace Sys2Proof.Machine

/-! ### Event summary and vector 127 (R369, R370) -/

/-- An event register of the summary page, by its address, is nonzero. -/
def State.evtSet (s : State) (a : Nat) : Bool := s.peek a ≠ 0

/-- BLOCKS of the summary page. -/
def State.blocksNow (s : State) : Nat :=
  let any (base step : Nat) : Bool := (List.range 32).any (fun n => s.evtSet (base + step * n))
  let l := [s.evtSet 0x30024, s.evtSet 0x60024, s.evtSet 0x40044, s.evtSet 0x50014, s.on F.AT_STAT_WAKE || s.evtSet 0xC00C0,
    s.evtSet 0xD0008, s.evtSet 0xE0008, s.evtSet 0xF0024, s.evtSet 0x100014, s.evtSet 0x1000C, any 0x80008 0x1000,
    any 0xA0034 0x400, any 0x80044 0x1000]
  l.zipIdx.foldl (fun a p => if p.1 then a + 2 ^ p.2 else a) 0

/-- Bit n of a port bitmap: the register at `base + step * n` is nonzero. -/
def State.portMap (s : State) (base step : Nat) : Nat :=
  (List.range 32).foldl (fun a n => if s.evtSet (base + step * n) then a + 2 ^ n else a) 0

/-- The words of the summary page from its sources, without SEQ; those after the last are 0 (R369). Before the first entry of an event
ring its last EVSEQ shows 0 (assumption 17). -/
def State.pageNow (s : State) : List Nat :=
  let last (k : Nat) : Nat := match Store.get 0 s.hif.evSeq k with
    | 0 => if s.hif.evAny.testBit k then 2 ^ 32 - 1 else 0
    | n + 1 => n
  let flags := s.tbState + 8 * s.get F.TB_STATUS_UNTRACED + 16 * s.get F.TB_STATUS_STEP_PEND + 32 * s.get F.CK_STATUS_SYN_UNLOCK
    + 64 * s.get F.SRV_STATUS_TAINT + 128 * s.get F.CK_STATUS_HALT
  [0, s.blocksNow, flags, s.peek 0x30028]
    ++ [0x30024, 0x60024, 0x40044, 0x50014, 0xC00C0, 0xD0008, 0xE0008, 0xF0024, 0x100014, 0x1000C].map s.peek ++ [0, 0]
    ++ [s.portMap 0x80008 0x1000, s.portMap 0xA0034 0x400, s.portMap 0x80044 0x1000] ++ List.replicate 13 0
    ++ (List.range 4).flatMap (fun k => [last k, Store.get 0 s.hif.evLost k]) ++ List.replicate 24 0
    ++ (List.range 64).map (fun k => s.get F.HIF_RING_STAT_DROP (64 + k))

/-- The page follows its sources, SEQ even again after each update (R369). DESIGN CHOICE (assumption 40): an update, allowed 2 us, is done
within the SCLK cycle after the change. -/
def State.pageUpdate (s : State) : State :=
  let p := s.pageNow
  if p = s.hif.page then s
  else { s with hif := { s.hif with page := p, pageSeq := (s.hif.pageSeq + 2) % 2 ^ 32 } }.writeWords (sramKey 0x94900) 32

/-- The page follows its sources; vector 127 fires at most once per 10 us (7,813 cycles). -/
def State.summary (s : State) : State :=
  if !s.mainUp then s
  else
    let s := s.pageUpdate
    let b := s.hif.page.getD 1 0
    let e := s.peek 0x1000C
    let rose (new old : Nat) : Bool := decide (new &&& old ≠ new)
    let want := (s.on F.HIF_CTRL_SUM_IRQ && rose b s.hif.blocks) || (s.on F.HIF_CTRL_EVT_IRQ && rose e s.hif.evtSeen)
    let free := match s.hif.irqAt with
      | some t => decide (t + 7813 ≤ s.cyc)
      | none => true
    if want && !free then s
    else
      let s := { s with hif := { s.hif with blocks := b, evtSeen := e } }
      if want then { s with hif := { s.hif with irqAt := some s.cyc } }.fire 127 else s

/-! ### Doorbells (R352) -/

/-- A pointer moved to `v` on ring `r` stays within the entries between the device's pointer and software's: a CR's tail may
not pass its head, a device-written ring's head may not pass its tail. -/
def State.doorbellOk (s : State) (r v : Nat) : Bool :=
  let n := s.ringSize r
  let d := s.get F.HIF_RING_PTR_DEVPTR r % n
  let p := Store.get 0 s.hif.swPtr r % n
  let ahead := (v + n - p) % n
  let room := if r < 32 then (d + n - p + n - 1) % n else (d + n - p) % n
  s.on F.HIF_RING_CFG_EN r && decide (v < n) && decide (ahead ≤ room)

/-- The doorbell of ring `r` is written with `v`. A bad one is ignored and counted. -/
def State.doorbell (s : State) (r v : Nat) : State :=
  if !s.mainUp || 132 ≤ r then s
  else if s.doorbellOk r v then
    { s with hif := { s.hif with db := Store.set 0 s.hif.db r v, swPtr := Store.set 0 s.hif.swPtr r v } }
  else (s.bump F.HIF_CNT_DBBAD_DBBAD).raise F.HIF_EVT_DB_BAD

/-- DOORBELL_WRITE (R352). -/
def execDoorbellWrite (r : Nat) (v : Word) (s : State) : Result := .next (s.doorbell r v.toNat)

/-- What a read of BAR4 at offset `o` returns: the value last written to the doorbell there, 0 in its high four octets. -/
def State.doorbellRead (s : State) (o : Nat) : Nat := if o % 8 = 0 then Store.get 0 s.hif.db (o / 8) else 0

/-! ### Fetch (R353, R355, R358) -/

/-- CR `r` has descriptors, and its CP takes completions. -/
def State.fetchable (s : State) (r : Nat) : Bool :=
  s.on F.HIF_RING_CFG_EN r && decide (s.get F.HIF_RING_PTR_DEVPTR r % s.ringSize r ≠ Store.get 0 s.hif.swPtr r % s.ringSize r)
    && !s.ringFull (32 + s.get F.HIF_RING_CFG_CPSEL r)

/-- The CR served next: PRIO first, in turns of up to FETCH_BURST descriptors. -/
def State.nextCr (s : State) : Option Nat :=
  let all := (List.range 32).filter s.fetchable
  let hi := all.filter (fun r => s.on F.HIF_RING_CFG_PRIO r)
  let l := if hi.isEmpty then all else hi
  if l.contains s.hif.rr && decide (s.hif.burst < s.eff F.HIF_XCTRL_FETCH_BURST) then some s.hif.rr
  else (List.range 32).find? (fun i => l.contains ((s.hif.rr + 1 + i) % 32)) |>.map (fun i => (s.hif.rr + 1 + i) % 32)

/-- The opcodes of R359. -/
def opcodes : List Nat :=
  [0x00, 0x01, 0x02, 0x10, 0x11, 0x12, 0x18, 0x20, 0x21, 0x28, 0x29, 0x2A, 0x2B, 0x30, 0x31, 0x32, 0x33, 0x34, 0x35, 0x40, 0x41,
   0x42, 0x43, 0x44, 0x48, 0x49, 0x4A, 0x4B, 0x4C, 0x50, 0x51, 0x58, 0x59, 0x5A, 0x60]

/-- The first of the two ring-cache words that hold the descriptor of entry `e` of CR `r` (R379). -/
def cacheKey (r e : Nat) : Nat := sramKey (0x95000 + 512 * r + 2 * (e % 256))

/-- The descriptor of entry `e` of CR `r` goes through the ring cache: true where it cannot be read there. DESIGN CHOICE (assumption 41): a
prefetched descriptor is read again in the step of its fetch. -/
def State.cacheFetch (s : State) (r e : Nat) : Bool × State := (s.writeWords (cacheKey r e) 2).readWords (cacheKey r e) 2

/-- DESCRIPTOR_FETCH (R353, R386): `d` is the descriptor at the head of the ring that the device serves next, `err` an error of its
read. Before start-up step 10 every command completes with NOT_READY. -/
def execDescriptorFetch (d : Bytes) (err : Bool) (s : State) : Result :=
  .next (if !s.mainUp || decide (s.eff F.HIF_XCTRL_INFLIGHT_MAX ≤ s.hif.inflight.length) then s
         else match s.nextCr with
           | none => s
           | some r =>
             let entry := s.get F.HIF_RING_PTR_DEVPTR r
             let head := (entry + 1) % s.ringSize r
             let s := s.set F.HIF_RING_PTR_DEVPTR head r
             let n := if r = s.hif.rr && decide (s.hif.burst < s.eff F.HIF_XCTRL_FETCH_BURST) then s.hif.burst + 1 else 1
             let s := { s with hif := { s.hif with rr := r, burst := n } }
             if err then
               let (x, s) := s.free
               let tag := x % 65536
               let s := { s with hif := { s.hif with inflight := s.hif.inflight ++ [Flight.mk r tag 0 head .begun] } }
               s.dmaError.completeRing r tag stAborted 1 false
             else
               let op := leAt d 0 1
               let tag := leAt d 2 2
               let rd := s.cacheFetch r entry
               let s := rd.2
               let st : Stage := if !s.ready || rd.1 || !opcodes.contains op then .begun else .fetched op
               let s := { s with hif := { s.hif with inflight := s.hif.inflight ++ [Flight.mk r tag (leAt d 1 1) head st] } }
               if !s.ready then s.completeRing r tag stNotReady 0 false
               else if rd.1 then s.completeRing r tag stAborted 3 false
               else if !opcodes.contains op then s.completeRing r tag stBadOpcode 0 false
               else s)

/-- HELD_COMPLETION_WRITE (R351): ring `r` is a CP with an entry freed; its oldest held completion is written, with the phase
of the entry it takes. That of a RESET is followed by its main reset (R360). -/
def execHeldCompletionWrite (r : Nat) (s : State) : Result :=
  .next (if s.ringFull r then s
         else
           let held (f : Flight) : Option (Bytes × Bool) := match f.stage with
             | .held cp e => if cp = r then some (e, false) else none
             | .heldReset cp e => if cp = r then some (e, true) else none
             | _ => none
           match s.hif.inflight.findIdx? (fun f => (held f).isSome) with
           | none => s
           | some i =>
             match s.hif.inflight[i]?.bind held with
             | none => s
             | some (e, reset) =>
               let e := putAt e 13 [BitVec.ofNat 8 (s.ringPhase r)]
               let t := { s with hif := { s.hif with inflight := s.hif.inflight.eraseIdx i } }.ringWrite r e
               if reset then t.mainReset false else t)

/-- MSIX_MODERATION_TIMER (R368). -/
def execMsixModerationTimer (r : Nat) (s : State) : Result :=
  .next (if Store.get 0 s.hif.unsig r = 0 || s.get F.HIF_RING_PTR_MOD_US r = 0 then s
         else { s with hif := { s.hif with unsig := Store.set 0 s.hif.unsig r 0 } }.fire (s.get F.HIF_RING_CFG_VEC r))

/-! ### Link and reset of the interface (R33, R35, R347, R357, R420) -/

/-- The registers that a host-interface reset clears: rings, MSI-X table and PBA, and the link's state. -/
def hifCleared (key : Nat) : Bool := decide (0x11000 ≤ key / 32) && decide (key / 32 < 0x1A000)

/-- Discard what agents have latched and staged of the registers that an interface reset clears (R417). -/
def State.dropHifLatches (s : State) : State :=
  let keep (p : Nat × Option Nat) : Bool := !(decide (0x11000 ≤ p.1 / 2) && decide (p.1 / 2 < 0x1A000))
  { s with lat := ⟨s.lat.read.filter keep, s.lat.write.filter keep⟩ }

/-- HOST_INTERFACE_RESET (R35, R357): commands that have begun run on without their completion. Configuration space returns to reset
(PRESUMED, assumption 52). -/
def execHostInterfaceReset (s : State) : Result :=
  .next (if !s.mainUp then s
         else
           let waiting := (s.hif.inflight.filter Flight.waiting).length
           let s := s.bump F.HIF_CNT_DISC_DISC 0 waiting
           let s := s.bump F.HIF_CNT_LOSTCOMP_LOSTCOMP 0 (s.hif.inflight.length - waiting)
           let gone := (s.hif.inflight.filter (fun f => decide (f.stage = .begun))).map (fun f => (f.ring, f.tag))
           let h : Hif := { Hif.reset with
             evtSeen := s.hif.evtSeen, blocks := s.hif.blocks, page := s.hif.page, pageSeq := s.hif.pageSeq, irqAt := s.hif.irqAt
             orphans := s.hif.orphans ++ gone }
           let s : State := { s.dropHifLatches with fMain := s.fMain.filter (fun p => !hifCleared p.1), hif := h }
           (s.clearAll 0 [F.HIF_STATUS_LINK_UP, F.HIF_STATUS_SPEED, F.HIF_STATUS_WIDTH]).raise F.HIF_EVT_HIF_RESET)

/-- Lanes that a variant's link has (R347). -/
def Variant.lanes : Variant → Nat
  | .zn4832 => 4
  | _ => 2

/-- PCIE_LINK_UP (R347): `speed` 1 to 4 and `width` 1, 2 or 4 within what the part has. -/
def execPcieLinkUp (speed width : Nat) (s : State) : Result :=
  .next (if s.mainUp && decide (1 ≤ speed) && decide (speed ≤ 4) && (width = 1 || width = 2 || width = 4)
             && decide (width ≤ s.fuses.variant.lanes)
         then ((s.raise F.HIF_STATUS_LINK_UP).set F.HIF_STATUS_SPEED speed).set F.HIF_STATUS_WIDTH width
         else s)

/-! ### Commands (R359, R360) -/

/-- NOP (R359). -/
def execNop (c : Cmd) (s : State) : Result := .next (c.run s ⟨true, false⟩ (c.reservedOk 0 0 0 false) (fun s => c.done s stOk))

/-- A held completion as that of a RESET. -/
def Flight.holdsReset (f : Flight) : Flight :=
  match f.stage with
  | .held cp e => { f with stage := .heldReset cp e }
  | _ => f

/-- RESET completes: its main reset follows at once, or once a completion that the full CP holds is written. -/
def State.resetDone (s : State) (c : Cmd) : State :=
  let t := c.done s stOk
  match c.src with
  | .ring r =>
    if c.quiet || !s.ringFull (32 + s.get F.HIF_RING_CFG_CPSEL r.val) then t.mainReset false
    else
      let last := (begunAt r.val c.tag.toNat s.hif.inflight).getLast?
      { t with hif := { t.hif with inflight :=
          t.hif.inflight.zipIdx.map (fun p => if last = some p.2 then p.1.holdsReset else p.1) } }
  | .sideband => t.mainReset false

/-- RESET (R360): the completion, then a main reset. -/
def execReset (c : Cmd) (s : State) : Result :=
  .next (c.run s ⟨true, true⟩ (decide (c.a.toNat = 0x5A5A) && c.reservedOk 0x5A5A 0 0 false) (fun s => s.resetDone c))

end Sys2Proof.Machine
end

