-- ==== Sys2Proof/Machine/Memory.lean ====
section
/-!
DEFINITION. Meanings of the memory rows: the test engine, the scrub and retention (R383, R387 to R390).
-/
namespace Sys2Proof.Machine

/-- MT_WINDOW_BORROW (R387). -/
def execMtWindowBorrow (s : State) : Result :=
  .next (if s.mainUp && s.get F.MEM_STATUS_MT_STATE = mtIdle && s.mtMay then
           (s.skipWindows 3072).set F.MEM_STATUS_MT_STATE mtCopy
         else s)

/-- MT_COPY_DONE (R387). -/
def execMtCopyDone (s : State) : Result :=
  .next (if s.get F.MEM_STATUS_MT_STATE = mtCopy then s.set F.MEM_STATUS_MT_STATE mtTest else s)

/-- Spare rows left in a bank (R389). -/
def State.spares (s : State) (bank : Nat) : Nat := Store.get 8 s.mem.spares bank

/-- MT_TEST_DONE (R389): `fails` are the word addresses that failed, in order. -/
def execMtTestDone (fails : List Nat) (s : State) : Result :=
  .next (if s.get F.MEM_STATUS_MT_STATE = mtTest then
           let s := s.set F.MEM_STATUS_MT_STATE mtReturn
           let s := { s with mem := { s.mem with mtFails := fails } }
           match fails.getLast? with
           | none => s
           | some w => ((s.set F.MEM_MT_FAIL_ADDR w).set F.MEM_MT_FAIL_SPARES (s.spares (w % 32))).raise F.MEM_EVT_MT_FAIL
         else s)

/-- Repair one failing row with a spare of its bank (R389). -/
def State.repairRow (s : State) (w : Nat) : State :=
  let n := s.spares (w % 32)
  if n = 0 then s.raise F.MEM_EVT_MT_UNREP
  else
    let s := { s with mem := { s.mem with spares := Store.set 8 s.mem.spares (w % 32) (n - 1) } }
    if s.get F.MEM_MT_FAIL_ADDR % 32 = w % 32 then s.set F.MEM_MT_FAIL_SPARES (n - 1) else s

/-- The window is copied back: its code words are written as they stand (R388). -/
def State.returnWindow (s : State) : State :=
  let k := s.eccKey
  if s.on F.TST_ECC_CTRL_ARM && k % 2 = 0 && s.borrowed (k / 2) then s.storeWord k (s.wordMask k) (s.poisoned k) else s

/-- MT_RETURN_DONE (R387, R389). -/
def execMtReturnDone (s : State) : Result :=
  .next (if s.get F.MEM_STATUS_MT_STATE = mtReturn then
           let s := s.returnWindow
           let s := if s.on F.MEM_CTRL_MT_REPAIR then s.mem.mtFails.eraseDups.foldl (fun s w => s.repairRow w) s else s
           let s := { s with mem := { s.mem with mtFails := [] } }
           (s.nextWindow.set F.MEM_STATUS_MT_STATE mtIdle).mtReview
         else s)

/-- SCRUB (R390): the words [first, first + count) are read and corrected; a borrowed window and a group in retention are
skipped, and it pauses with the test. DESIGN CHOICE (assumption 4): `upsets` are the errors of SRAM words (masks by word) that have come
about since the last row, and `beats` the beats of the internal bus in which the scrub finds wrong bits (R384), for which the table has no
row. -/
def execScrub (first count : Nat) (s : State) (upsets beats : List (Nat × Nat) := []) : Result :=
  .next (if s.mainUp && s.on F.MEM_CTRL_SCRUB_EN && s.mtMay then
           let s := upsets.foldl (fun (s : State) p => s.setWord (sramKey p.1) (s.wordMask (sramKey p.1) ^^^ p.2) (s.poisoned (sramKey p.1))) s
           let s := beats.foldl (fun (s : State) p => s.countWord p.1 2 (verdict p.1 p.2 p.2)) s
           s.mem.errs.foldl (fun (s : State) p =>
             let w := p.1 / 2
             if p.1 % 2 = 0 && decide (first ≤ w) && decide (w < first + count) && !s.borrowed w && !s.windowRetained (w / 256)
             then (s.readWord p.1).2 else s) s
         else s)

/-- RETENTION_ENTER (R383): a pool group all free for RET_IDLE, with enough free cells in the other awake groups. -/
def execRetentionEnter (g : Nat) (s : State) : Result :=
  .next (let others := (List.range 8).foldl (fun a h => if h ≠ g && s.groupAwake h then a + s.groupFree h else a) 0
         if s.mainUp && s.on F.MEM_CTRL_RET_EN && decide (g < 8) && s.groupAwake g && decide (s.groupFree g = 4096)
             && decide (s.eff F.MEM_RET_CFG_WAKE_LOW ≤ others)
         then s.set F.MEM_STATUS_RET (s.get F.MEM_STATUS_RET ||| 2 ^ g) else s)

/-- GROUP_WAKE_DONE (R383): where the free cells of the awake groups are still below WAKE_LOW, the next group wakes. -/
def execGroupWakeDone (g : Nat) (s : State) : Result :=
  .next (let w := s.get F.MEM_STATUS_WAKING
         if w.testBit g then (s.set F.MEM_STATUS_WAKING (w - 2 ^ g)).wakeGroups else s)

end Sys2Proof.Machine
end

