-- ==== Sys2Proof/Machine/Monitors.lean ====
section
/-!
DEFINITION. Meanings of the monitor rows: detections, unions, self-test, thermal levels and governor (R287 to R305).
-/
namespace Sys2Proof.Machine

/-- CELL_DETECTION (R233, R288): VBAT below 1.0 V counts while VSTBY is present. -/
def execCellDetection (us : Nat) (s : State) : Result := .next (if s.on F.AT_STAT_SRC then s.tellUs us else s.detect 2 us)

/-- ENCL_SAMPLE (R287). -/
def execEnclSample (high : Bool) (us : Nat) (s : State) : Result := .next (if high then s.detect 0 us else s.tellUs us)

/-- MESH_SAMPLE (R287). -/
def execMeshSample (differs : Bool) (us : Nat) (s : State) : Result := .next (if differs then s.detect 1 us else s.tellUs us)

/-- AOSC_DETECTION (R288). -/
def execAoscDetection (us : Nat) (s : State) : Result := .next (s.detect 4 us)

/-- RC_RUN_CLEAR (R288). -/
def execRcRunClear (s : State) : Result := .next (s.lower F.MON_AT_STAT_RC_RUN)

/-- VGLT_DETECTION (R287). -/
def execVgltDetection (us : Nat) (s : State) : Result := .next (s.detect 5 us)

/-- JTEMP_SAMPLE (R298): the readings of the four junction sensors. -/
def execJtempSample (readings : List Int) (us : Nat) (s : State) : Result := .next (s.thermal readings us)

/-- SOURCE_INACTIVE (R289). -/
def execSourceInactive (k : Nat) (s : State) : Result := .next (if k < 8 then s.setActive k false else s)

/-- UNION_CLOSE (R291, R292, R293). -/
def execUnionClose (s : State) : Result := .next (if s.pwr.aonUp then s.closeUnion else s)

/-- MATRIX_LOG_WAIT_END (R293): of the response that has waited longest. -/
def execMatrixLogWaitEnd (s : State) : Result := .next s.endWait

/-- UNLOCK_WINDOW_EXPIRY (R296). -/
def execUnlockWindowExpiry (s : State) : Result := .next (s.lower F.MON_STATUS_UNLOCKED)

/-- UNLOCK_HOLDOFF_END (R296). -/
def execUnlockHoldoffEnd (s : State) : Result := .next { s with mon := { s.mon with holdoff := false } }

/-- SELFTEST_WINDOW_END (R297): `hit` is whether the sensor saw the stimulus within the window, `cond` whether the extra sample
after it finds the condition. -/
def execSelftestWindowEnd (k : Nat) (hit cond : Bool) (us : Nat) (s : State) : Result := .next (s.selftestEnd k hit cond us)

/-- GOV_EVALUATION (R299): the readings of the three current sensors in 10 mW, without the VDD_IO allowance. -/
def execGovEvaluation (readings : List Nat) (us : Nat) (s : State) : Result := .next ((s.tellUs us).govEval readings)

/-- GOV_BUCKET_ADVANCE (R299). -/
def execGovBucketAdvance (s : State) : Result :=
  .next (let s := { s with mon := { s.mon with buckets := 0 :: s.mon.buckets.take 59 } }
         if s.mainUp then s.govUsed else s)

/-- GOV_SHED_STEP (R298, R300). -/
def execGovShedStep (s : State) : Result := .next s.govShed

/-- GOV_RESTORE_STEP (R301). -/
def execGovRestoreStep (s : State) : Result := .next s.govRestore

/-- MON_SELFTEST (R297): the command completes when the window ends. -/
def execMonSelftest (c : Cmd) (s : State) : Result :=
  .next (c.run s ⟨true, false⟩ (c.reservedOk 0xFF 0 0 false) (fun s =>
    let k := c.a.toNat
    let st := s.selftestStatus k
    if st ≠ stOk then c.done s st else s.selftestStart k c))

/-- MON_RAISE (R295). -/
def execMonRaise (c : Cmd) (s : State) : Result :=
  .next (c.run s ⟨true, false⟩ (c.reservedOk 0x7F 0 0 false && decide (c.a.toNat ≠ 0)) (fun s =>
    c.done ((s.joinUnion 12 c.a.toNat).raise F.MON_EVT_RAISED) stOk))

end Sys2Proof.Machine
end

