-- ==== Sys2Proof/Machine/Power.lean ====
section
/-!
DEFINITION. Meanings of the supervisor rows: cascade, sequencer states, rails, push-button, resets and the SQ commands
(R33, R262 to R284).
-/
namespace Sys2Proof.Machine

/-- The standby domain runs. -/
def State.stbyUp (s : State) : Bool := decide (s.pwr.stby = .up)

/-- VSTBY_RISE (R29): the oscillator starts and the standby power-on reset is held. -/
def execVstbyRise (s : State) : Result :=
  .next (if s.pwr.stby = .off then { s with pwr := { s.pwr with stby := .held } } else s)

/-- STANDBY_POR (R33). -/
def execStandbyPor (s : State) : Result := .next (if s.pwr.stby = .off then s else s.stbyReset)

/-- COLLAPSED_END (R273): auto-on is an on request. -/
def execCollapsedEnd (s : State) : Result :=
  .next (if s.stbyUp && s.seq = sqCollapsed then
           let s := (s.set F.SQ_STATUS_SEQ sqOff).keptOn
           if s.on F.SQ_CTRL_AUTO_ON then s.onRequest false else s
         else s)

/-! ### Cascade (R268, R269) -/

/-- SEQ_CI_LOW_DETECT (R268). -/
def execSeqCiLowDetect (s : State) : Result :=
  .next (if s.stbyUp && !s.sq.learned && !s.on F.SQ_STATUS_CASC_ERR then s.learnPos 0 else s)

/-- CASCADE_TRAIN_SEND (R268). -/
def execCascadeTrainSend (s : State) : Result :=
  .next (if s.stbyUp && s.sq.learned then s.emit (.casTrain (s.get F.SQ_STATUS_POS + 1)) else s)

/-- CASCADE_TRAIN_END (R268): two consecutive trains of `pulses` pulses give the position. -/
def execCascadeTrainEnd (pulses : Nat) (s : State) : Result :=
  .next (if !s.stbyUp || s.sq.learned || s.on F.SQ_STATUS_CASC_ERR || pulses = 0 then s
         else if 15 ≤ pulses then s.cascadeError
         else match s.sq.lastTrain with
           | none => { s with sq := { s.sq with lastTrain := some pulses } }
           | some p => if p = pulses then s.learnPos pulses else s.cascadeError)

/-- SQ_COMMAND_PULSE (R269). -/
def execSqCommandPulse (s : State) : Result := .next (if s.stbyUp then s.commandPulse else s)

/-- SQ_STATE_END (R269): `low` is the gap sample. -/
def execSqStateEnd (low : Bool) (s : State) : Result := .next (if s.stbyUp then s.stateEnd low else s)

/-- OFFMIN_END (R273). -/
def execOffminEnd (s : State) : Result := .next (if s.stbyUp then s.offminEnd else s)

/-- RETRY_CLEAR (R275). -/
def execRetryClear (s : State) : Result := .next (if s.seq = sqRun then s.set F.SQ_STATUS_RETRY 0 else s)

/-! ### Rails (R264) -/

/-- RAIL_GOOD (R264). -/
def execRailGood (n : Nat) (s : State) : Result :=
  .next (let s := s.vsnAct n
         if s.railUsed n && s.railSt n = railRamp then (s.railMove n railGood).runOnQ else s)

/-- RAIL_PGTO_TIMEOUT (R264). -/
def execRailPgtoTimeout (n : Nat) (s : State) : Result :=
  .next (let s := s.vsnAct n
         if s.sensed n && s.railSt n = railRamp then s.railFail n causeTimeout else s)

/-- A rail that the power-up state in progress wants on and that was still on its way down is enabled (R270). -/
def State.upAgain (s : State) (n : Nat) : State :=
  if s.seq = sqUp && !s.sq.failC && s.railUsed n && s.onG n = s.gstate && !s.on F.SQ_RAIL_ST_HELD n && s.railSt n = railOffSt
  then s.railEnable n else s

/-- A rail in FALLING has reached OFF; what waited for it goes on. -/
def State.railReachesOff (s : State) (n : Nat) : State := ((s.railMove n railOffSt).runOffQ.runOnQ).upAgain n

/-- GOOD_COMPARATOR_CHANGE (R262, R264): the outputs of channel n's comparators are now `good` and `off`, shown whether the rail is sensed
or not. A change of the good one is a transition in RAMP; in GOOD the return from a low of at most t_PGDROP is a glitch. In FALLING a
low off comparator is OFF. -/
def execGoodComparatorChange (n : Nat) (good : Bool) (s : State) (off : Bool := good) : Result :=
  .next (if !s.stbyUp || s.fuses.variant.rails ≤ n then s
         else
           let s := if s.sensed n then s.vsnAct n else s
           let was := s.on F.SQ_RAIL_ST_GOOD_CMP n
           let s := (s.put F.SQ_RAIL_ST_GOOD_CMP good n).put F.SQ_RAIL_ST_OFF_CMP off n
           if !s.sensed n then s
           else if s.railSt n = railRamp && was ≠ good then
             let seen := s.get F.SQ_RAIL_ST_CHAT n + 1
             let s := s.bump F.SQ_RAIL_ST_CHAT n
             if s.eff F.SQ_TIME1_CHAT_MAX < seen then s.railFail n causeChatter else s
           else if s.railSt n = railGood && good && !was then s.bump F.SQ_RAIL_ST_GLITCH n
           else if s.railSt n = railFalling && !off then s.railReachesOff n
           else s)

/-- RAIL_DROP (R264). -/
def execRailDrop (n : Nat) (s : State) : Result :=
  .next (if s.sensed n && s.railSt n = railGood then s.railFail n causeDrop else s)

/-- RAIL_OFF (R262, R264): the off comparator goes low, or t_PGSTAB has passed since the release of a NOSENSE rail. -/
def execRailOff (n : Nat) (s : State) : Result :=
  .next (let s := if s.sensed n then s.lower F.SQ_RAIL_ST_OFF_CMP n else s
         if s.railUsed n && s.railSt n = railFalling then s.railReachesOff n else s)

/-- RAIL_OFF_TIMEOUT (R264): CAUSE is OFF_TO where no failure cause is held. -/
def execRailOffTimeout (n : Nat) (s : State) : Result :=
  .next (if s.sensed n && s.railSt n = railFalling then
           let s := if s.get F.SQ_RAIL_ST_CAUSE n = 0 then s.set F.SQ_RAIL_ST_CAUSE causeOffTo n else s
           (s.raise F.SQ_EVT_OFF_TO).railReachesOff n
         else s)

/-! ### Resets (R33, R279, R280) -/

/-- MAIN_RESET (R34). -/
def execMainReset (s : State) : Result := .next (if s.stbyUp then s.mainReset false else s)

/-- MANUAL_RESET (R280). -/
def execManualReset (s : State) : Result :=
  .next (if !s.stbyUp then s
         else
           let s := s.raise F.SQ_EVT_MR
           let s := if s.coreGood then s.mainReset false else s
           { s with pwr := { s.pwr with mrHeld := true, rstOut := true } })

/-- MR_N_RISE (R279, R280): t_RST runs from here, so RST_OUT_N is low after a shorter low too. -/
def execMrNRise (s : State) : Result :=
  .next { s with pwr := { s.pwr with mrHeld := false, rstOut := true } }

/-- RST_OUT_RELEASE (R279). -/
def execRstOutRelease (s : State) : Result :=
  .next (if s.stbyUp && s.seq = sqRun && !s.pwr.mrHeld then { s with pwr := { s.pwr with rstOut := false } } else s)

/-! ### Push-button (R281, R282) -/

/-- PWRBTN_PRESS (R281). -/
def execPwrbtnPress (s : State) : Result :=
  .next (if !s.stbyUp then s
         else
           let s := { s with sq := { s.sq with btn := true, btnLong := false } }
           let q := s.seq
           if q = sqOff || q = sqDown || q = sqOffmin then s.onRequest true
           else if q = sqFaultOff then s.clearFault.onRequest true
           else s)

/-- PWRBTN_RELEASE (R281, R282): a release before t_LONG. -/
def execPwrbtnRelease (s : State) : Result :=
  .next (if !s.stbyUp || !s.sq.btn then s
         else
           let early := !s.sq.btnLong
           let s := { s with sq := { s.sq with btn := false, btnLong := false } }
           if early && s.seq = sqRun then
             (if s.on F.SQ_CTRL_BTN_OFF then s.shortPress else s.raise F.SQ_EVT_BTN_SHORT)
           else s)

/-- BTN_LONG (R281). -/
def execBtnLong (s : State) : Result :=
  .next (if !s.stbyUp || !s.sq.btn || s.sq.btnLong then s
         else
           let s := { s with sq := { s.sq with btnLong := true } }
           if s.seq = sqUp || s.seq = sqRun then
             let s := s.raise F.SQ_EVT_BTN_LONG
             if s.on F.SQ_CTRL_BTN_OFF then s.offRequest false else s
           else s)

/-- ACK_TIMEOUT (R282): the timer has run out, so it no longer runs. -/
def execAckTimeout (s : State) : Result :=
  .next (if s.on F.SQ_STATUS_ACK_RUN then
           ((s.lower F.SQ_STATUS_ACK_RUN).raise F.SQ_EVT_ACK_TIMEOUT).offRequest false
         else s)

/-! ### Commands (R284) -/

/-- SQ_POWER_ON: an on request in every state (R274); in FAULT_OFF it is refused. -/
def execSqPowerOn (c : Cmd) (s : State) : Result :=
  .next (c.run s ⟨true, false⟩ (c.reservedOk 0 0 0 false) (fun s =>
    let bad := s.seq = sqFaultOff || s.seq = sqCollapsed || !s.sq.progOk
    (c.done s (if bad then stNotReady else stOk)).onRequest false))

/-- SQ_POWER_OFF. -/
def execSqPowerOff (c : Cmd) (s : State) : Result :=
  .next (c.run s ⟨true, false⟩ (c.reservedOk 0 0 0 false) (fun s => (c.done s stOk).offRequest false))

/-- SQ_BTN_ACK (R282). -/
def execSqBtnAck (c : Cmd) (s : State) : Result :=
  .next (c.run s ⟨true, false⟩ (c.reservedOk 0 0 0 false) (fun s =>
    if s.on F.SQ_STATUS_ACK_RUN then c.done ((s.lower F.SQ_STATUS_ACK_RUN).raise F.SQ_STATUS_ACKED) stOk
    else c.done s stNotReady))

/-- SQ_CLEAR_FAULT. -/
def execSqClearFault (c : Cmd) (s : State) : Result :=
  .next (c.run s ⟨true, false⟩ (c.reservedOk 0 0 0 false) (fun s =>
    if s.seq = sqFaultOff then c.done s.clearFault stOk else c.done s stNotReady))

/-- Insert a channel in ascending global on step, ties in ascending channel order. -/
def State.ascending (s : State) (l : List Nat) : List Nat :=
  let ins (n : Nat) (acc : List Nat) : List Nat :=
    let before := acc.takeWhile (fun m => decide (s.onG m < s.onG n) || (decide (s.onG m = s.onG n) && decide (m < n)))
    before ++ n :: acc.drop before.length
  l.foldl (fun acc n => ins n acc) []

/-- SQ_RAIL_ON (R276): the rail, then its held dependants in ascending on step. -/
def execSqRailOn (c : Cmd) (s : State) : Result :=
  .next (c.run s ⟨true, false⟩ (c.reservedOk 0x1F 0 0 false) (fun s =>
    let n := c.a.toNat
    if 24 ≤ n || !s.railUsed n || !s.on F.SQ_RAIL_CFG_CLASS n || !s.on F.SQ_RAIL_ST_HELD n then c.done s stBadParam
    else if s.seq ≠ sqRun then c.done s stNotReady
    else
      let deps := s.railsUsed.filter (fun k => decide (k ≠ n) && (s.get F.SQ_RAIL_DEP_DEP n).testBit k && s.on F.SQ_RAIL_ST_HELD k)
      let s := { s with sq := { s.sq with onQ := s.sq.onQ ++ [n :: s.ascending deps] } }
      c.done s.runOnQ stOk))

end Sys2Proof.Machine
end

