-- ==== Sys2Proof/Machine/Ptp.lean ====
section
/-!
DEFINITION. Meanings of the PTP rows: messages received and terminated, messages that fall due (R153 to R162).
-/
namespace Sys2Proof.Machine

/-! ### What is terminated (R153, R154, R161, R162) -/

/-- The role of port `n` consumes messages of type `t`. -/
def State.consumes (s : State) (n t : Nat) : Bool :=
  let peer := s.p2p n && (t = 2 || t = 3 || t = 0xA)
  match s.role n with
  | 1 => t = 0xB || t = 0 || t = 8 || peer || (!s.p2p n && t = 9)
  | 2 => peer || (!s.p2p n && t = 1)
  | _ => false

/-- Octets of a message of type `t` before its TLVs (R161). -/
def ptpMinLen (t : Nat) : Nat := if t = 0xB then 64 else if t = 0 || t = 1 || t = 8 then 44 else 54

/-- The TLVs from offset `o`: none where one runs past the message or the AUTHENTICATION TLV is not the last; else the offset of
that TLV, if there is one. -/
def walkTlvs (m : Bytes) : Nat → Nat → Option (Option Nat)
  | 0, _ => some none
  | fuel + 1, o =>
    if m.length ≤ o then some none
    else if m.length < o + 4 then none
    else
      let next := o + 4 + beAt m (o + 2) 2
      if m.length < next then none
      else if beAt m o 2 = 0x8009 then (if next = m.length then some (some o) else none)
      else walkTlvs m fuel next

/-- Where the AUTHENTICATION TLV of a well-formed message lies; none for a malformed one (R161). -/
def checkPtp (m : Bytes) : Option (Option Nat) :=
  let n := ptpMinLen (beAt m 0 1 % 16)
  if m.length < n || 999999999 < beAt m 40 4 then none else walkTlvs m m.length n

/-- The AUTHENTICATION TLV at offset `o` is right (R162). -/
def State.authOk (s : State) (m : Bytes) (o : Nat) : Bool :=
  !s.slotEmpty && decide (beAt m (o + 2) 2 = 22) && decide (beAt m (o + 4) 1 = s.get F.PTP_AUTH_SPP) && decide (beAt m (o + 5) 1 = 0)
    && decide (beAt m (o + 6) 4 = s.get F.AT_KEY_KEYID (s.get F.PTP_AUTH_SLOT))
    && decide (sub m (o + 10) 16 = icv s.authKey (m.take (o + 10)))

/-- The message passes the verification mode (R162); 3 acts as 2. -/
def State.authPass (s : State) (m : Bytes) (tlv : Option Nat) : Bool :=
  match s.get F.PTP_AUTH_MODE, tlv with
  | 0, _ => true
  | 1, none => true
  | _, none => false
  | _, some o => s.authOk m o

/-! ### Measurements of a slave port (R157, R158, R160) -/

/-- A message without a match (R158). -/
def State.unmatched (s : State) (n : Nat) : State := s.bump F.PTP_CNT_UNMATCHED_UNMATCHED n

/-- For how long an MPD serves, in taps: four intervals of the delay exchange (R155, R157). -/
def State.mpdLife (s : State) (n : Nat) : Nat :=
  let l := if s.p2p n then s.logInt F.PTP_PINT_LOG_PDREQ n else max (s.logInt F.PTP_PINT_LOG_DREQ n) (s.ptp n).logResp
  if 0 ≤ l then 1600000000000 * 2 ^ l.toNat else 1600000000000 / 2 ^ (-l).toNat

/-- PTP_PASYM in 2^-16 ns. -/
def State.pasym (s : State) (n : Nat) : Int := roundEven (s.int F.PTP_PASYM_ASYM n * 65536) 1000

/-- A Sync is matched: `t1` its origin, `t2` its arrival, `cs` the sum of correctionFields (R157). -/
def State.syncMatched (s : State) (n : Nat) (t1 cs : Int) (t2 : Raw) : State :=
  let ds := s.zt t2 - (t1 + cs)
  let s := s.modPtp n (fun x => { x with ds := some (t2, t1 + cs) })
  match (s.ptp n).mpd with
  | none => s
  | some (m2, at') =>
    if t2 < at' || at' + s.mpdLife n < t2 || (s.gptp && !s.on F.PTP_PSTAT_AS_CAPABLE n) then s
    else
      let e := (2 * (ds - s.pasym n) - m2) / 2
      let unc := s.get F.PTP_PUNC_UNC n
      (s.postMeas n 1 e m2 (s.int F.PTP_PASYM_ASYM n) unc).deliver n 2 e unc false

/-- A delay exchange completes with twice its MPD at raw time `at'`; PTP_MLD shows it (R157). -/
def State.setMpd (s : State) (n : Nat) (m2 : Int) (at' : Raw) : State :=
  (s.setInt F.PTP_MLD_MLD (roundEven (m2 * 1000) 131072) n).modPtp n (fun x => { x with mpd := some (m2, at') })

/-- A Sync from another master than before (R158). -/
def State.masterOf (s : State) (n : Nat) (ident : Bytes) : State :=
  let old := (s.ptp n).master
  let s := s.modPtp n (fun x => { x with master := some ident })
  if old = none || old = some ident then s
  else
    let s := (s.raise F.SRV_EVT_MASTER_CHANGE).modPtp n (fun x => { x with mpd := none, ds := none })
    if s.isSourcePort n then s.sourceChanged else s

/-- A Sync (R157, R158). -/
def State.rxSync (s : State) (n : Nat) (m : Bytes) (t2 : Raw) : State :=
  let ident := sub m 20 10
  let s := s.masterOf n ident
  let s := if (s.ptp n).sync.isSome then s.unmatched n else s
  let cf := signed 64 (beAt m 8 8)
  if (beAt m 6 1).testBit 1 then s.modPtp n (fun x => { x with sync := some ⟨beAt m 30 2, ident, t2, cf⟩ })
  else (s.modPtp n (fun x => { x with sync := none })).syncMatched n (ptpTimeAt m 34) cf t2

/-- The Follow_Up information TLV of a Follow_Up (R160): its gmTimeBaseIndicator and lastGmPhaseChange. -/
def followInfo (m : Bytes) : Nat → Nat → Option Bytes
  | 0, _ => none
  | fuel + 1, o =>
    if m.length < o + 4 then none
    else if beAt m o 2 = 3 && beAt m (o + 2) 2 = 28 && beAt m (o + 4) 6 = 0x0080C2000001 then some (sub m (o + 14) 14)
    else followInfo m fuel (o + 4 + beAt m (o + 2) 2)

/-- A Follow_Up. -/
def State.rxFollowUp (s : State) (n : Nat) (m : Bytes) : State :=
  match (s.ptp n).sync with
  | none => s.unmatched n
  | some y =>
    if y.seq ≠ beAt m 30 2 || y.ident ≠ sub m 20 10 then s.unmatched n
    else
      let s := s.modPtp n (fun x => { x with sync := none })
      let s := match (if s.gptp then followInfo m m.length 44 else none) with
        | some b => { s with srv := { s.srv with gmTlv := b } }
        | none => s
      s.syncMatched n (ptpTimeAt m 34) (y.cf + signed 64 (beAt m 8 8)) y.t2

/-- A response names this port and this request (R158). -/
def State.answersTo (s : State) (n : Nat) (m : Bytes) (r : PtpReq) : Bool :=
  decide (r.seq = beAt m 30 2) && decide (sub m 44 10 = s.portIdent n)

/-- A Delay_Resp (R157). T2 and T3 are converted together, so that an exchange begun in COLD and ended after the first step lies on
one scale (R156). -/
def State.rxDelayResp (s : State) (n : Nat) (m : Bytes) (now : Raw) : State :=
  match (s.ptp n).dreq with
  | none => s.unmatched n
  | some r =>
    match (if s.answersTo n m r then r.t3 else none) with
    | none => s.unmatched n
    | some t3 =>
      let s := s.modPtp n (fun x => { x with dreq := none, logResp := signed 8 (beAt m 33 1) })
      match (s.ptp n).ds with
      | none => s
      | some (t2, org) => s.setMpd n (s.zt t2 - org + (ptpTimeAt m 34 - s.zt t3 - signed 64 (beAt m 8 8))) now

/-- neighborRateRatio - 1 over four consecutive pairs of responder and local times, newest first, in 2^-41 (R160). -/
def neighborRate (l : List (Int × Int)) : Option Int :=
  match l with
  | [(r1, l1), _, _, (r0, l0)] => if l0 < l1 then some (roundEven (((r1 - r0) - (l1 - l0)) * 2 ^ 41) (l1 - l0)) else none
  | _ => none

/-- A completed peer-delay exchange moves asCapable (R160). -/
def State.exchangeOk (s : State) (n : Nat) (m2 : Int) : State :=
  let good := decide (m2 ≤ 2 * 65536 * (s.get F.PTP_NPD_THR_NPD_THR : Int))
  let run := if good then min 3 ((s.ptp n).okRun + 1) else 0
  let s := s.modPtp n (fun x => { x with okRun := run, failRun := 0 })
  if !good then s.lower F.PTP_PSTAT_AS_CAPABLE n else if run = 3 then s.raise F.PTP_PSTAT_AS_CAPABLE n else s

/-- A peer-delay exchange ends without completing (R160). -/
def State.exchangeFailed (s : State) (n : Nat) : State :=
  let run := min 3 ((s.ptp n).failRun + 1)
  let s := s.modPtp n (fun x => { x with okRun := 0, failRun := run, pairs := [] })
  if run = 3 then s.lower F.PTP_PSTAT_AS_CAPABLE n else s

/-- A peer-delay exchange completes (R157, R160): `p1` and `p4` local, `p2` and `p3` of the responder, `cp` the corrections. -/
def State.peerDone (s : State) (n : Nat) (p1 p4 : Raw) (p2 p3 cp : Int) (pair : Bool) (now : Raw) : State :=
  let s := s.modPtp n (fun x => { x with pdreq := none, pairs := if pair then ((p3, p4) :: x.pairs).take 4 else [] })
  let s := match (if s.gptp then neighborRate ((s.ptp n).pairs.map (fun p => (p.1, s.zt p.2))) else none) with
    | some r => s.setInt F.PTP_NRR_NRR r n
    | none => s
  let d := s.zt p4 - s.zt p1
  let d := if s.gptp then d + roundEven (d * s.int F.PTP_NRR_NRR n) (2 ^ 41) else d
  let m2 := d - (p3 - p2) - cp
  let s := s.setMpd n m2 now
  if s.gptp then (s.exchangeOk n m2).srvReview else s

/-- A Pdelay_Resp: complete where it is one-step, else it waits for its follow-up. -/
def State.rxPeerResp (s : State) (n : Nat) (m : Bytes) (now : Raw) : State :=
  match (s.ptp n).pdreq with
  | none => s.unmatched n
  | some r =>
    match (if s.answersTo n m r && r.t4.isNone then r.t3 else none) with
    | none => s.unmatched n
    | some p1 =>
      let cf := signed 64 (beAt m 8 8)
      if (beAt m 6 1).testBit 1 then
        s.modPtp n (fun x => { x with pdreq := some { r with t4 := some now, resp := some (ptpTimeAt m 34, cf) } })
      else s.peerDone n p1 now 0 0 cf false now

/-- A Pdelay_Resp_Follow_Up. -/
def State.rxPeerFollowUp (s : State) (n : Nat) (m : Bytes) (now : Raw) : State :=
  match (s.ptp n).pdreq with
  | none => s.unmatched n
  | some r =>
    match (if s.answersTo n m r then r.t3 else none), r.t4, r.resp with
    | some p1, some p4, some (p2, cf) => s.peerDone n p1 p4 p2 (ptpTimeAt m 34) (cf + signed 64 (beAt m 8 8)) true now
    | _, _, _ => s.unmatched n

/-- An Announce (R163): its clockClass and arrival stand for three intervals, whatever candidates are enabled when it arrives. Of one
class the latest arrival is enough. -/
def State.rxAnnounce (s : State) (n : Nat) (m : Bytes) (now : Raw) : State :=
  let c := beAt m 48 1
  (s.modPtp n (fun x => { x with
    anns := (c, now) :: x.anns.filter (fun a => decide (a.1 ≠ c) && decide (now ≤ a.2 + s.annLife n)) })).srvReview

/-! ### A received message (R153, R161, R162) -/

/-- A message that R153 terminates is used, by its type. -/
def State.usePtp (s : State) (n : Nat) (m : Bytes) (now : Raw) : State :=
  let job (t : Nat) : PtpJob := ⟨t, beAt m 30 2, sub m 20 10, beAt m 8 8, now⟩
  match beAt m 0 1 % 16 with
  | 0 => s.rxSync n m now
  | 1 => s.request n (job 1)
  | 2 => s.request n (job 2)
  | 3 => s.rxPeerResp n m now
  | 8 => s.rxFollowUp n m
  | 9 => s.rxDelayResp n m now
  | 10 => s.rxPeerFollowUp n m now
  | 11 => s.rxAnnounce n m now
  | _ => s

/-- A malformed message is dropped, counted and posted, and is partner violation V5 (R149, R161). -/
def State.malformedPtp (s : State) (n : Nat) (m : Bytes) : State :=
  let s := (s.bump F.PTP_CNT_MALFORMED_MALFORMED n).postMain (s.get F.HIF_EVMAP_SRV) 0x07 0 n
    ([BitVec.ofNat 8 (beAt m 0 1 % 16), 0#8] ++ le 2 (beAt m 30 2))
  s.violation n 5 0

/-- The termination assist takes a frame from the line (R153). -/
def State.terminate (s : State) (n : Nat) (d : Bytes) (now : Raw) : State :=
  let c := s.parseCfg n
  let p := parseFrame c d
  let m := sub d p.ptpOff (p.msgLen d)
  let t := p.msgType d
  if 1 < frameClass c d || p.encap ≠ some .ethernet || beAt d (p.ptpOff + 4) 1 ≠ s.get F.PTP_CTRL_DOMAIN
      || beAt d p.ptpOff 1 / 16 ≠ s.majorSdo || beAt d (p.ptpOff + 5) 1 ≠ s.get F.PTP_CTRL_MINOR_SDO || !s.consumes n t then s
  else match checkPtp m with
    | none => s.malformedPtp n (sub d p.ptpOff 34)
    | some tlv =>
      if s.authPass m tlv then (s.bump F.PTP_CNT_RX_TERM_RX_TERM n).usePtp n m now
      else s.bump F.PTP_CNT_AUTH_FAIL_AUTH_FAIL n

/-- PTP_MESSAGE_RX (R153): a frame as it arrived at the line ball. A damaged frame carries no message (R74). -/
def execPtpMessageRx (n : Nat) (f : RxFrame) (s : State) : Result :=
  .next (if s.mainUp && s.bonded n && s.spxLive n && !s.damaged n .line f && fcsOk f.data then
           let now := s.rxStamp n .line f.stamp
           (s.reach now).terminate n f.data now
         else s)

/-! ### Messages that fall due (R155) -/

/-- The role of port `n` originates messages of type `t` at an interval (R154). -/
def State.originates (s : State) (n t : Nat) : Bool :=
  match s.role n with
  | 1 => if s.p2p n then t = 2 else t = 1
  | 2 => t = 0 || t = 0xB || (s.p2p n && t = 2)
  | _ => false

/-- A message of the same type still deferred when its successor falls due is replaced: counted, with its cells freed. -/
def State.replaceDeferred (s : State) (n t : Nat) : State :=
  let e := s.egress n .line
  let mine (f : PFrame) : Bool := match f.src with
    | .ptp k _ _ => decide (k = t)
    | _ => false
  if e.backlog ≤ s.get F.STR_INJ_INJ_HOLD n then s
  else
    let gone := e.orig.filter mine
    let s := s.modEgress n .line (fun e => { e with orig := e.orig.filter (fun f => !mine f) })
    gone.foldl (fun s f => (s.freeFrame n f).bump F.PTP_CNT_TX_NOCELL_TX_NOCELL n) s

/-- Sync `q` falls due: one-step with ORIGIN, two-step with CAPTURE and a Follow_Up; none in COLD. -/
def State.dueSync (s : State) (n q : Nat) : State :=
  if s.tbState = tbCold then s
  else
    let one := s.oneStep n
    let m := s.ptpMsg n 0 q (if one then 0 else flagTwoStep) 0 (s.logInt F.PTP_PINT_LOG_SYNC n) (be 10 0)
    (s.sendPtp n 0 m (if one then 1 else 0) (!one) (.ptp 0 q (!one))).2

/-- Announce `q` falls due; none in COLD nor before a template is loaded. -/
def State.dueAnnounce (s : State) (n q : Nat) : State :=
  if s.tbState = tbCold || s.srv.tmpl.isEmpty then s
  else (s.sendPtp n 0xB (s.announceMsg n q) 0 false (.ptp 0xB q false)).2

/-- Delay_Req `q` falls due. -/
def State.dueDelayReq (s : State) (n q : Nat) : State :=
  let r := s.sendPtp n 1 (s.ptpMsg n 1 q 0 0 127 (be 10 0)) 0 false (.ptp 1 q false)
  r.2.modPtp n (fun x => { x with dreq := if r.1 then some ⟨q, none, none, none⟩ else none })

/-- Pdelay_Req `q` falls due: an exchange still open has failed. -/
def State.duePeerReq (s : State) (n q : Nat) : State :=
  let s := if (s.ptp n).pdreq.isSome && s.gptp then (s.exchangeFailed n).srvReview else s
  let r := s.sendPtp n 2 (s.ptpMsg n 2 q 0 0 127 (be 20 0)) 0 false (.ptp 2 q false)
  r.2.modPtp n (fun x => { x with pdreq := if r.1 then some ⟨q, none, none, none⟩ else none })

/-- PTP_MESSAGE_DUE (R155): an interval elapses; sequenceId advances even where the message is not sent. -/
def execPtpMessageDue (n msgType : Nat) (s : State) : Result :=
  .next (if !s.mainUp || !s.bonded n || !s.originates n msgType then s
         else
           let s := s.replaceDeferred n msgType
           let x := s.ptp n
           let up (q : Nat) : Nat := (q + 1) % 65536
           match msgType with
           | 0 => (s.modPtp n (fun x => { x with seqSync := up x.seqSync })).dueSync n x.seqSync
           | 1 => (s.modPtp n (fun x => { x with seqDreq := up x.seqDreq })).dueDelayReq n x.seqDreq
           | 2 => (s.modPtp n (fun x => { x with seqPdreq := up x.seqPdreq })).duePeerReq n x.seqPdreq
           | 11 => (s.modPtp n (fun x => { x with seqAnn := up x.seqAnn })).dueAnnounce n x.seqAnn
           | _ => s)

end Sys2Proof.Machine
end

