-- ==== Sys2Proof/Machine/Recorder.lean ====
section
/-!
DEFINITION. The event recorder's rows: record writes and their media failures, periods and credits, samples, compaction, and the
REC commands (R307 to R325).
-/
namespace Sys2Proof.Machine

/-! ### Slots (R317, R319) -/

/-- SEQ of a record image. -/
def recSeqOf (b : Bytes) : Nat := leAt b 8 4

/-- The record of a slot; empty where none is committed. -/
def State.slot (s : State) (k : Nat) : Bytes := Store.get [] s.recd.slots k

/-- A sector is marked bad. -/
def State.sectorBad (s : State) (sec : Nat) : Bool := s.recd.mapBits.testBit sec

/-- The next slot of the preserved area: after its newest record, in a good sector; none when the area is full. -/
def State.nextPreserved (s : State) : Option Nat :=
  let k := s.recd.slots.foldl (fun k p => if p.1 < 1024 then max k (p.1 + 1) else k) 0
  (List.range 1024).find? (fun i => decide (k ≤ i) && !s.sectorBad (i / 4))

/-- The first slot of the next good sector after that of slot `k`, within the area; the circulating area wraps. -/
def State.nextSector (s : State) (k : Nat) : Option Nat :=
  let sec := k / 4
  if sec < 256 then ((List.range 256).find? (fun i => decide (sec < i) && !s.sectorBad i)).map (4 * ·)
  else ((List.range 512).find? (fun i => !s.sectorBad (256 + (sec - 256 + 1 + i) % 512))).map
    (fun i => 4 * (256 + (sec - 256 + 1 + i) % 512))

/-- The slot that REC_HEAD names, moved on from a bad sector. -/
def State.headSlot (s : State) : Nat :=
  let k := 1024 + 4 * s.get F.REC_HEAD_SECT + s.get F.REC_HEAD_SLOT
  if s.sectorBad (k / 4) then (s.nextSector k).getD k else k

/-- Set REC_HEAD to a circulating slot. -/
def State.setHead (s : State) (k : Nat) : State := (s.set F.REC_HEAD_SECT (k / 4 - 256)).set F.REC_HEAD_SLOT (k % 4)

/-- The slot after a circulating slot, skipping bad sectors. -/
def State.afterSlot (s : State) (k : Nat) : Nat :=
  if k % 4 < 3 && !s.sectorBad (k / 4) then k + 1 else (s.nextSector k).getD (if k + 1 < 3072 then k + 1 else 1024)

/-- The write head passes from circulating slot `k` to slot `j`: the records of the bad sectors between them can be read no more
(R320). -/
def State.passBad (s : State) (k j : Nat) : State :=
  let dist (i : Nat) : Nat := (i / 4 - 256 + 768 - k / 4) % 512
  let d := dist j
  { s with recd := { s.recd with
      slots := s.recd.slots.filter (fun p => decide (p.1 < 1024) || dist p.1 = 0 || decide (d ≤ dist p.1)) } }

/-- REC_HEAD moves on from a bad sector; one of which it names the first slot is passed by that. -/
def State.headReview (s : State) : State :=
  let k := 1024 + 4 * s.get F.REC_HEAD_SECT + s.get F.REC_HEAD_SLOT
  let j := s.headSlot
  if j = k then s
  else (s.passBad (if 0 < k % 4 then k else if k = 1024 then 3071 else k - 1) j).setHead j

/-- The slot that the next record write takes. -/
def State.writeSlot (s : State) : Nat :=
  if s.on F.REC_STATUS_PRES_FULL then s.headSlot else (s.nextPreserved).getD s.headSlot

/-- Records held by each area, and PRES_FULL, after a commitment or at start-up. -/
def State.recCounts (s : State) : State :=
  let pres := (s.recd.slots.filter (fun p => decide (p.1 < 1024))).length
  let s := (s.set F.REC_PRES_COUNT pres).set F.REC_HEAD_COUNT (s.recd.slots.length - pres)
  if s.nextPreserved.isNone then s.raise F.REC_STATUS_PRES_FULL else s

/-- Numbers of bad sectors. -/
def State.badCounts (s : State) : State :=
  let count (lo n : Nat) : Nat := ((List.range n).filter (fun i => s.sectorBad (lo + i))).length
  (s.set F.REC_BAD_CIRC (count 256 512)).set F.REC_BAD_PRES (count 0 256)

/-! ### Media failures (R320, R321) -/

/-- More than 128 bad circulating sectors: read-only (R321). `quiet` at start-up, where no failure occurs. -/
def State.recReview (s : State) : State :=
  if 128 < s.get F.REC_BAD_CIRC && !s.on F.REC_STATUS_RO_MODE then
    let s := (s.raise F.REC_STATUS_RO_MODE).raise F.REC_EVT_REC_FAIL
    s.postMain (s.get F.REC_CTRL_EV_RING) 0x14 0 0 (le 2 (s.get F.REC_BAD_CIRC))
  else s

/-- Write the older map copy with generation + 1; the other copy stands where that fails. -/
def State.writeMap (s : State) (ok : Bool) : State :=
  if !ok then (s.raise F.REC_STATUS_MAP_ERR).raise F.REC_EVT_MAP_ERR
  else
    let g (k : Nat) : Nat := (Store.get ⟨0, 0⟩ s.recd.maps k).gen
    let older := if g 0 ≤ g 1 then 0 else 1
    let gen := max (g 0) (g 1) + 1
    let s := s.nvClear (sectorWord (mapSector older)) 256
    { s with recd := { s.recd with maps := Store.set ⟨0, 0⟩ s.recd.maps older ⟨gen, s.recd.mapBits⟩ } }.set F.REC_MAPGEN_MAPGEN gen

/-- A media failure in a sector: 0 program, 1 verify, 2 read. -/
def State.mediaFail (s : State) (sec cause : Nat) (mapOk : Bool) : State :=
  let s := { s with recd := { s.recd with mapBits := s.recd.mapBits ||| 2 ^ sec } }
  let s := ((s.writeMap mapOk).raise F.AT_RETAIN_LOGFAIL).raise F.REC_EVT_LOG_MEDIA
  let s := s.recTrigger trLogMedia (sec + 1024 * cause)
  let s := s.postMain (s.get F.REC_CTRL_EV_RING) 0x13 0 0 (le 2 sec ++ [BitVec.ofNat 8 cause])
  (s.badCounts.headReview).recReview

/-! ### Record writes (R312 to R314, R318) -/

/-- Step 1 of a record write (R318): the slot's first word is zeros, so the record that it held is lost; its words are programmed anew. -/
def State.openSlot (s : State) (k n : Nat) : State :=
  let s := s.nvClear (recordWord k) 64
  { s with recd := { s.recd with slots := Store.set [] s.recd.slots k [], writing := some ⟨k, n⟩ } }.recCounts

/-- RECORD_WRITE_START (R313, R314, R318): the head image with a credit; SUPPR is written into it and starts afresh. An image that
cannot be read from the staging queue is discarded and counted as suppressed (R386). -/
def execRecordWriteStart (s : State) : Result :=
  .next (if !s.mainUp || !s.on F.REC_STATUS_READY || s.on F.REC_STATUS_RO_MODE || s.recd.writing.isSome then s
         else match s.recd.queue with
           | [] => s
           | i :: t =>
             if s.get F.REC_CREDIT_CREDIT = 0 then s.raise F.REC_EVT_NO_CREDIT
             else
               let rd := s.readWords (imageKey i) 64
               if rd.1 then { rd.2 with recd := { rd.2.recd with queue := t } }.recSync.recSuppress
               else
               let s := rd.2
               let n := s.get F.REC_SUPPR_PEND_PEND
               let s := (s.set F.REC_CREDIT_CREDIT (s.get F.REC_CREDIT_CREDIT - 1)).set F.REC_SUPPR_PEND_PEND 0
               let s := s.raise F.REC_STATUS_WRITING
               { s with recd := { s.recd with queue := { i with data := putAt i.data 21 (le 2 n) } :: t } }.openSlot s.writeSlot n)

/-- The newest committed circulating record. -/
def State.newestCirc (s : State) : Option Nat :=
  s.recd.slots.foldl (fun (o : Option Nat) p =>
    if p.1 < 1024 then o
    else match o with
      | none => some p.1
      | some k => if recSeqOf (s.slot k) < recSeqOf p.2 then some p.1 else o) none

/-- Slot of a record index (R323): preserved index 0 is the oldest, circulating index 0 the newest. The preserved records stand in rising
slots. -/
def State.indexSlot (s : State) (area i : Nat) : Option Nat :=
  if area = 0 then ((s.recd.slots.filter (fun p => decide (p.1 < 1024))).map Prod.fst)[i]?
  else if 2048 ≤ i then none
  else s.newestCirc.map (fun k => 1024 + (k - 1024 + 2048 - i) % 2048)

/-- The slots that a REC_READ reaches, in index order. -/
def State.readSlots (s : State) (c : Cmd) : List (Option Nat) :=
  (List.range (bits c.a.toNat 16 7)).map (fun i => s.indexSlot (bits c.a.toNat 0 1) (bits c.a.toNat 4 11 + i))

/-- The record of slot `k` as it is read: a slot whose first word is uncorrectable is empty (R318), and what another such word gives is
free, for the spec does not say it. -/
def State.readSlot (s : State) (k : Nat) : Bytes × State :=
  let s := s.nvWords (recordWord k) 64
  (((s.nvIn (recordWord k) 64).filter (fun p => nvVerdict p = 3)).map (fun p => p.1 - recordWord k)).foldl
    (fun (r : Bytes × State) i => if r.1.isEmpty then r else (putAt r.1 (16 * i) (le 16 r.2.free.1), r.2.free.2))
    (if s.nvDead (recordWord k) 1 then [] else s.slot k, s)

/-- The slots of a read one after another. -/
def State.readRecs (s : State) : List (Option Nat) → List Bytes × State
  | [] => ([], s)
  | none :: t =>
    let q := s.readRecs t
    ([] :: q.1, q.2)
  | some k :: t =>
    let r := s.readSlot k
    let q := r.2.readRecs t
    (r.1 :: q.1, q.2)

/-- The transfer and completion of a REC_READ over slots `ks` (R323): an empty slot is zeros; the result counts the records and the empty
slots. -/
def State.deliverRecords (s : State) (c : Cmd) (ks : List (Option Nat)) : State :=
  c.xfer s 0 (fun s =>
    let r := s.readRecs ks
    let recs := r.1
    let s := r.2
    let empty := (recs.filter List.isEmpty).length
    c.deliver s (recs.flatMap (padTo 1024)) stOk (ks.length - empty + 2 ^ 32 * empty))

/-- A REC_READ runs (R323); one that reaches the slot being written waits for its write. -/
def State.readRecords (s : State) (c : Cmd) : State :=
  let ks := s.readSlots c
  match s.recd.writing with
  | some w =>
    if ks.contains (some w.slot) then { s with recd := { s.recd with reads := s.recd.reads ++ [c] } }
    else s.deliverRecords c ks
  | none => s.deliverRecords c ks

/-- A write has ended, or gone on in another slot: the reads that waited for it. -/
def State.waitingReads (s : State) : State :=
  s.recd.reads.foldl (fun (s : State) c => c.resume s (fun s => s.readRecords c)) { s with recd := { s.recd with reads := [] } }

/-- The record is committed (R312, R318): its slot, the head, the counts, the reads that waited; an IMPORT record marks the backup log as
imported (R311), and the response that waits for a MON_UNION record is executed (R293). -/
def State.commitRecord (s : State) (w : RecWrite) (i : Image) (t : List Image) : State :=
  let pres := decide (w.slot < 1024)
  let d := putAt i.data 5 [BitVec.ofNat 8 (leAt i.data 5 1 / 2 * 2 + b2n pres)]
  let s := { s with recd := { s.recd with slots := Store.set [] s.recd.slots w.slot d, torn := Store.set false s.recd.torn w.slot false
                                          queue := t, writing := none } }
  let s := (s.lower F.REC_STATUS_WRITING).recSync
  let s := if pres then s else (s.passBad w.slot (s.afterSlot w.slot)).setHead (s.afterSlot w.slot)
  let s := s.recCounts
  let s := (if i.trig = trImport then s.set F.AT_LOG_PTR_NEW 0 else s).waitingReads
  if i.awaited then s.recordAwaited (leAt i.data 8 4) else s

/-- RECORD_COMMIT (R318, R320): `failed` is none where the last verification passes, else whether a verification (true) or a
program (false) failed; `mapOk` is whether the map copy could be written. A failed write retries the image in the next good
sector of its area. -/
def execRecordCommit (failed : Option Bool) (mapOk : Bool) (s : State) : Result :=
  .next (match s.recd.writing, s.recd.queue with
    | some w, i :: t =>
      match failed with
      | none => s.commitRecord w i t
      | some verify =>
        let s := s.mediaFail (w.slot / 4) (b2n verify) mapOk
        if s.on F.REC_STATUS_RO_MODE then { s.lower F.REC_STATUS_WRITING with recd := { s.recd with writing := none } }.waitingReads
        else
          let k := match s.nextSector w.slot with
            | some k => k
            | none => s.headSlot
          let s := if 1024 ≤ w.slot then s.passBad w.slot k else s
          let s := if 1024 ≤ k then s.setHead k else s
          (s.openSlot k w.supprTaken).waitingReads
    | _, _ => s)

/-! ### Time, samples and periods (R307 to R314) -/

/-- OPSEC_TICK (R307, R309): one operating second; histograms take the second's largest samples, and SPX_MRATE shows the
measurements of the second (R148). -/
def execOpsecTick (s : State) : Result :=
  .next (if !s.mainUp then s
         else
           let s := (s.incr F.REC_OPSEC_OPSEC).recSecond
           s.forPorts s.fuses.variant.ports (fun n s =>
             (s.set F.SPX_MRATE_MRATE (s.spx n).measNow n).modSpx n (fun x => { x with measNow := 0 })))

/-- PERIODIC (R309, R311): the interval ends where its record is staged. -/
def execPeriodic (s : State) : Result :=
  .next (if s.mainUp && s.on F.REC_STATUS_READY then
           let t := s.recStage 1 trPeriodic 0 true s.histBytes
           if t.get F.REC_SEQ_SEQ ≠ s.get F.REC_SEQ_SEQ then t.recInterval else t
         else s)

/-- WRITE_CREDIT_ADD (R314). -/
def execWriteCreditAdd (s : State) : Result :=
  .next (if s.mainUp && decide (s.get F.REC_CREDIT_CREDIT < 2048) then s.incr F.REC_CREDIT_CREDIT else s)

/-- Pool cells in use (R308). -/
def State.cellsUsed (s : State) : Nat :=
  (List.range s.fuses.variant.ports).foldl (fun a n => a + s.get F.STR_POOL_STAT_RESV_USED n + s.get F.STR_POOL_STAT_SHR_USED n) 0

/-- The value that the device reads for a quantity (R308): its own registers and counts where it has one, else the sensor's
reading or the receivers' count `v`. -/
def State.quantityNow (s : State) (q : Nat) (v : Int) : Int :=
  match q with
  | 0 => s.int F.MON_JTEMP_JTEMP
  | 1 => s.int F.AT_TEMP_TEMP
  | 8 => s.get F.MON_GOV_STAT_P
  | 9 => s.get F.MON_GOV_STAT_USED
  | 10 => s.int F.CK_FERR_FERR
  | 11 => (((s.int F.SRV_EST_EST).natAbs * 1000 + 32768) / 65536 : Nat)
  | 12 => s.au
  | 13 => s.tbState
  | 14 => s.get F.SPX_MRATE_MRATE (s.srcPort (s.get F.SRV_STATUS_SEL))
  | 15 => s.cellsUsed
  | 16 | 18 | 19 | 20 | 21 | 22 => ((Store.get 0 s.recd.secCnt q : Nat) : Int)
  | 23 => s.trim
  | 2 | 3 | 4 | 5 | 6 => s.gained (6 + q) v
  | _ => v

/-- QUANTITY_SAMPLE (R308, R309): from start-up step 10; a counting quantity starts its next second. -/
def execQuantitySample (q : Nat) (v : Int) (s : State) : Result :=
  .next (if s.ready && decide (q < 24) then
           let s := s.recSample q (s.quantityNow q v)
           { s with recd := { s.recd with secCnt := Store.set 0 s.recd.secCnt q 0 } }
         else s)

/-! ### Compaction (R322) -/

/-- The committed record of slot `k` is read: `two` lists the slots of code words that needed a two-bit correction, `bad` those
with an uncorrectable word, of which the row does not say which it is, `fails` those whose refresh fails verification, `maps` those whose
media failure meets a failing map write; words that main NVM holds with errors count as they are. In read-only mode nothing is refreshed
(R321). -/
def State.compactOne (s : State) (two bad fails maps : List Nat) (k : Nat) : State :=
  if (s.slot k).isEmpty then s
  else
    let w := recordWord k
    let s := s.nvWords w 64
    let s := (List.range (two.count k)).foldl (fun (s : State) _ => s.countWord w 3 2) s
    let s := (List.range (bad.count k)).foldl (fun (s : State) _ => s.free.2.countWord (w + s.free.1 % 64) 3 3) s
    if bad.contains k || s.nvDead w 64 then s.mediaFail (k / 4) 2 (!maps.contains k)
    else if (two.contains k || s.nvWeak w 64) && !s.on F.REC_STATUS_RO_MODE then
      let s := s.raise F.REC_EVT_REFRESH
      if fails.contains k then s.mediaFail (k / 4) 1 (!maps.contains k) else s.nvClear w 64
    else s

/-- A pass begins, from the oldest circulating record, unless one has not ended. -/
def State.beginPass (s : State) : State :=
  if s.recd.pass.isSome || !s.on F.REC_CTRL_COMPACT_EN then s
  else { s with recd := { s.recd with pass := some (s.headSlot, 2048) } }

/-- COMPACTION_PASS (R322): a pass begins, or the one begun goes on where it stopped, over `count` more slots in ring order. It reads
none under shedding step 2, nor while a record is being written. `words` are words of main NVM in which bits in error have come about. -/
def execCompactionPass (two bad verifyFails : List Nat) (s : State) (count : Nat := 2048) (mapFails : List Nat := [])
    (words : List (Nat × Nat) := []) : Result :=
  .next (if !s.ready then s
         else
           let s := (s.nvTold words).beginPass
           let hold := s.on F.REC_STATUS_COMPACT_DEFER
           match s.recd.pass with
           | none => s
           | some (k, left) =>
             if hold || s.recd.writing.isSome then s.put F.REC_STATUS_COMPACTING (!hold)
             else
               let n := min count left
               let at' (i : Nat) : Nat := 1024 + (k - 1024 + i) % 2048
               let s := (List.range n).foldl (fun (s : State) i => s.compactOne two bad verifyFails mapFails (at' i)) s
               let s := s.put F.REC_STATUS_COMPACTING (decide (n < left))
               { s with recd := { s.recd with pass := if n < left then some (at' n, left - n) else none } })

/-! ### Commands (R323) -/

end Sys2Proof.Machine

namespace Sys2Proof
open Machine

/-- A destination of `n` records is within the sideband's limits (R323). -/
def Cmd.recDestOk (c : Cmd) (n : Nat) : Bool :=
  match c.src with
  | .ring _ => decide (n ≤ 64)
  | .sideband => decide (n ≤ 32) && decide (c.b.toNat % 1024 = 0) && decide (c.b.toNat + 1024 * n ≤ 65536)

end Sys2Proof

namespace Sys2Proof.Machine

/-- REC_READ (R323). -/
def execRecRead (c : Cmd) (s : State) : Result :=
  .next (
    let n := bits c.a.toNat 16 7
    c.run s ⟨true, true⟩ (c.reservedOk 0x7F7FF1 0 0 true && decide (1 ≤ n) && c.recDestOk n) (fun s => s.readRecords c))

/-- REC_MARK (R321, R323): in read-only mode the trigger counts as suppressed. -/
def execRecMark (c : Cmd) (s : State) : Result :=
  .next (c.run s ⟨true, true⟩ (c.reservedOk 0xFFFFFFFF 0 0 false) (fun s =>
    c.done (s.recTrigger trHost c.a.toNat) (if s.on F.REC_STATUS_RO_MODE then stNvmFail else stOk)))

/-- REC_SNAP (R323): the spec gives a LIVE image no trigger and no detail; they are free. -/
def execRecSnap (c : Cmd) (s : State) : Result :=
  .next (c.run s ⟨true, true⟩ (c.reservedOk 0 0 0 true && c.recDestOk 1) (fun s =>
    c.xfer s 0 (fun s =>
      let (t, s) := s.free
      let (d, s) := s.free
      let s := (s.readWords (accKey 0) 24).2
      let img := s.recImage 3 (t % 65536) (s.get F.REC_SEQ_SEQ) (d % 2 ^ 32) false s.histBytes
      c.deliver s (putAt img 21 (le 2 (s.get F.REC_SUPPR_PEND_PEND))) stOk)))

end Sys2Proof.Machine
end

