-- ==== Sys2Proof/Machine/BusWrite.lean ====
section
/-!
DEFINITION. Register writes (R13 to R18, R32, R224, R374, R404, R410, R415 to R418, R435): what a write of a word does to the
fields of its register, and what follows the write of a register with an effect of its own.
-/
namespace Sys2Proof.Machine

/-! ### Fields (R15, R18) -/

/-- `old` with `w` bits from bit `src` on replaced by those of `v`. -/
def putBits (old src w v : Nat) : Nat := old - bits old src w * 2 ^ src + v % 2 ^ w * 2 ^ src

/-- The block that owns an RWI field is idle: a ring with EN = 0 and nothing in flight (R349), a launch queue with EN = 0, a port
in DISABLED (R96, R100). -/
def State.idleAt (s : State) (a i : Nat) : Bool :=
  if a / 0x10000 = 1 then !s.on F.HIF_RING_CFG_EN i && !s.hif.inflight.any (fun f => decide (f.ring = i))
  else if a / 0x10000 = 5 then !s.on F.TA_LQ_CTRL_EN i
  else decide (s.pstate i = psDisabled)

/-- A write reaches the field: its access code, and for the expert fields the XEN bit as it stands before the write. -/
def State.writable (s : State) (f : Fld) (i : Nat) : Bool :=
  match f.acc with
  | .rw | .w1c | .w1s => true
  | .ro | .wo => false
  | .rwi => s.idleAt f.addr i
  | .rwx a st lo => decide (Store.get 0 (s.tbl f.dom) ((a + st * i) * 32 + lo) = 1)

/-- The value of a field after a write of `n` to `w` of its bits from bit `src` on. -/
def written (f : Fld) (old src w n : Nat) : Nat :=
  match f.acc with
  | .w1c => old - (old &&& n * 2 ^ src)
  | .w1s => old ||| n * 2 ^ src
  | _ => putBits old src w n

/-- One slice of a word written with `v`; `s0` is the state before the write. Writes towards an unpowered Atoll are discarded (R24). -/
def State.storeSlice (s0 : State) (i v : Nat) (s : State) (x : Slice) : State :=
  if s0.writable x.fld i && !s0.clamped x.fld then s.set x.fld (written x.fld (s.get x.fld i) x.src x.width (bits v x.lo x.width)) i else s

/-- A word of register `r` written with `v`. -/
def State.storeWordOf (s0 : State) (r : Reg) (i v : Nat) (s : State) : State := r.slices.foldl (s0.storeSlice i v) s

/-- The register holds an RWI field that its block does not let through now. -/
def State.blocks (s : State) (r : Reg) (i : Nat) : Bool :=
  r.slices.any (fun x => match x.fld.acc with
    | .rwi => !s.idleAt x.fld.addr i
    | _ => false)

/-- One ignored write, counted in the block's status (R15): STR_STATUS.WIGN of a port, HIF_CNT_WIGN for a ring. The TA block has no
count. -/
def State.countIgnored (s : State) (a i : Nat) : State :=
  if a / 0x10000 = 1 then s.bump F.HIF_CNT_WIGN_WIGN
  else if 0x80000 ≤ a && a < 0xA0000 then s.bump F.STR_STATUS_WIGN i
  else s

/-! ### Wide registers (R14, R417) -/

/-- Stage a word of a wide register for an agent. -/
def State.stage (s : State) (sb : Bool) (a v : Nat) : State :=
  { s with lat := { s.lat with write := Store.set none s.lat.write (latchKey sb a) (some v) } }

/-- Commit the words an agent has staged for the register whose _LO word is at `a`; unstaged words keep their value. -/
def State.commitStaged (s0 : State) (sb : Bool) (a k : Nat) (s : State) : State :=
  (List.range (k - 1)).foldl (fun (s : State) j =>
    let b := a + 4 * (j + 1)
    match Store.get none s.lat.write (latchKey sb b), findReg b with
    | some v, some (r, i) =>
      let t := s0.storeWordOf r i v s
      { t with lat := { t.lat with write := Store.set none t.lat.write (latchKey sb b) none } }
    | _, _ => s) s

/-- The plain write of a word at an aligned address: a reserved address takes nothing (R415). -/
def State.storeReg (s : State) (sb : Bool) (a v : Nat) : State :=
  match findReg a with
  | none => s
  | some (r, i) =>
    let t := if s.blocks r i then s.countIgnored a i else s
    match r.wide with
    | none => s.storeWordOf r i v t
    | some (0, k) => s.commitStaged sb a k (s.storeWordOf r i v t)
    | some (_, _) => if s.blocks r i then t else t.stage sb a v

/-! ### Expert fields with XEN = 0 (R18) -/

/-- The fields that the XEN bit of the register at `a` opens, of every instance it serves, go back to their reset values. -/
def State.rederive (s : State) (a i : Nat) : State :=
  ((blockRegs a).flatMap Reg.slices).foldl (fun (s : State) x =>
    match x.fld.acc with
    | .rwx xa st _ =>
      if xa + st * i = a then
        (if st = 0 then (List.range x.fld.count).foldl (fun (s : State) j => s.set x.fld (s.rst x.fld j) j) s
         else s.set x.fld (s.rst x.fld i) i)
      else s
    | _ => s) s

/-- TB_PUB.PUB_LOCKED = 2^HIST_SPAN (R69). -/
def State.deriveTb (s : State) : State :=
  if s.on F.TB_CTRL_XEN then s
  else (s.rederive 0x30000 0).set F.TB_PUB_PUB_LOCKED (2 ^ s.eff F.TB_CTRL_HIST_SPAN)

/-- The masks that MODE derives (R112): OFF none; E2E Sync and Delay_Req; ALL every event message; CAPTURE every event message. -/
def State.deriveTs (s : State) (n : Nat) : State :=
  if s.on F.STR_TS_CTRL_XEN n then s
  else
    let m := s.get F.STR_TS_CTRL_MODE n
    let tc := if m = 1 then 3 else if m = 2 then 15 else 0
    ((s.set F.STR_TS_CTRL_SUB_MT tc n).set F.STR_TS_CTRL_ADD_MT tc n).set F.STR_TS_CTRL_CAP_MT (if m = 3 then 15 else 0) n

/-- Times and thresholds of the sequencer from its program (R265, R266, R285). -/
def State.deriveSq (s : State) : State :=
  if s.on F.SQ_CTRL_XEN || s.sq.prog.isEmpty then s
  else
    let p := s.sq.prog
    let s := ((s.set F.SQ_TIME0_PGSTAB (leAt p 8 2)).set F.SQ_TIME0_PGTO (leAt p 10 2)).set F.SQ_TIME1_CHAT_MAX (leAt p 12 1)
    let s := ((s.set F.SQ_TIME1_SQ_RETRY (leAt p 13 1)).set F.SQ_TIME1_PGDROP (leAt p 14 2)).set F.SQ_TIME2_OFFMIN (leAt p 16 2)
    let s := ((s.set F.SQ_TIME2_OFFTO (leAt p 18 2)).set F.SQ_TIME3_ACK (leAt p 20 1)).set F.SQ_TIME3_LONG (leAt p 21 1)
    let s := s.set F.SQ_TIME3_RST (leAt p 22 2)
    (railRecs p).foldl (fun (s : State) r =>
      (s.set F.SQ_RAIL_THR_GOOD_THR r.good r.ch).set F.SQ_RAIL_THR_OFF_THR r.off r.ch) s

/-- After a write of the register at `a` that holds an XEN bit: with XEN = 0 its expert fields show the basic level. AT_TRIM follows
at the next trim interval (R240). -/
def State.basicLevel (s : State) (a i : Nat) (xen : Fld) : State := if s.on xen i then s else s.rederive a i

/-! ### Strait (R84, R96, R224, R336) -/

/-- STR_CTRL: EN claims or releases the port's DLLs; a refusal leaves the register as it was. -/
def State.strCtrlWrite (s : State) (ag : Agent) (a n v : Nat) : State :=
  let c := claimPort n
  let old := s.on F.STR_CTRL_EN n
  let new := v.testBit 0
  if (old || new) && !s.mayTake ag c then
    s.refuseClaim (s.owner c) F.STR_CTRL_CLAIM_REF F.STR_CTRL_OWNER F.STR_EVT_CLAIM_REFUSED n n
  else
    let s := if new then s.take ag c 1 else if old then s.release c else s
    let s := ((s.storeReg false a v).basicLevel a n F.STR_CTRL_XEN).reviewEnable n
    if new && !old && s.pwr.step10 then s.calState else s

/-- Reservations of the bonded ports other than `n`. -/
def State.otherResv (s : State) (n : Nat) : Nat :=
  (List.range s.fuses.variant.ports).foldl (fun a m => if m = n then a else a + s.get F.STR_POOL_RESV m) 0

/-- STR_POOL: RESV within its limits, claimed while nonzero; SHR_MAX with it. -/
def State.strPoolWrite (s : State) (ag : Agent) (n v : Nat) : State :=
  let r := v % 4096
  let old := s.get F.STR_POOL_RESV n
  let c := claimPool n
  if s.pstate n ≠ psDisabled then (s.countIgnored 0x80030 n).set F.STR_POOL_SHR_MAX (bits v 16 13) n
  else if 2048 < r || 16384 < s.otherResv n + r then s.raise F.STR_EVT_RESV_REFUSED n
  else if (r ≠ 0 || old ≠ 0) && !s.mayTake ag c then
    s.refuseClaim (s.owner c) F.STR_CTRL_CLAIM_REF F.STR_CTRL_OWNER F.STR_EVT_RESV_REFUSED n n
  else
    let s := if r ≠ 0 then s.take ag c 8 else if old ≠ 0 then s.release c else s
    (s.setResv n r).set F.STR_POOL_SHR_MAX (bits v 16 13) n

/-! ### Clock outputs, balls, generators, capture units, queues (R195, R209, R215 to R219, R224) -/

/-- CK_CKO_CTRL. -/
def State.ckoWrite (s : State) (ag : Agent) (a n v : Nat) : State :=
  let c := claimCko n
  let old := s.on F.CK_CKO_CTRL_EN n
  let new := v.testBit 0
  if (old || new) && !s.mayTake ag c then
    s.refuseClaim (s.owner c) F.CK_CKO_STAT_CLAIM_REF F.CK_CKO_STAT_OWNER F.CK_EVT_CLAIM_REFUSED n 0
  else
    let s := (if new then s.take ag c 2 else if old then s.release c else s).storeReg false a v
    if new && !old then s.genArm n else if old && !new then s.genStop n else s

/-- The claim indices that a write of MODE and PGSEL takes or gives up on ball `n`. -/
def tioClaims (n oldM oldSel mode sel : Nat) : List Nat :=
  (if mode ≠ 0 || oldM ≠ 0 then [claimTio n] else []) ++ (if mode = 3 then [claimPg sel] else [])
    ++ (if oldM = 3 && (mode ≠ 3 || oldSel ≠ sel) then [claimPg oldSel] else [])

/-- The ball after a change of MODE or INV: on entry to MODE 2 or 3 it drives IDLE; a change of INV turns the ball of an output,
and the logic level of an input. -/
def State.tioChanged (s : State) (n oldM : Nat) (oldInv : Bool) : State :=
  let mode := s.get F.TA_TIO_CTRL_MODE n
  let inv := s.on F.TA_TIO_CTRL_INV n
  let out := mode = 2 || mode = 3
  if out && mode ≠ oldM then s.driveTio n (s.on F.TA_TIO_CTRL_IDLE n) s.raw
  else if inv = oldInv then s
  else if out then s.emit (.edge n (s.on F.TA_TIO_CTRL_LEVEL n != inv) (s.tioPlace n s.raw))
  else if mode = 1 then s.put F.TA_TIO_CTRL_LEVEL (!s.on F.TA_TIO_CTRL_LEVEL n) n
  else s

/-- TA_TIO_CTRL. -/
def State.tioWrite (s : State) (ag : Agent) (a n v : Nat) : State :=
  let mode := v % 4
  let sel := bits v 2 4
  let oldM := s.get F.TA_TIO_CTRL_MODE n
  let oldSel := s.get F.TA_TIO_CTRL_PGSEL n
  let oldInv := s.on F.TA_TIO_CTRL_INV n
  match (tioClaims n oldM oldSel mode sel).find? (fun c => !s.mayTake ag c) with
  | some c => s.refuseClaim (s.owner c) F.TA_TIO_CTRL_CLAIM_REF F.TA_TIO_CTRL_OWNER F.TA_EVT_CLAIM_REFUSED n 0
  | none =>
    let s := if mode = 0 then (if oldM = 0 then s else s.release (claimTio n)) else s.take ag (claimTio n) (if mode = 1 then 4 else 3)
    let s := if mode = 3 then s.take ag (claimPg sel) 5 else s
    let s := s.storeReg false a v
    let s := if oldM = 3 && (mode ≠ 3 || oldSel ≠ sel) then s.dropPg oldSel else s
    s.tioChanged n oldM oldInv

/-- TA_PG_CTRL: EN starts or stops the generator. -/
def State.pgWrite (s : State) (a k v : Nat) : State :=
  let old := s.on F.TA_PG_CTRL_EN k
  let s := s.storeReg false a v
  let new := s.on F.TA_PG_CTRL_EN k
  if new && !old then s.genArm (8 + k) else if old && !new then s.genStop (8 + k) else s

/-- TA_CU_CTRL: EN claims the unit and restarts its counts; refused where the source ball is in MODE 0. -/
def State.cuWrite (s : State) (ag : Agent) (a k v : Nat) : State :=
  let c := claimCu k
  let old := s.on F.TA_CU_CTRL_EN k
  let new := v.testBit 0
  let refuse (o : Nat) : State := s.refuseClaim o F.TA_CU_CTRL_CLAIM_REF F.TA_CU_CTRL_OWNER F.TA_EVT_CLAIM_REFUSED k 0
  if (old || new) && !s.mayTake ag c then refuse (s.owner c)
  else if new && !old && s.get F.TA_TIO_CTRL_MODE (bits v 1 4) = 0 then refuse 0
  else
    let s := (if new then s.take ag c 6 else s).storeReg false a v
    if new && !old then (s.setCu k ⟨[], 0, 0, 0, none⟩).set F.TA_CU_STAT_LOST 0 k
    else if old && !new then s.cuOff k
    else s

/-- TA_LQ_CTRL: EN claims the queue; EN to 0 discards its uncommitted frames and releases it. -/
def State.lqWrite (s : State) (ag : Agent) (a q v : Nat) : State :=
  let c := claimLq q
  let old := s.on F.TA_LQ_CTRL_EN q
  let new := v.testBit 0
  if (old || new) && !s.mayTake ag c then
    s.refuseClaim (s.owner c) F.TA_LQ_CTRL_CLAIM_REF F.TA_LQ_CTRL_OWNER F.TA_EVT_CLAIM_REFUSED q 0
  else
    let s := (if new then s.take ag c 7 else s).storeReg false a v
    if old && !new then s.lqOff q else s

/-! ### Other registers with an effect of their own -/

/-- SPX_CTRL (R128). -/
def State.spxWrite (s : State) (a n v : Nat) : State :=
  let tx := s.forwarding n .line
  (((s.storeReg false a v).basicLevel a n F.SPX_CTRL_XEN).spxReview n tx).srvReview

/-- ALn_CTRL (R250). -/
def State.alarmWrite (s : State) (sb : Bool) (a n v : Nat) : State :=
  let old := s.on F.AT_AL_CTRL_EN n
  let s := s.storeReg sb a v
  if s.on F.AT_AL_CTRL_EN n ≠ old then s.alarmPast n else s

/-- AT_STAT: a 1 to WAKE releases WAKE_N (R253). -/
def State.wakeWrite (s : State) (sb : Bool) (v : Nat) : State :=
  let s := s.storeReg sb 0xC0004 v
  if v.testBit 6 then { s with ato := { s.ato with wakePulse := false } } else s

/-- Set the fields of one instance to 0 for every register of the block whose offset from the set lies in [lo, hi]. -/
def State.clearCounters (s : State) (lo hi i : Nat) : State :=
  (((blockRegs lo).filter (fun r => decide (lo ≤ r.addr) && decide (r.addr ≤ hi))).flatMap Reg.slices).foldl
    (fun (s : State) x => s.set x.fld 0 i) s

/-- MEM_CNT_CLR (R393). -/
def State.memClear (s : State) : State :=
  let s := (List.range 8).foldl (fun (s : State) m => s.set F.MEM_CONF_CONF 0 m) s
  (List.range 4).foldl (fun (s : State) k => (s.set F.MEM_ECC_CE_CE 0 k).set F.MEM_ECC_UE_UE 0 k) (s.set F.MEM_COLL_COUNT 0)

/-- The bits of HIF_RING_CFG that ring `r` has (R377): VEC is reserved on a CR, PRIO and CPSEL on every other ring. -/
def ringCfgMask (r : Nat) : Nat := if r < 32 then 0x03FFE03F else 0x03FC1FFD

/-- The register at `a` belongs to an FR, which alone has BUF and BLOG2 (R377). -/
def frOnly (a : Nat) : Bool := decide (16 ≤ a % 32) && decide (a % 32 < 28) && !(decide (64 ≤ (a - 0x11000) / 32) && decide ((a - 0x11000) / 32 < 128))

/-- HIF_RING_CFG (R349): EN to 1 sets the ring's pointers to 0 and its phase to 1. -/
def State.ringCfgWrite (s : State) (a r v : Nat) : State :=
  let old := s.on F.HIF_RING_CFG_EN r
  let s := s.storeReg false a (v &&& ringCfgMask r)
  if s.on F.HIF_RING_CFG_EN r && !old then
    let s := (s.set F.HIF_RING_PTR_DEVPTR 0 r).set F.HIF_RING_PTR_PHASE 1 r
    { s with hif := { s.hif with swPtr := Store.set 0 s.hif.swPtr r 0, unsig := Store.set 0 s.hif.unsig r 0 } }
  else s

/-- An MSI-X vector control word: a vector whose mask goes to 0 sends the message that is pending. -/
def State.maskWrite (s : State) (a k v : Nat) : State :=
  let s := s.storeReg false a v
  let p := s.get F.MSIX_PBA_PEND (k / 32)
  if s.hif.cfg.msixOn && !s.hif.cfg.mask && !s.on F.MSIX_CTRL_MASK k && p.testBit (k % 32) then
    (s.set F.MSIX_PBA_PEND (p - 2 ^ (k % 32)) (k / 32)).emit (.msix k)
  else s

/-- A rail's thresholds: OFF_THR stays below GOOD_THR, otherwise the write is ignored (R286). -/
def State.thrWrite (s : State) (sb : Bool) (a v : Nat) : State :=
  if bits v 16 10 < bits v 0 10 then s.storeReg sb a v else s

/-- The bits of MON_SRCn_PARAM that are not reserved: MESH_RATE of MS1, the window of MS3 (R306). -/
def paramMask (k : Nat) : Nat := if k = 1 then 0x3F else if k = 3 then 0x0FFF0FFF else 0

/-- The basic level of MON_GOV_THR: the image of the profile (R18, R290). -/
def State.deriveGov (s : State) : State :=
  if s.on F.MON_CTRL_XEN then s
  else
    let g := s.mon.gov
    ((s.set F.MON_GOV_THR_SHED_AT (bits g 0 12)).set F.MON_GOV_THR_RESTORE_AT (bits g 12 12)).set F.MON_GOV_THR_PIO (bits g 24 8)

/-! ### The crossings to the Atoll (R23 to R25) -/

/-- SCLK cycles of one 32 kHz cycle, rounded up. -/
abbrev slowCycle : Nat := 23842

/-- The words above the _LO word at `a` of a wide register. -/
def upperWords (a : Nat) : List Nat :=
  match findReg a with
  | some (r, _) => (match r.wide with
    | some (0, k) => (List.range (k - 1)).map (fun j => a + 4 * (j + 1))
    | _ => [])
  | none => []

/-- Put the word that X6 committed at `a` back in place. -/
def State.putBack (s : State) (t : State) (a : Nat) : State :=
  match findReg a with
  | some (r, i) => s.storeWordOf r i (Store.get (0, 0) s.ato.x6 a).1 t
  | none => t

/-- A write into the Atoll: the sideband's through X6, any other through X2; `commit` is what the write does. Of two to one register
within one 32 kHz cycle X6's commits last and stays, all words of a wide register as X6 left them (R25). Towards an Atoll without
supply a write is discarded (R24). -/
def State.crossing (s : State) (sb : Bool) (a v : Nat) (commit : State → Bool → Nat → State) : State :=
  if !s.pwr.aonUp then s
  else
  let t := commit s sb v
  if sb then
    let x := (upperWords a).foldl (fun x b => Store.set (0, 0) x b (t.peek b, s.cyc + 1)) (Store.set (0, 0) t.ato.x6 a (v, s.cyc + 1))
    { t with ato := { t.ato with x6 := x } }
  else
    let w := Store.get (0, 0) s.ato.x6 a
    if w.2 ≠ 0 && decide (s.cyc < w.2 + slowCycle) then
      (upperWords a).foldl s.putBack { commit t true w.1 with lat := t.lat }
    else t

/-- A MON write by an agent (R296, R305, R306): 0 host, 1 sideband. The registers of MS0 to MS4 are the Atoll's. -/
def State.monWrite (s : State) (sb : Bool) (a v : Nat) : State :=
  let ag := b2n sb
  if a = 0xE000C then s.unlockWrite ag (v % 65536)
  else if a = 0xE0010 then (s.unlockBreak ag).stickyWrite ag v
  else
    let s := s.unlockBreak ag
    if a = 0xE0000 then (s.storeReg sb a v).deriveGov
    else if a = 0xE0018 then (if v.testBit 31 then s.set F.MON_JTEMP_JMAX (s.get F.MON_JTEMP_JTEMP) else s)
    else if 0xE0100 ≤ a && a < 0xE0150 then
      s.crossing sb a v (fun s sb v => s.storeReg sb a (if a % 16 = 4 then v &&& paramMask ((a - 0xE0104) / 16) else v))
    else s.storeReg sb a v

/-- SQ writes (R285, R286). -/
def State.sqWrite (s : State) (sb : Bool) (a v : Nat) : State :=
  if a = 0xD0000 then ((s.storeReg sb a v).basicLevel a 0 F.SQ_CTRL_XEN).deriveSq
  else if 0xD0100 ≤ a && a % 16 = 4 then s.thrWrite sb a v
  else s.storeReg sb a v

/-- One AT write commits (R250, R253, R260). -/
def State.atCommit (s : State) (sb : Bool) (a v : Nat) : State :=
  if a = 0xC0004 then s.wakeWrite sb v
  else if 0xC0080 ≤ a && a < 0xC00C0 && a % 16 = 0 then s.alarmWrite sb a ((a - 0xC0080) / 16) v
  else s.storeReg sb a v

/-- An AT write, over its crossing. -/
def State.atWrite (s : State) (sb : Bool) (a v : Nat) : State := s.crossing sb a v (fun s sb v => s.atCommit sb a v)

/-! ### Standby NVM programming (R401, R402) -/

/-- GLB_SNVM_KEY. -/
def State.snvmKey (s : State) (v : Nat) : State :=
  let k := v % 65536
  let first := s.snvm.key
  let s := { s with snvm := { s.snvm with key := decide (k = 0x5E1A) } }
  if k = 0xA7E1 && first then s.raise F.GLB_SNVM_CMD_UNLOCKED
  else if k = 0 then s.lower F.GLB_SNVM_CMD_UNLOCKED
  else s

/-- The 16 octets of GLB_SNVM_DATA0 to 3. -/
def State.snvmData (s : State) : Bytes := (List.range 4).flatMap (fun j => le 4 (s.get F.GLB_SNVM_DATA_DATA j))

/-- An uncorrectable standby-NVM word is read (R384, R385); the registers of the main domain show it while that runs. -/
def State.nvmBad (s : State) (w : Nat) : State :=
  let s := s.bump F.MEM_ECC_UE4_UE
  if s.mainUp then s.eccLast w 4 else s

/-- A standby-NVM word is read (R384). -/
def State.nvmWord (s : State) (w : Nat) : State :=
  let n := Store.get 0 s.snvm.weak w
  if Store.get false s.snvm.bad w then s.nvmBad w
  else if n = 0 then s
  else
    let s := s.bump F.MEM_ECC_CE4_CE
    if n = 2 && s.mainUp then s.raise F.MEM_EVT_CE2 else s

/-- The words of a byte range are read. -/
def State.nvmRead (s : State) (addr len : Nat) : State :=
  (List.range ((len + 15) / 16)).foldl (fun (s : State) i => s.nvmWord (addr / 16 + i)) s

/-- The word at ADDR goes to DATA0 to 3; the spec does not say what an uncorrectable word leaves there. -/
def State.snvmFetch (s : State) : State :=
  let w := s.get F.GLB_SNVM_ADDR_ADDR
  if Store.get false s.snvm.bad w then
    (List.range 4).foldl (fun (s : State) j =>
      let (x, s) := s.free
      s.set F.GLB_SNVM_DATA_DATA x j) (s.nvmBad w)
  else
    let b := s.snvm.bytes (16 * w) 16
    (List.range 4).foldl (fun (s : State) j => s.set F.GLB_SNVM_DATA_DATA (leAt b (4 * j) 4) j) (s.nvmWord w)

/-- GLB_SNVM_CMD: FAIL is W1C; PROG starts a program unless BUSY or locked; READ reads, after the end of a program of its word. -/
def State.snvmCmd (s : State) (v : Nat) : State :=
  let s := if v.testBit 9 then s.lower F.GLB_SNVM_CMD_FAIL else s
  let s := if v.testBit 0 && !s.on F.GLB_SNVM_CMD_BUSY && s.on F.GLB_SNVM_CMD_UNLOCKED then
      { s.raise F.GLB_SNVM_CMD_BUSY with
        snvm := { s.snvm with op := some (s.get F.GLB_SNVM_ADDR_ADDR, s.snvmData) } }
    else s
  if !v.testBit 1 then s
  else match s.snvm.op with
    | some (w, _) => if w = s.get F.GLB_SNVM_ADDR_ADDR then { s.raise F.GLB_SNVM_CMD_BUSY with snvm := { s.snvm with rd := true } }
                     else s.snvmFetch
    | none => s.snvmFetch

/-- GLB writes: any but one of the key breaks the unlock sequence. -/
def State.glbWrite (s : State) (a v : Nat) : State :=
  if a = 0x80 then s.snvmKey v
  else
    let s := { s with snvm := { s.snvm with key := false } }
    if a = 0x98 then s.snvmCmd v else s.storeReg false a v

/-! ### The test block (R404 to R406) -/

/-- Every perturbation at 0, TST_VSN included. -/
def State.tstClear (s : State) : State :=
  let s := s.clearAll 0 [F.TST_DBDLY_DLY, F.TST_BP_RING, F.TST_BP_EN, F.TST_ECC_ADDR_WADDR, F.TST_ECC_ADDR_KIND, F.TST_ECC_CTRL_P,
    F.TST_ECC_CTRL_ARM, F.TST_VSN_CH, F.TST_VSN_COUNT, F.TST_VSN_ARMED]
  let s := s.set F.TST_ECC_CTRL_NBITS 1
  let s := (List.range 32).foldl (fun (s : State) n => s.clearAll n [F.TST_TSOFS_RX, F.TST_TSOFS_TX, F.TST_SPXDROP_K]) s
  (List.range 16).foldl (fun (s : State) n => s.set F.TST_TIOSKEW_SKEW 0 n) s

/-- A failed unlock: a wrong value or a write in between. -/
def State.tstFail (s : State) : State := { s.bump F.TST_STATUS_KEY_FAILS with tstKey := false }

/-- TST_KEY. -/
def State.tstKeyWrite (s : State) (v : Nat) : State :=
  let k := v % 65536
  if k = 0 then { s.tstClear.lower F.TST_STATUS_UNLOCKED with tstKey := false }
  else if s.on F.TST_STATUS_UNLOCKED then s
  else if k = 0x5A17 && !s.tstKey then { s with tstKey := true }
  else if k = 0xC0DE && s.tstKey then { s.raise F.TST_STATUS_UNLOCKED with tstKey := false }
  else s.tstFail

/-- TST_SYN.FORCE_UNLOCK (R405): one loss of SYN0 lock. -/
def State.forceLoss (s : State) : State :=
  if s.on F.CK_STATUS_SYN_UNLOCK then s
  else
    let s := (s.lower F.CK_STATUS_SYN_LOCK).lockLoss
    { s with ck := { s.ck with forced := true } }

/-- TST_VSN: COUNT ≠ 0 arms the chatter, 0 disarms it; on a channel already in RAMP or GOOD it acts at once. -/
def State.vsnWrite (s : State) (v : Nat) : State :=
  let s := s.storeReg false 0x110030 v
  let s := s.put F.TST_VSN_ARMED (s.on F.TST_VSN_COUNT)
  s.vsnAct (s.get F.TST_VSN_CH)

/-- TST writes: ignored while locked, where they break an unlock sequence; a reserved address takes nothing (R415). -/
def State.tstWrite (s : State) (a v : Nat) : State :=
  if a = 0x110000 then s.tstKeyWrite v
  else if (findReg a).isNone then s
  else if !s.on F.TST_STATUS_UNLOCKED then (if s.tstKey then s.tstFail else s)
  else if a = 0x110030 then s.vsnWrite v
  else if a = 0x110034 then (if v.testBit 0 then s.forceLoss else s)
  else s.storeReg false a v

/-! ### Where a write goes -/

/-- A write of the native register at `a` by an agent that may make it. -/
def State.nativeWrite (s : State) (ag : Agent) (a v : Nat) : State :=
  let sb := decide (ag = .sideband)
  match a / 0x10000 with
  | 0 => s.glbWrite a v
  | 1 =>
    if a = 0x10000 then (s.storeReg sb a v).basicLevel a 0 F.HIF_CTRL_XEN
    else if 0x11000 ≤ a && a < 0x12080 && a % 32 = 8 then s.ringCfgWrite a ((a - 0x11000) / 32) v
    else if 0x11000 ≤ a && a < 0x12080 && frOnly a then s
    else if 0x18000 ≤ a && a < 0x18800 && a % 16 = 12 then s.maskWrite a ((a - 0x18000) / 16) v
    else s.storeReg sb a v
  | 2 =>
    if a = 0x20000 then ((s.storeReg sb a v).basicLevel a 0 F.MEM_CTRL_XEN).mtReview
    else if a = 0x200FC then (if v.testBit 0 then s.memClear else s)
    else if a = 0x20208 then (if v.testBit 0 then s.set F.MEM_POOL_FREE_MIN_FREE (s.get F.MEM_POOL_FREE_FREE) else s)
    else s.storeReg sb a v
  | 3 => if a = 0x30000 then (s.storeReg sb a v).deriveTb else s.storeReg sb a v
  | 4 =>
    if a = 0x40000 then (s.storeReg sb a v).basicLevel a 0 F.CK_CTRL_XEN
    else if 0x40010 ≤ a && a ≤ 0x40020 then (s.storeReg sb a v).fsrcReview
    else if a = 0x4007C then (if v.testBit 0 then s.clearCounters 0x40054 0x4005C 0 else s)
    else if 0x40100 ≤ a && a < 0x40200 && a % 32 = 0 then s.ckoWrite ag a ((a - 0x40100) / 32) v
    else s.storeReg sb a v
  | 5 =>
    if a = 0x50000 then (s.storeReg sb a v).basicLevel a 0 F.TA_CTRL_XEN
    else if a = 0x5007C then (if v.testBit 0 then s.clearCounters 0x50040 0x5005C 0 else s)
    else if 0x50100 ≤ a && a < 0x50200 && a % 16 = 0 then s.tioWrite ag a ((a - 0x50100) / 16) v
    else if 0x50300 ≤ a && a < 0x50500 && a % 32 = 0 then s.pgWrite a ((a - 0x50300) / 32) v
    else if 0x50500 ≤ a && a < 0x50600 && a % 16 = 0 then s.cuWrite ag a ((a - 0x50500) / 16) v
    else if 0x51000 ≤ a && a < 0x51800 && a % 16 = 0 then s.lqWrite ag a ((a - 0x51000) / 16) v
    else s.storeReg sb a v
  | 6 =>
    if a = 0x60000 then ((s.storeReg sb a v).basicLevel a 0 F.SRV_CTRL_XEN).srvReview
    else if 0x61000 ≤ a && a % 64 = 0x3C then
      (if v.testBit 0 then s.clearCounters 0x61020 0x61034 ((a - 0x61000) / 64) else s)
    else (s.storeReg sb a v).srvReview
  | 8 | 9 =>
    let n := (a - 0x80000) / 0x1000
    match a % 0x1000 with
    | 0x00 => s.strCtrlWrite ag a n v
    | 0x14 => (s.storeReg sb a v).eqReview n
    | 0x30 => s.strPoolWrite ag n v
    | 0x3C => if v.testBit 0 then s.clearCounters 0x80100 0x80158 n else s
    | 0x40 => (s.storeReg sb a v).deriveTs n
    | _ => s.storeReg sb a v
  | 10 =>
    let n := (a - 0xA0000) / 0x400
    match a % 0x400 with
    | 0x00 => s.spxWrite a n v
    | 0x7C => if v.testBit 0 then s.clearCounters 0xA0100 0xA0140 n else s
    | _ => s.storeReg sb a v
  | 12 => s.atWrite sb a v
  | 13 => s.sqWrite sb a v
  | 14 => s.monWrite sb a v
  | 15 => if a = 0xF0000 then (s.storeReg sb a v).basicLevel a 0 F.REC_CTRL_XEN else s.storeReg sb a v
  | 16 => if a = 0x100000 then (s.storeReg sb a v).basicLevel a 0 F.CAL_CTRL_XEN else s.storeReg sb a v
  | 17 => s.tstWrite a v
  | _ => s

/-- The port of a native Strait or SPX register. -/
def straitPort (a : Nat) : Option Nat :=
  if 0x80000 ≤ a && a < 0xA0000 then some ((a - 0x80000) / 0x1000)
  else if 0xA0000 ≤ a && a < 0xA8000 then some ((a - 0xA0000) / 0x400)
  else none

/-- The blocks that the sideband may write: SQ, MON, AT and the HIF_SB registers (R374). -/
def sidebandMay (a : Nat) : Bool :=
  let b := a / 0x10000
  b = 12 || b = 13 || b = 14 || (decide (0x10800 ≤ a) && decide (a < 0x10820))

end Sys2Proof.Machine
end

