-- ==== Sys2Proof/Machine/Bus.lean ====
section
/-!
DEFINITION. Partition service mode (R409 to R412, R435) and the write of a register by an agent (R4, R13, R32, R374, R410): who may
write where.
-/
namespace Sys2Proof.Machine

/-! ### Microcode images (R411) -/

/-- The first word of every image. -/
def ucodeMagic : Nat := 0x24400001

/-- One more word of an image: the first word starts a new one, the second is the count, and a word that another follows is a word
of the body. -/
def Ucode.push (u : Ucode) (w : Nat) : Ucode :=
  if w = ucodeMagic then ⟨1, 0, 0, 0, true⟩
  else if u.words = 0 then ⟨1, 0, 0, 0, false⟩
  else if u.words = 1 then { u with words := 2, count := w }
  else { u with words := u.words + 1, sum := if u.words = 2 then 0 else (u.sum + u.last) % 2 ^ 32, last := w }

/-- The image's length and sum are right. -/
def Ucode.accepted (u : Ucode) : Bool := u.ok && decide (u.words = u.count + 3) && decide (u.last = u.sum)

/-! ### Partitions (R409) -/

/-- Ports of partition q. -/
def partPorts (q : Nat) : List Nat := (List.range 8).map (fun k => 8 * q + k)

/-- Claim indices of its resources, ascending: launch queues, port DLLs, pool reservations. -/
def partClaims (q : Nat) : List Nat :=
  (List.range 32).map (fun j => 56 + 32 * q + j) ++ (partPorts q).map claimPort ++ (partPorts q).map claimPool

/-- Page addresses of partition q in the order of an EXIT: the Strait words of its ports, then the SPX words. -/
def partPages (q : Nat) : List Nat :=
  (List.range 8).flatMap (fun k => (List.range 16).map (fun w => 0x180000 + 0x10000 * q + 0x1000 * k + 4 * w))
    ++ (List.range 8).flatMap (fun k => (List.range 9).map (fun w => 0x180800 + 0x10000 * q + 0x1000 * k + 4 * w))

/-- The partition is in SERVICE. -/
def State.inService (s : State) (q : Nat) : Bool := s.on F.PSM_STAT_SERVICE q

/-- Every claim of the partition held by agent `old` passes to agent `new`, with its feature. -/
def State.moveClaims (s : State) (q old new : Nat) : State :=
  (partClaims q).foldl (fun (s : State) c =>
    let o := s.owner c
    if o ≠ 0 && o / 64 = old then s.set F.TA_CLAIM_OWNER (64 * new + o % 64) c else s) s

/-- EN of the partition's ports under R84. -/
def State.reviewParts (s : State) (q : Nat) : State := (partPorts q).foldl (fun (s : State) n => s.reviewEnable n) s

/-- The legacy pages take the current native values. -/
def State.loadPages (s : State) (q : Nat) : State :=
  (partPages q).foldl (fun (s : State) p =>
    match (psmNative p).bind findReg with
    | some (r, i) => { s with psm := { s.psm with pages := Store.set 0 s.psm.pages p (s.regWord r i &&& imageMask (r.addr + r.stride * i)) } }
    | none => s) s

/-- The legacy pages are written to the native registers. -/
def State.storePages (s : State) (q : Nat) : State :=
  (partPages q).foldl (fun (s : State) p =>
    match psmNative p with
    | some b => if imageMask b = 0 then s else s.nativeWrite .psm b (Store.get 0 s.psm.pages p)
    | none => s) s

/-- Set the microcode image of a partition. -/
def State.setUcode (s : State) (q : Nat) (u : Ucode) : State :=
  { s with psm := { s.psm with ucode := Store.set Ucode.none s.psm.ucode q u } }

/-- ENTER. -/
def State.psmEnter (s : State) (q : Nat) : State :=
  if s.inService q then s
  else if (List.range 4).any s.inService then s.set F.PSM_STAT_ERR 1 q
  else match (partClaims q).find? (fun c => decide (64 ≤ s.owner c)) with
    | some c => ((s.set F.PSM_STAT_ERR 2 q).set F.PSM_STAT_OWNER (s.owner c) q).set F.PSM_STAT_RES c q
    | none => ((((s.raise F.PSM_STAT_SERVICE q).reviewParts q).moveClaims q 0 3).loadPages q).setUcode q Ucode.none

/-- EXIT. -/
def State.psmExit (s : State) (q : Nat) : State :=
  let u := Store.get Ucode.none s.psm.ucode q
  if !s.inService q then s
  else if u.words ≠ 0 && !u.accepted then s.set F.PSM_STAT_ERR 3 q
  else
    let s := (s.storePages q).moveClaims q 3 0
    let s := (s.lower F.PSM_STAT_SERVICE q).reviewParts q
    (if u.words ≠ 0 then s.bump F.PSM_STAT_UCODE_OK q else s).setUcode q Ucode.none

/-- A write in the PSM window. -/
def State.psmWrite (s : State) (a v : Nat) : State :=
  let q := psmPart a
  if a = 0x1C0000 then
    (if v.testBit 0 || !(List.range 4).any s.inService then s.put F.PSM_CTRL_EN (v.testBit 0) else s)
  else if !s.on F.PSM_CTRL_EN || !s.partBondedQ q then s
  else match psmNative a with
    | some b =>
      if s.inService q then
        let old := Store.get 0 s.psm.pages a
        { s with psm := { s.psm with pages := Store.set 0 s.psm.pages a (v &&& imageMask b ||| old - (old &&& imageMask b)) } }
      else s
    | none =>
      if a < 0x1C0100 then s
      else if a % 16 = 0 then (if v % 4 = 1 then s.psmEnter q else if v % 4 = 2 then s.psmExit q else s)
      else if a % 16 = 8 && s.inService q then s.setUcode q ((Store.get Ucode.none s.psm.ucode q).push v)
      else s

/-! ### Writes by agent -/

/-- The partition whose service mode ignores and counts a write of the native register at an address (R410); none at a reserved
address (R415). -/
def State.servicedAt (s : State) (a : Nat) : Option Nat :=
  match straitPort a, findReg a with
  | some n, some _ => if s.serviced n then some (n / 8) else none
  | _, _ => none

/-- A write that the host or the sideband may make, of a register outside the PSM window: registers of an unbonded resource take
nothing (R4), though one in TST breaks an unlock (R404); those of a serviced port count it (R410). -/
def State.agentWrite (s : State) (ag : Agent) (a v : Nat) : State :=
  if s.unbonded a then (if a / 0x10000 = 17 && s.tstKey && !s.on F.TST_STATUS_UNLOCKED then s.tstFail else s)
  else match s.servicedAt a with
    | some q => s.bump F.PSM_STAT_NWIGN q
    | none => if (straitPort a).any s.serviced then s else s.nativeWrite ag a v

/-! ### BAR2 (R348, R386, R391) -/

/-- Octet `o` of BAR2, without the effect of reading it: mailbox, event summary page, epoch history ring, action table; reserved space is
0. -/
def State.bar2Byte (s : State) (o : Nat) : Byte :=
  if o < 0x10000 then s.mem.mailbox.read o
  else if o < 0x11000 then
    let i := o - 0x10000
    if i < 4 then BitVec.ofNat 8 (s.hif.pageSeq / 2 ^ (8 * i)) else BitVec.ofNat 8 (s.hif.page.getD (i / 4) 0 / 2 ^ (8 * (i % 4)))
  else if 0x20000 ≤ o && o < 0x60000 then
    let i := o - 0x20000
    match s.tb.hist.find? (fun h => decide (h.pub.index % 4096 = i / 64)) with
    | some h => (h.pub.bytes ++ h.latest.bytes).getD (i % 64) 0
    | none => 0
  else if 0x100000 ≤ o && o < 0x200000 then
    let i := o - 0x100000
    ((s.action (i / 64)).bytes).getD (i % 64) 0
  else 0

/-- The word that holds octet `o` of BAR2; none in reserved space. -/
def bar2Key (o : Nat) : Option Nat :=
  if o < 0x10000 then some (mailboxKey (o / 16))
  else if o < 0x11000 then some (sramKey (0x94900 + (o - 0x10000) / 16))
  else if 0x20000 ≤ o && o < 0x60000 then some (sramKey (0x90000 + (o - 0x20000) / 16))
  else if 0x100000 ≤ o && o < 0x200000 then some (sramKey (0x80000 + (o - 0x100000) / 16))
  else none

/-- The host reads `len` octets of BAR2 from offset `o`: their value, whether the completion is poisoned, and the state. A read of the
summary page finds it as its sources are now (R369). -/
def State.bar2Read (s : State) (o : Nat) (len : Nat := 4) : Nat × Bool × State :=
  let s := if o < 0x11000 && 0x10000 < o + len then s.summary else s
  let v := (List.range len).foldl (fun a i => a + (s.bar2Byte (o + i)).toNat * 2 ^ (8 * i)) 0
  let r := s.readEach ((List.range len).filterMap (fun i => bar2Key (o + i))).eraseDups
  (v, r.1.any id, r.2)

/-- The host writes octets of BAR2 at the offsets given: in the mailbox a word of which all 16 are written takes them; a lesser part is
merged with the stored word, and where that is poisoned or uncorrectable it stays so (R385, R391). Elsewhere they are discarded. -/
def State.bar2Put (s : State) (l : List (Nat × Byte)) : State :=
  let l := l.filter (fun p => decide (p.1 < 0x10000))
  let ks := (l.map (fun p => mailboxKey (p.1 / 16))).eraseDups
  let part := ks.filter (fun k => decide ((l.filter (fun p => decide (mailboxKey (p.1 / 16) = k))).length < 16))
  let r := s.readEach part
  let bad := ((part.zip r.1).filter Prod.snd).map Prod.fst
  let m := l.foldl (fun (m : Memory) p => m.write p.1 p.2) s.mem.mailbox
  let t : State := { r.2 with mem := { r.2.mem with mailbox := m } }
  ks.foldl (fun (t : State) k => if bad.contains k then t else t.writeWord k) t

/-- The host writes four octets of BAR2 from offset `o`. -/
def State.bar2Write (s : State) (o v : Nat) : State := s.bar2Put ((le 4 v).zipIdx.map (fun p => (o + p.2, p.1)))

/-! ### Configuration space (R347, R367) -/

/-- The word of configuration space at offset `o`. PRESUMED (assumption 52): the header, and what the registers of a capability hold, are
those of the PCI Express Base Specification; where the capabilities stand is the model's choice. -/
def State.cfgWord (s : State) (o : Nat) : Nat :=
  let c := s.hif.cfg
  let size (i : Nat) : Nat := if i = 0 then 0x200000 else if i = 2 then 0x800000 else 0x1000
  if o = 0 then Config.vendorId.toNat + 2 ^ 16 * s.fuses.variant.part
  else if o = 4 then 2 * b2n c.mem + 4 * b2n c.master + 2 ^ 20
  else if o = 8 then s.fuses.rev % 256 + 2 ^ 8 * 0x111000
  else if 0x10 ≤ o && o < 0x28 && o % 4 = 0 then
    let i := (o - 0x10) / 4
    let x := c.bars.getD i 0
    if i % 2 = 0 then x - x % size i + 4 else x
  else if o = 0x34 then 0x70
  else if o = 0x70 then 0x0010 + 2 ^ 8 * 0xB0 + 2 ^ 16 * 2
  else if o = 0x74 then 2 + 2 ^ 5 + 2 ^ 15 + 2 ^ 28
  else if o = 0x78 then 2 ^ 5 * c.mps + 2 ^ 12 * c.mrrs
  else if o = 0x7C then 4 + 2 ^ 4 * s.fuses.variant.lanes
  else if o = 0x80 then 2 ^ 16 * (s.get F.HIF_STATUS_SPEED + 2 ^ 4 * s.get F.HIF_STATUS_WIDTH)
  else if o = 0xB0 then 0x11 + 2 ^ 16 * 127 + 2 ^ 30 * b2n c.mask + 2 ^ 31 * b2n c.msixOn
  else if o = 0xB4 then 0x18000
  else if o = 0xB8 then 0x19000
  else if o = 0x100 then 0x0001 + 2 ^ 16 * 2
  else 0

/-- The pending messages of the vectors that are not masked any more go out (R367). -/
def State.releaseMsix (s : State) : State :=
  if !s.hif.cfg.msixOn || s.hif.cfg.mask then s
  else (List.range 128).foldl (fun (s : State) k =>
    let p := s.get F.MSIX_PBA_PEND (k / 32)
    if p.testBit (k % 32) && !s.on F.MSIX_CTRL_MASK k then
      (s.set F.MSIX_PBA_PEND (p - 2 ^ (k % 32)) (k / 32)).emit (.msix k) else s) s

/-- The host writes a word of configuration space. -/
def State.cfgWrite (s : State) (o v : Nat) : State :=
  let c := s.hif.cfg
  let put (c : Cfg) : State := { s with hif := { s.hif with cfg := c } }
  if o = 4 then put { c with mem := v.testBit 1, master := v.testBit 2 }
  else if 0x10 ≤ o && o < 0x28 && o % 4 = 0 then put { c with bars := c.bars.set ((o - 0x10) / 4) v }
  else if o = 0x78 then put { c with mps := min (bits v 5 3) 2, mrrs := min (bits v 12 3) 5 }
  else if o = 0xB0 then (put { c with mask := v.testBit 30, msixOn := v.testBit 31 }).releaseMsix
  else s

/-- A register of flags that BLOCKS of the summary page shows (R369). -/
def summarySource (a : Nat) : Bool :=
  [0x30024, 0x60024, 0x40044, 0x50014, 0xC0004, 0xC00C0, 0xD0008, 0xE0008, 0xF0024, 0x100014, 0x1000C].contains a
    || (decide (0x80000 ≤ a) && decide (a < 0xA0000) && (a % 0x1000 = 8 || a % 0x1000 = 0x44))
    || (decide (0xA0000 ≤ a) && decide (a < 0xA8000) && a % 0x400 = 0x34)

/-- Before a write clears flags of the summary page or of HIF_EVT, vector 127 fires for those that it has not yet seen rise (R370): queued
commands leave it no time to. -/
def State.beforeClear (s : State) (a : Nat) : State :=
  if (s.on F.HIF_CTRL_SUM_IRQ && summarySource a) || (s.on F.HIF_CTRL_EVT_IRQ && a = 0x1000C) then s.summary else s

/-- A write of the register word at address `a` (R13); the host's addresses from 0x20_0000 on are those of BAR2, from 0xA0_0000
on those of BAR4 (assumption 40), and from 0xB0_0000 on those of configuration space (assumption 52). The host's writes before the end of step 8 are ignored and counted (R32); a misaligned one is discarded (R416). The sideband writes the blocks of R374 alone. The profile loader writes in step 8, the PSM at
an EXIT. -/
def State.busWrite (s : State) (ag : Agent) (a v : Nat) : State :=
  if 0x200000 ≤ a then
    (match ag with
    | .host =>
      if !s.mainUp then s
      else if 0xB00000 ≤ a then s.cfgWrite (a - 0xB00000) v
      else if a < 0xA00000 then s.bar2Write (a - 0x200000) v
      else if a % 8 = 0 then s.doorbell ((a - 0xA00000) / 8) v
      else s
    | .sideband => if s.pwr.stby ≠ .up then s else s.sbRefuse stBadParam
    | .profile | .psm => s)
  else if a % 4 ≠ 0 then (if ag = .sideband && decide (s.pwr.stby = .up) && !sidebandMay a then s.sbRefuse stBadParam else s)
  else match ag with
  | .host =>
    if !s.mainUp then s
    else if !s.pwr.step8 then (s.bump F.HIF_CNT_WIGN_WIGN).raise F.HIF_EVT_WR_IGN
    else if 0x180000 ≤ a then s.psmWrite a v
    else (s.beforeClear a).agentWrite .host a v
  | .sideband =>
    if s.pwr.stby ≠ .up then s
    else if !sidebandMay a then
      (match s.servicedAt a with
      | some q => (s.bump F.PSM_STAT_NWIGN q).sbRefuse stBadParam
      | none => s.sbRefuse stBadParam)
    else (s.beforeClear a).agentWrite .sideband a v
  | .profile => if s.mainUp && !s.pwr.step8 && !s.unbonded a then s.nativeWrite .profile a v else s
  | .psm =>
    match straitPort a with
    | some n => if s.mainUp && s.serviced n then s.nativeWrite .psm a v else s
    | none => s

/-! ### Host accesses of any size (R391, R416) -/

/-- Octet `j` of the aligned word at `w` in an access of the octets `b` from address `a` on with byte enables `en`. -/
def accessByte (a : Nat) (b : Bytes) (en w j : Nat) : Option Byte :=
  if w + j < a || !en.testBit (w + j - a) then none else b[w + j - a]?

/-- A host write of octets `b` from address `a` on with byte enables `en`. In BAR0 whole registers are written, the higher address first;
one that covers a register in part, is longer than 8 octets or crosses an 8-octet boundary is discarded (R416). In BAR4 only the low
four octets of a doorbell count (R352). -/
def State.hostWrite (s : State) (a : Nat) (b : Bytes) (en : Nat) : State :=
  if !s.mainUp then s
  else if 0x200000 ≤ a && a < 0xA00000 then
    s.bar2Put (b.zipIdx.filterMap (fun p => if en.testBit p.2 then some (a - 0x200000 + p.2, p.1) else none))
  else
    let ws := [a - a % 4 + 4, a - a % 4].filter (fun w => (List.range 4).any (fun j => (accessByte a b en w j).isSome))
    let whole (w : Nat) : Bool := (List.range 4).all (fun j => (accessByte a b en w j).isSome)
    let val (w : Nat) : Nat := leNat ((List.range 4).filterMap (accessByte a b en w))
    if a < 0x200000 && !s.pwr.step8 then (s.bump F.HIF_CNT_WIGN_WIGN).raise F.HIF_EVT_WR_IGN
    else if 8 < b.length || 8 < a % 8 + b.length || !ws.all whole then s
    else ws.foldl (fun (s : State) w => s.busWrite .host w (val w)) s

/-- A write of instance `i` of a register of which the block has `count`. -/
def State.busWriteAt (s : State) (ag : Agent) (base stride count i v : Nat) : State :=
  if i < count then s.busWrite ag (base + stride * i) v else s

end Sys2Proof.Machine
end

