-- ==== Sys2Proof/Machine/Registers.lean ====
section
/-!
DEFINITION. Meanings of the rows that write or read a set-up register. The register's own behaviour is in BusWrite.lean; a row names
the register and the instance it writes.
-/
namespace Sys2Proof.Machine

/-- RING_ENABLE (R349): HIF_RING_CFG of ring i. -/
def execRingEnable (ag : Agent) (i : Nat) (v : Word) (s : State) : Result := .next (s.busWriteAt ag 0x11008 32 132 i v.toNat)

/-- MON_UNLOCK (R296). -/
def execMonUnlock (ag : Agent) (v : Word) (us : Nat) (s : State) : Result := .next ((s.tellUs us).busWrite ag 0xE000C v.toNat)

/-- MON_STICKY_CLEAR (R296). -/
def execMonStickyClear (ag : Agent) (v : Word) (s : State) : Result := .next (s.busWrite ag 0xE0010 v.toNat)

/-- WAKE_RELEASE (R253): AT_STAT. -/
def execWakeRelease (ag : Agent) (v : Word) (s : State) : Result := .next (s.busWrite ag 0xC0004 v.toNat)

/-- The address lies in a CAL window and not in one of its holes (R346, R415). -/
def calAssigned (a : Nat) : Bool :=
  let o := a - 0x100000
  decide (0x100100 ≤ a) && decide (a < 0x10C600)
    && ((decide (o < 0x900) && decide (o % 0x40 < 0x30)) || (decide (0x900 ≤ o) && decide (o < 0x98C))
      || (decide (0x9A0 ≤ o) && decide (o < 0x9C0)) || (decide (0xA00 ≤ o) && decide (o < 0xB00)) || decide (0x1000 ≤ o))

/-- The register at an address has all its fields in domain MAIN; so have the CAL windows. -/
def mainReg (a : Nat) : Bool :=
  match findReg a with
  | some (r, _) => r.slices.all (fun x => decide (x.fld.dom = .main))
  | none => calAssigned a

/-- The sideband reads a register (R374): a MAIN register reads 0 with NOT_READY while the main domain does not run; the PSM window is
the host's alone (R409). -/
def State.sbRead (s : State) (a : Nat) : Nat × State :=
  if 0x180000 ≤ a || a % 4 ≠ 0 then (0, s)
  else if mainReg a && !s.mainUp then (0, s.set F.HIF_SB_STAT_LAST stNotReady)
  else s.readReg true a

/-- The host reads `len` octets from an address on: those of the registers they lie in, each read whole in ascending order (R416). -/
def State.hostRead (s : State) (a : Nat) (len : Nat := 4) : Nat × State :=
  if a % 4 = 0 && len = 4 then s.readReg false a
  else
    let r := (List.range ((a % 4 + len + 3) / 4)).foldl (fun (r : Nat × State) i =>
      let x := r.2.readReg false (a - a % 4 + 4 * i)
      (r.1 + 2 ^ (32 * i) * x.1, x.2)) (0, s)
    (r.1 / 2 ^ (8 * (a % 4)) % 2 ^ (8 * len), r.2)

/-- The host reads `len` octets of configuration space from offset `o` on. -/
def State.cfgRead (s : State) (o len : Nat) : Nat :=
  (List.range len).foldl (fun a i => a + bits (s.cfgWord ((o + i) / 4 * 4)) (8 * ((o + i) % 4)) 8 * 2 ^ (8 * i)) 0

/-- The host reads `len` octets of BAR4 from offset `o` on. -/
def State.bar4Read (s : State) (o len : Nat) : Nat :=
  (List.range len).foldl (fun a i => a + bits (s.doorbellRead ((o + i) / 4 * 4)) (8 * ((o + i) % 4)) 8 * 2 ^ (8 * i)) 0

/-- WIDE_LO_READ (R417), any other register read, and a read of BAR2, BAR4 or configuration space (R347, R348, R352): the value goes to the agent that reads, the host or the
sideband. -/
def execWideLoRead (ag : Agent) (addr : Nat) (s : State) (len : Nat := 4) : Result :=
  .next (match ag with
    | .host =>
      if !s.mainUp then s
      else if 0xB00000 ≤ addr then s.emit (.hostData (s.cfgRead (addr - 0xB00000) len) false)
      else if 0xA00000 ≤ addr then s.emit (.hostData (s.bar4Read (addr - 0xA00000) len) false)
      else if 0x200000 ≤ addr then
        let r := s.bar2Read (addr - 0x200000) len
        r.2.2.emit (.hostData r.1 r.2.1)
      else
        let r := s.hostRead addr len
        r.2.emit (.hostData r.1 false)
    | .sideband =>
      if s.pwr.stby ≠ .up then s
      else
        let r := s.sbRead addr
        r.2.emit (.sbData (le 4 r.1))
    | .profile | .psm => s)

/-- WIDE_LO_WRITE (R417). -/
def execWideLoWrite (ag : Agent) (addr : Nat) (v : Word) (s : State) : Result := .next (s.busWrite ag addr v.toNat)

/-- WIDE_UPPER_WRITE (R417). -/
def execWideUpperWrite (ag : Agent) (addr : Nat) (v : Word) (s : State) : Result := .next (s.busWrite ag addr v.toNat)

/-- REGISTER_WRITE (R15, R391, R416): a host access of four octets, or of the size and byte enables that it brings. -/
def execRegisterWrite (ag : Agent) (addr : Nat) (v : Word) (s : State) (rest : Bytes := []) (en : Option Nat := none) : Result :=
  .next (match ag with
    | .host =>
      if rest.isEmpty && en.isNone then s.busWrite .host addr v.toNat
      else s.hostWrite addr (le 4 v.toNat ++ rest) (en.getD (2 ^ (4 + rest.length) - 1))
    | _ => s.busWrite ag addr v.toNat)

/-- STR_CTRL_EN_WRITE (R84): STR_CTRL of port i. -/
def execStrCtrlEnWrite (ag : Agent) (i : Nat) (v : Word) (s : State) : Result := .next (s.busWriteAt ag 0x80000 0x1000 32 i v.toNat)

/-- STR_POOL_RESV_WRITE (R96): STR_POOL of port i. -/
def execStrPoolResvWrite (ag : Agent) (i : Nat) (v : Word) (s : State) : Result := .next (s.busWriteAt ag 0x80030 0x1000 32 i v.toNat)

/-- CKO_EN_WRITE (R195): CK_CKO_CTRL of output i. -/
def execCkoEnWrite (ag : Agent) (i : Nat) (v : Word) (s : State) : Result := .next (s.busWriteAt ag 0x40100 32 8 i v.toNat)

/-- TIO_MODE_WRITE (R215): TA_TIO_CTRL of ball i. -/
def execTioModeWrite (ag : Agent) (i : Nat) (v : Word) (s : State) : Result := .next (s.busWriteAt ag 0x50100 16 16 i v.toNat)

/-- CU_EN_WRITE (R219): TA_CU_CTRL of unit i. -/
def execCuEnWrite (ag : Agent) (i : Nat) (v : Word) (s : State) : Result := .next (s.busWriteAt ag 0x50500 16 16 i v.toNat)

/-- LQ_EN_WRITE (R209): TA_LQ_CTRL of queue i. -/
def execLqEnWrite (ag : Agent) (i : Nat) (v : Word) (s : State) : Result := .next (s.busWriteAt ag 0x51000 16 128 i v.toNat)

/-- PG_EN_WRITE (R217): TA_PG_CTRL of generator i. -/
def execPgEnWrite (ag : Agent) (i : Nat) (v : Word) (s : State) : Result := .next (s.busWriteAt ag 0x50300 32 16 i v.toNat)

/-- ALARM_EN_WRITE (R250): AT_AL_CTRL of alarm i. -/
def execAlarmEnWrite (ag : Agent) (i : Nat) (v : Word) (s : State) : Result := .next (s.busWriteAt ag 0xC0080 16 4 i v.toNat)

/-- SPX_EN_WRITE (R128): SPX_CTRL of port i. -/
def execSpxEnWrite (ag : Agent) (i : Nat) (v : Word) (s : State) : Result := .next (s.busWriteAt ag 0xA0000 0x400 32 i v.toNat)

/-- STR_CNT_CLR (R100) of port i. -/
def execStrCntClr (ag : Agent) (i : Nat) (v : Word) (s : State) : Result := .next (s.busWriteAt ag 0x8003C 0x1000 32 i v.toNat)

/-- SPX_CNT_CLR (R151) of port i. -/
def execSpxCntClr (ag : Agent) (i : Nat) (v : Word) (s : State) : Result := .next (s.busWriteAt ag 0xA007C 0x400 32 i v.toNat)

/-- PTP_PCNT_CLR (R177) of port i. -/
def execPtpPcntClr (ag : Agent) (i : Nat) (v : Word) (s : State) : Result := .next (s.busWriteAt ag 0x6103C 64 32 i v.toNat)

/-- CK_CNT_CLR (R197). -/
def execCkCntClr (ag : Agent) (v : Word) (s : State) : Result := .next (s.busWrite ag 0x4007C v.toNat)

/-- TA_CNT_CLR (R227). -/
def execTaCntClr (ag : Agent) (v : Word) (s : State) : Result := .next (s.busWrite ag 0x5007C v.toNat)

/-- MEM_CNT_CLR (R393). -/
def execMemCntClr (ag : Agent) (v : Word) (s : State) : Result := .next (s.busWrite ag 0x200FC v.toNat)

/-- MEM_POOL_CLR (R101). -/
def execMemPoolClr (ag : Agent) (v : Word) (s : State) : Result := .next (s.busWrite ag 0x20208 v.toNat)

/-- JMAX_CLR (R305): MON_JTEMP. -/
def execJmaxClr (ag : Agent) (v : Word) (s : State) : Result := .next (s.busWrite ag 0xE0018 v.toNat)

end Sys2Proof.Machine
end

