-- ==== Sys2Proof/Machine/Time.lean ====
section
/-!
DEFINITION. Meanings of the timebase and servo rows: publication, epochs, revision, conversion commands, source selection
(R47 to R66, R163 to R175).
-/
namespace Sys2Proof.Machine

/-! ### Epoch and state events -/

/-- PUBLICATION_INSTANT (R48, R166). -/
def execPublicationInstant (raw : Raw) (s : State) : Result := .next (if s.mainUp then (s.reach raw).publication else s)

/-- REBASE (R47): 2^40 units after raw0 of the epoch in force, with unchanged rate. -/
def execRebase (s : State) : Result :=
  .next (match s.tb.cur with
    | none => s
    | some e => let r := max s.raw (e.raw0 + 2 ^ 40)
                (s.reach (r + (tapsPerCycle - 1))).beginEpoch kRebase r 0)

/-- SLEW_END (R65): D cycles after the slew began. -/
def execSlewEnd (s : State) : Result :=
  .next (match s.tb.slew with
    | none => s
    | some w => let s := s.reach w.stop
                s.stopSlew s.raw)

/-- SOURCE_LOSS (R60, R61). -/
def execSourceLoss (raw : Raw) (s : State) : Result := .next (if s.mainUp then (s.reach raw).sourceLoss else s)

/-- REVISION_COMPLETE (R58); the revision began in an earlier SCLK cycle. -/
def execRevisionComplete (s : State) : Result :=
  .next ((if s.tb.revisions.any (fun v => !v.begun) then s.passTo (s.cyc + 1) else s).finishRevision)

/-! ### Conversion entries (R52 to R54) -/

/-- A conversion entry as written back: raw time, CFLAGS, and the record used with its ZTIME. -/
def convEntry (mode expired extra step : Bool) (raw : Bytes) (e : Epoch) (zt : Bytes) : Bytes :=
  raw ++ [BitVec.ofNat 8 (b2n mode + 2 * b2n expired + 4 * b2n extra + 8 * b2n (decide (e.kind = kRevision)) + 16 * b2n e.untraced
    + 32 * b2n step), BitVec.ofNat 8 e.state] ++ le 2 e.gen ++ le 2 e.index ++ zt ++ le 4 0

/-- An entry without a record: ZTIME 0; what stands for the record's fields is free. -/
def State.convNone (s : State) (mode expired : Bool) (raw : Bytes) : Bytes × State :=
  let (x, s) := s.free
  let e : Epoch := ⟨0, 0, 0, bits x 0 3, false, bit x 3, if bit x 4 then kRevision else kRate, bits x 5 16, bits x 21 16⟩
  (convEntry mode expired false (s.on F.TB_STATUS_STEP_PEND) raw e (le 12 0), s)

/-- TB_READ (R53): RAWCT now under the current epoch; in COLD the raw time alone. -/
def execTbRead (c : Cmd) (s : State) : Result :=
  .next (c.run s ⟨true, true⟩ (c.reservedOk 0 0 0 true) (fun s => c.xfer s 32 (fun s =>
    let mode := (leAt (c.input s 32) 10 1).testBit 0
    match s.liveEpoch with
    | none =>
      let r := s.convNone mode false (rawBytes s.raw)
      c.deliver r.2 r.1 stNotReady (s.cyc % 2 ^ 64)
    | some e =>
      let b := convEntry mode false false (s.on F.TB_STATUS_STEP_PEND) (rawBytes s.raw) e (ztBytes (e.convert s.raw))
      c.deliver s b stOk (s.cyc % 2 ^ 64))))

/-- One entry of CONVERT (R54; R386 for a slot that cannot be read) with the history `hist` that its conversion sees (R27): the
result, whether it is EXPIRED, and the state. -/
def State.convertOne (s : State) (hist : List HistSlot) (b : Bytes) : Bytes × Bool × State :=
  let mode := (leAt b 10 1).testBit 0
  let r := leAt b 0 10 % 2 ^ 73
  let raw := b.take 10
  let step := s.on F.TB_STATUS_STEP_PEND
  let none' (s : State) : Bytes × Bool × State :=
    let x := s.convNone mode true raw
    (x.1, true, x.2.raise F.TB_EVT_CONV_EXPIRED)
  match s.tb.cur, hist.head? with
  | some cur, some live =>
    if s.raw < r then (convEntry mode false true step raw live.pub (ztBytes (live.pub.convert r)), false, s)
    else match slotAt r hist with
      | none => none' s
      | some h =>
        let q := if h.pub.index = cur.index then (false, s) else s.readWords (slotKey h.pub.index + (if mode then 4 else 0)) 2
        let s := q.2
        let e := if mode then h.latest else h.pub
        if q.1 then none' s else (convEntry mode false false step raw e (ztBytes (e.convert r)), false, s)
  | _, _ => none' s

/-- The entries of CONVERT in order: their results, how many are EXPIRED, and the state. The first starts in the cycle in which the
command executes; each later one starts 8 SCLK after the one before it and sees the history whole (R27, R54). -/
def State.convertAll (s : State) (hist : List HistSlot) (b : Bytes) : Nat → Bytes × Nat × State
  | 0 => ([], 0, s)
  | n + 1 =>
    let x := s.convertOne hist (b.take 32)
    let y := x.2.2.convertAll s.tb.hist (b.drop 32) n
    (x.1 ++ y.1, b2n x.2.1 + y.2.1, y.2.2)

/-- CONVERT (R54). DESIGN CHOICE (assumption 47): the number of entries converted counts every entry processed, the EXPIRED ones
among them, since the rule does not say whether an EXPIRED entry counts as converted. -/
def execConvert (c : Cmd) (s : State) : Result :=
  .next (c.run s ⟨true, true⟩ (c.reservedOk 0x7FF 0 0 true) (fun s =>
    let n := c.a.toNat
    if n = 0 || 1024 < n then c.done s stBadParam
    else c.xfer s (32 * n) (fun s =>
      let r := s.convertAll s.liveHist (c.input s (32 * n)) n
      c.deliver r.2.2 r.1 stOk (n + 2 ^ 32 * r.2.1))))

/-- ACCEPT_STEP (R64): the conditions in the order listed. -/
def execAcceptStep (c : Cmd) (s : State) : Result :=
  .next (c.run s ⟨true, true⟩ (c.reservedOk 0xFFFF 0 0 false) (fun s =>
    if !s.on F.TB_STATUS_STEP_PEND then c.done s stNotReady
    else if s.tbState = tbDegraded then c.done s stNotReady
    else if c.a.toNat ≠ s.get F.TB_PEND_ID_PEND_ID then c.done s stBadParam
    else c.done s.acceptStep stOk))

/-! ### Source selection (R163 to R165) -/

/-- CANDIDATE_QUALIFY (R163). -/
def execCandidateQualify (k : Nat) (s : State) : Result :=
  .next (if decide (k < 8) && s.mainUp && s.eligible k then (s.setQual k true).select else s)

/-- WTR_EXPIRY (R164). -/
def execWtrExpiry (s : State) : Result :=
  .next (match s.bestSrc with
    | some b => if s.on F.SRV_STATUS_WTR_RUN && s.on F.SRV_CTRL_REVERT && !s.on F.SRV_STATUS_FORCED
                    && s.better b (s.get F.SRV_STATUS_SEL) then s.selectSrc b else s
    | none => s)

/-- ANNOUNCE_EXPIRY (R163): no Announce that qualifies for candidate `k` came to its port within three intervals; those that only
a candidate with a higher CLASS_MAX takes stay. -/
def execAnnounceExpiry (k : Nat) (s : State) : Result :=
  .next (if decide (k < 8) && s.mainUp && s.bonded (s.srcPort k) then
           (s.modPtp (s.srcPort k) (fun p =>
             { p with anns := p.anns.filter (fun a => decide (s.get F.SRV_SRC_CLASS_MAX k < a.1)) })).srvReview
         else s)

/-- SRV_SELECT (R165, R175). -/
def execSrvSelect (c : Cmd) (s : State) : Result :=
  .next (c.run s ⟨true, true⟩ (c.reservedOk 0xFF 0 0 false) (fun s =>
    let r := s.srvSelect c.a.toNat
    c.done r.2 r.1))

/-- SRV_PROPOSE (R169, R175). -/
def execSrvPropose (c : Cmd) (s : State) : Result :=
  .next (c.run s ⟨true, true⟩ (c.reservedOk 3 (2 ^ 64 - 1) (2 ^ 40 - 1 + (2 ^ 32 - 1) * 2 ^ 64) false) (fun s =>
    let r := s.srvPropose (c.a.toNat.testBit 0) (c.a.toNat.testBit 1) c.b.toInt (signed 40 (c.cAt 0 5)) (c.cAt 8 4)
    c.done r.2 r.1))

/-- SRV_CLR_TAINT (R173). -/
def execSrvClrTaint (c : Cmd) (s : State) : Result :=
  .next (c.run s ⟨true, true⟩ (c.reservedOk 0 0 0 false) (fun s =>
    if s.taintHeld then c.done s stNotReady else c.done (s.lower F.SRV_STATUS_TAINT) stOk))

/-- PTP_SET_ANNOUNCE (R172, R175). -/
def execPtpSetAnnounce (c : Cmd) (s : State) : Result :=
  .next (c.run s ⟨true, true⟩ (c.reservedOk 0 0 0 true) (fun s => c.xfer s 64 (fun s =>
    let t := c.input s 64
    if leAt t 0 1 % 16 ≠ 0xB || beAt t 2 2 ≠ 64 then c.done s stBadParam
    else c.done { s with srv := { s.srv with tmpl := t } } stOk)))

end Sys2Proof.Machine
end

