-- ==== Sys2Proof/Machine/Startup.lean ====
section
/-!
DEFINITION. Start-up (R29): the standby NVM at step 3, lock and release of the main domain at steps 6 and 7, loading at step 8,
and what the end of power-up calibration brings at step 10.
-/
namespace Sys2Proof.Machine

/-! ### Step 3: the standby NVM (R29, R267, R290, R398) -/

/-- Profile k is read and checked, with its program where the check comes to it: the reason code of R397, and the state after the
reads. -/
def State.checkProf (s : State) (k : Nat) : Nat × State :=
  let c := s.profCheck k
  let t := s.nvmRead (profAddr k) 3072
  (c, if c = 0 || c = 7 then t.nvmRead (progAddr (bits (leAt (s.profImage k) 7 1) 2 2)) 512 else t)

/-- A rail record goes to the registers of its channel. -/
def State.setRail (s : State) (r : RailRec) : State :=
  let s := ((s.set F.SQ_RAIL_CFG_ON_STEP r.onStep r.ch).set F.SQ_RAIL_CFG_OFF_STEP r.offStep r.ch).put F.SQ_RAIL_CFG_CLASS r.isP r.ch
  let s := (s.put F.SQ_RAIL_CFG_CORE r.core r.ch).put F.SQ_RAIL_CFG_OD (r.flags.testBit 2) r.ch
  let s := (s.put F.SQ_RAIL_CFG_NOSENSE (r.flags.testBit 3) r.ch).raise F.SQ_RAIL_CFG_VALID r.ch
  s.set F.SQ_RAIL_DEP_DEP r.dep r.ch

/-- A sequencer program is taken into use. -/
def State.useProgram (s : State) (p : Bytes) : State :=
  let s := { s with sq := { s.sq with prog := p, progOk := true } }
  let s := (railRecs p).foldl (fun (s : State) r => s.setRail r) (s.put F.SQ_CTRL_BTN_OFF ((leAt p 7 1).testBit 0))
  s.deriveSq

/-- The monitor section of a profile image (R290): every MON_SRCn register and the governor's. -/
def State.useMonitors (s : State) (p : Bytes) : State :=
  let s := (List.range 8).foldl (fun (s : State) k =>
    (s.storeReg false (0xE0100 + 16 * k) (leAt p (64 + 4 * k) 4)).storeReg false (0xE0104 + 16 * k)
      (leAt p (96 + 4 * k) 4 &&& paramMask k)) s
  let s := s.storeReg false 0xE0000 (leAt p 128 4)
  let g := leAt p 132 4
  let s := { s with mon := { s.mon with gov := g } }
  ((s.set F.MON_GOV_THR_SHED_AT (bits g 0 12)).set F.MON_GOV_THR_RESTORE_AT (bits g 12 12)).set F.MON_GOV_THR_PIO (bits g 24 8)

/-- Profile k becomes the standby profile. -/
def State.useStandby (s : State) (k : Nat) : State :=
  let p := s.profImage k
  let cfg := leAt p 7 1
  let s := (s.set F.GLB_PROF_STBY_PROF k).set F.GLB_PROF_NEXT k
  let s := (s.set F.SQ_CTRL_PROG (bits cfg 2 2)).put F.SQ_CTRL_AUTO_ON ((leAt p 6 1).testBit 0)
  let s := { s with pwr := { s.pwr with refsel := bits cfg 0 2 } }
  (s.useProgram (s.snvm.bytes (progAddr (bits cfg 2 2)) 512)).useMonitors p

/-- No profile is loadable: the sequencer stays in state 0 as with a rejected program. -/
def State.noProfile (s : State) : State := (s.raise F.GLB_PROF_NONE).raise F.SQ_STATUS_PROG_ERR

/-- Step 3 with the balls PROFSEL1 and PROFSEL0 at `k`. -/
def State.step3 (s : State) (k : Nat) : State :=
  let s := { s with pwr := { s.pwr with stby := .up, profsel := k } }.set F.GLB_PROF_BALLS k
  let c := s.checkProf k
  if c.1 = 0 then c.2.useStandby k
  else if k = 0 then (c.2.raise F.GLB_PROF_FB).noProfile
  else
    let d := (c.2.raise F.GLB_PROF_FB).checkProf 0
    if d.1 = 0 then d.2.useStandby 0 else d.2.noProfile

/-- Bits in error that words of the standby NVM are found to hold: up to two are correctable. -/
def State.snvmTold (s : State) (l : List (Nat × Nat)) : State :=
  { s with snvm := { s.snvm with
      bad := l.foldl (fun t p => Store.set false t p.1 (decide (2 < p.2))) s.snvm.bad
      weak := l.foldl (fun t p => Store.set 0 t p.1 (if p.2 ≤ 2 then p.2 else 0)) s.snvm.weak } }

/-- STANDBY_RESET_RELEASE (R29). `nvm` are words of the standby NVM in which bits in error have come about. -/
def execStandbyResetRelease (profsel : Fin 4) (s : State) (nvm : List (Nat × Nat) := []) : Result :=
  .next (if s.pwr.stby = .held then (s.snvmTold nvm).step3 profsel.val else s)

/-! ### Steps 6 and 7 (R179, R278) -/

/-- SYN0_START_LOCK (R179). -/
def execSyn0StartLock (late : Bool) (s : State) : Result :=
  .next (if s.stbyUp && s.coreGood && !s.pwr.synStarted && !s.pwr.mainRun then
           { s with pwr := { s.pwr with synStarted := true, synLate := late } }
         else s)

/-- Step 7: the main domain runs, with SYN0 and the bonded DLLs locked. -/
def State.releaseMain (s : State) : State :=
  let late := s.pwr.synLate
  let s := { s with cyc := 0, pwr := { s.pwr with mainRun := true, synLate := false } }
  let dlls := (List.range 88).foldl (fun a d => if s.fuses.variant.dllBonded d then a + 2 ^ d else a) 0
  let s := (s.raise F.CK_STATUS_SYN_LOCK).set F.CK_DLL_LOCK_LOCK dlls
  (if late then s.raise F.CK_EVT_SYN_UNLOCK else s).applyShed

/-! ### Step 8: the profile (R399) -/

/-- Write every record of profile k under agent 0; what the records leave staged is dropped. -/
def State.load (s : State) (k : Nat) : State :=
  let l := (profRecs (s.profImage k)).getD []
  let s := (l.flatMap (fun r => r.expand s.fuses.variant.ports)).foldl (fun (s : State) w => s.busWrite .profile w.1 w.2) s
  let s := { s with lat := { s.lat with write := s.lat.write.filter (fun p => decide (p.1 % 2 = 1)) } }
  s.set F.GLB_PROF_LOAD_PROF k

/-- The load profile, else the standby profile, else PROF0, else nothing. -/
def State.loadProfile (s : State) : State :=
  let s := s.clearAll 0 [F.GLB_PROF_LOAD_FB, F.GLB_PROF_LOAD_ERR]
  let k := s.get F.GLB_PROF_NEXT
  let c := s.checkProf k
  if c.1 = 0 then c.2.load k
  else
    let k := s.get F.GLB_PROF_STBY_PROF
    let c := (c.2.raise F.GLB_PROF_LOAD_FB).checkProf k
    if c.1 = 0 then c.2.load k
    else
      let c := c.2.checkProf 0
      if c.1 = 0 then c.2.load 0 else c.2.raise F.GLB_PROF_LOAD_ERR

/-- The pool reservations in force are claimed by the loader (R96). -/
def State.claimPools (s : State) : State :=
  s.forPorts s.fuses.variant.ports (fun n s =>
    if s.get F.STR_POOL_RESV n ≠ 0 && s.owner (claimPool n) = 0 then s.take .profile (claimPool n) 8 else s)

/-! ### Step 8: calibration copies and the mirror (R243, R342) -/

/-- A calibration copy; one that has never been written is not valid. -/
def State.copyAt (s : State) (k : Nat) : CalCopy := Store.get ⟨false, 0, 0, 0, 0, 0, []⟩ s.cal.copies k

/-- A copy is valid (R342): every word correctable, and committed. -/
def State.copyValid (s : State) (k : Nat) : Bool := !s.nvDead (calCopyWord k) 4096 && (s.copyAt k).committed

/-- The copies that are not valid. -/
def State.tornCopies (s : State) : List Nat := [0, 1].filter (fun k => !s.copyValid k)

/-- Built-in nominal values: no correction, nominal sums with the fused split, no trims. -/
def nominalSet : List (Nat × Int) :=
  let ports := (List.range 32).flatMap (fun n => [0, 1].flatMap (fun side => [0, 1, 2].map (fun m => (n, side, m))))
  let t := ports.foldl (fun t p =>
    let rx := Config.fusedCal (calPort p.1 p.2.1 p.2.2 0)
    calPut (calPut t (calPort p.1 p.2.1 p.2.2 0) rx) (calPort p.1 p.2.1 p.2.2 1) (nominalSum p.2.2 - rx)) []
  let t := (List.range 16).foldl (fun t n =>
    calPut (calPut t (calTioIn n) (Config.fusedCal (calTioIn n))) (calTioOut n)
      (Config.fusedCal (calTioIn n) + Config.fusedCal (calTioOut n))) t
  let t := (List.range 8).foldl (fun t n => calPut t (calCko n) (Config.fusedCal (calLine 1) + Config.fusedCal (calCko n))) t
  (List.range 3).foldl (fun t i => calPut t (calLine i) (Config.fusedCal (calLine i))) t

/-- The set in force after step 8: the valid copy with the higher generation, or the nominal values. Its ATEMP offset crosses to the
Atoll like that of a run (R328). -/
def State.loadCal (s : State) : State :=
  let s := s.nvWords (calCopyWord 0) 8192
  let torn := s.tornCopies
  let s := if torn.isEmpty then s else s.raise F.CAL_EVT_COPY_TORN
  if torn.length = 2 then
    { s.raise F.CAL_STAT_NO_COPY with cal := { s.cal with set0 := nominalSet, cur := false, fromCopy := false }
                                      ato := { s.ato with atempNext := some 0 } }
  else
    let k := if torn = [0] then 1 else if torn = [1] then 0 else if (s.copyAt 0).gen < (s.copyAt 1).gen then 1 else 0
    let c := s.copyAt k
    { (s.set F.CAL_STAT_COPY k).set F.CAL_GEN_GEN c.gen with
      cal := { s.cal with set0 := c.vals, cur := false, fromCopy := true }
      ato := { s.ato with atempNext := some (calGet c.vals (calTrim 16)) } }

/-- The learned table from its newest mirror copy, where retention has lost it (R243): whole, or point by point; with no copy a lost point
is not learned. DESIGN CHOICE (assumption 15): a copy with an uncorrectable word is not used. -/
def State.loadMirror (s : State) : State :=
  let s := s.nvWords (sectorWord 800) 512
  let best := (s.ato.mirror.filter (fun p => !s.nvDead (sectorWord p.1) 256)).foldl (fun (b : Option (Nat × List Nat)) p => match b with
    | none => some p.2
    | some x => if x.1 < p.2.1 then some p.2 else b) none
  let word (i : Nat) : Nat := match best with
    | some x => x.2.getD i 0
    | none => 0
  let all := !s.on F.AT_STAT_TBL_VALID
  let t := (List.range 64).foldl (fun (t : State) i => if all || s.ato.lost.testBit i then t.setPoint i (word i) else t) s
  let t : State := { t with ato := { t.ato with lost := 0 } }
  if all then (if best.isSome then t.raise F.AT_RETAIN_TBL_RESTORED else t).raise F.AT_STAT_TBL_VALID else t

/-! ### Step 8: the recorder (R307, R319) -/

/-- The newest committed record of main NVM. -/
def State.newestRec (s : State) : Option Bytes :=
  s.recd.slots.foldl (fun (b : Option Bytes) p => match b with
    | none => some p.2
    | some x => if recSeqOf x < recSeqOf p.2 then some p.2 else b) none

/-- The map copies and the first words of the slots are read (R318, R319). A slot whose first word is uncorrectable is empty, and its other
words are not zeros. DESIGN CHOICE (assumption 31): a map copy with an uncorrectable word is not used, and the search reads the first word
of every slot that is written. -/
def State.findRecords (s : State) : State :=
  let s := s.nvWords (sectorWord (mapSector 0)) 512
  let s := s.recd.slots.foldl (fun (s : State) p => s.nvWords (recordWord p.1) 1) s
  let lost := (s.recd.slots.map Prod.fst).filter (fun k => s.nvDead (recordWord k) 1)
  { s with recd := { s.recd with
      maps := s.recd.maps.filter (fun p => !s.nvDead (sectorWord (mapSector p.1)) 256)
      slots := s.recd.slots.filter (fun p => !lost.contains p.1)
      torn := lost.foldl (fun t k => Store.set false t k true) s.recd.torn } }

/-- The bad-sector map, the write head, SEQ, a torn slot, and the standby counters where they are not current. -/
def State.loadRecorder (s : State) : State :=
  let s := s.findRecords
  let m := s.recd.maps.foldl (fun (b : BadMap) p => if b.gen < p.2.gen then p.2 else b) ⟨0, 0⟩
  let s := { s with recd := { s.recd with mapBits := m.map } }.set F.REC_MAPGEN_MAPGEN m.gen
  let s := s.setHead (match s.newestCirc with
    | some k => s.afterSlot k
    | none => s.headSlot)
  let s := s.recCounts.badCounts
  let s := s.set F.REC_SEQ_SEQ (match s.newestRec with
    | some b => recSeqOf b + 1
    | none => 0)
  let h := s.headSlot
  let s := if (s.slot h).isEmpty && Store.get false s.recd.torn h then s.raise F.REC_EVT_TORN else s
  let s := if s.on F.REC_STATUS_SB_VALID then s
    else
      let b := s.newestRec.getD []
      ((s.set F.REC_OPSEC_OPSEC (leAt b 12 5)).set F.REC_PCC_PCC (leAt b 17 4)).raise F.REC_STATUS_SB_VALID
  s.recReview

/-! ### Steps 8 and 9 (R29, R335) -/

/-- A word that the loading of step 8 reads is being programmed (R401): one of a profile that it comes to check. -/
def State.loadBusy (s : State) : Bool :=
  let k := s.get F.GLB_PROF_NEXT
  let j := s.get F.GLB_PROF_STBY_PROF
  s.profBusy k || ((s.checkProf k).1 ≠ 0 && (s.profBusy j || ((s.checkProf j).1 ≠ 0 && s.profBusy 0)))

/-- The loading of step 8: the profile, the recorder, the calibration copy and the mirror. -/
def State.loadAll (s : State) : State :=
  let s := ((s.loadProfile.claimPools.loadRecorder).loadCal).loadMirror
  let s := s.forPorts s.fuses.variant.ports (fun n s => s.eqReview n)
  { s with pwr := { s.pwr with loadWait := false } }

/-- Step 8 begins: it loads, or waits for the program of a word that it reads. -/
def State.step8 (s : State) : State := if s.loadBusy then { s with pwr := { s.pwr with loadWait := true } } else s.loadAll

/-- T4: step 8 has ended, every port in CAL, and the run with REF_ALIGN where the reference is qualified. The interval of the periodic
runs counts from here (assumption 10). -/
def State.startCal (s : State) : State :=
  let v := s.fuses.variant
  let s := s.forPorts v.ports (fun n s => s.calTake n)
  let q := s.on F.CAL_REFMON_REF_QUAL
  let t := s.startRun ⟨1, if q then 15 else 7, 2 ^ v.ports - 1, false, false, q, none⟩
  { t with pwr := { t.pwr with step8 := true }, cal := { t.cal with perAt := s.get F.REC_OPSEC_OPSEC } }

/-- MAIN_RESET_RELEASE (R278, R280, R408): step 7 and the start of step 8. DESIGN CHOICE (assumption 51): the loading of step 8, at
most 4 ms from here, is one effect with the release, and ends as a step at POWER_UP_CAL_START. `nvm` are words of main NVM in which bits
in error have come about since the last row that read them. -/
def execMainResetRelease (s : State) (nvm : List (Nat × Nat) := []) : Result :=
  .next (if s.stbyUp && s.coreGood && s.pwr.synStarted && !s.pwr.mrHeld && !s.pwr.scanHeld && !s.pwr.mainRun then (s.nvTold nvm).releaseMain.step8 else s)

/-- POWER_UP_CAL_START (R335): step 8 ends, after a loading that waited (R401), and step 9 begins. -/
def execPowerUpCalStart (s : State) : Result :=
  .next (if s.mainUp && !s.pwr.step10 && s.cal.run.isNone then
      (if !s.pwr.loadWait then s.startCal
       else if s.loadBusy then s
       else s.loadAll.startCal)
    else s)

/-! ### Step 10 (R29, R30, R235, R252, R258, R307, R311, R344) -/

/-- The Atoll may seed the timebase (R30). -/
def State.seedable (s : State) : Bool :=
  s.pwr.aonUp && !s.on F.AT_STAT_CELL_LOSS && !s.on F.AT_STAT_APOR && !s.on F.MON_AT_STAT_CAL_INV

/-- The seed at the Atoll edge captured by its line at raw time `edge`, on which the counter stands as it does now. -/
def State.seed (s : State) (edge : Raw) : State :=
  let edge := s.atollEdge edge
  let t := roundEven s.atollTime26 (2 ^ 26)
  let s := s.set F.AT_OUTAGE_OUTAGE (min (s.tai - s.ato.hb) (2 ^ 32 - 1))
  (s.enterTb tbSeeded).beginEpoch kSeed edge (t - s.zt edge)

/-- The first heartbeat of this main run. -/
def State.firstBeat (s : State) : State :=
  if s.pwr.aonUp then { s.raise F.AT_STAT_MAIN with ato := { s.ato with hb := s.tai } } else s

/-- APOR found set is a detection of MS2 with detail CELL_LOSS; then APOR clears. -/
def State.reportCell (s : State) : State :=
  if !s.on F.AT_STAT_APOR then s
  else
    let s := s.detect 2 s.pwr.us
    let s := { s with ato := { s.ato with cellDetail := s.ato.members.testBit 2 } }
    s.lower F.AT_STAT_APOR

/-- The newest committed record is a DOWN record of the power-up before. -/
def State.prevDown (s : State) : Bool :=
  match s.newestRec with
  | some b => decide (leAt b 6 2 = trDown) && decide (leAt b 17 4 + 1 = s.get F.REC_PCC_PCC)
  | none => false

/-- DETAIL of the POWER_UP record. -/
def State.powerUpDetail (s : State) (apor : Bool) : Nat :=
  b2n apor + 2 * s.get F.AT_RETAIN_COLLAPSE + 4 * s.get F.AT_RETAIN_LOGFAIL + 8 * s.get F.GLB_PROF_FB
    + 16 * s.get F.TB_STATUS_UNTRACED + 32 * s.get F.REC_EVT_TORN + 64 * b2n s.prevDown + 128 * s.get F.GLB_PROF_LOAD_PROF
    + 2 ^ 16 * s.get F.AT_LOG_PTR_OVF

/-- The unimported backup log entries, oldest first, as the IMPORT record holds them. -/
def State.importArea (s : State) : Bytes :=
  let n := s.get F.AT_LOG_PTR_NEW
  padTo 512 ((List.range n).flatMap (fun i => le 8 (s.get F.AT_LOG_ENTRY ((s.get F.AT_LOG_PTR_HEAD + 64 - n + i) % 64))))

/-- The recorder becomes ready: its first interval begins, and the POWER_UP and IMPORT records are staged. -/
def State.recStart (s : State) (apor : Bool) : State :=
  let s := (s.raise F.REC_STATUS_READY).recInterval
  let s := s.recTrigger trPowerUp (s.powerUpDetail apor)
  let n := s.get F.AT_LOG_PTR_NEW
  if n = 0 then s else s.recStage 2 trImport (n + 2 ^ 16 * s.get F.AT_LOG_PTR_OVF) false s.importArea

/-- The CAL triggers of step 10: what the power-up run found and what step 8 found of the copies. -/
def State.calTriggers (s : State) (a : RunAcc) (changed : Bool) (torn : List Nat) : State :=
  let s := a.fails.foldl (fun s f => s.recTrigger trCal (2 + 16 * f.1 + 256 * f.2.2 + 4096 * f.2.1)) s
  let s := s.recTrigger trCal (1 + 4096 * min a.failed 4095)
  let s := if changed then s.recTrigger trCal 6 else s
  let s := torn.foldl (fun (s : State) k => s.recTrigger trCal (3 + 2 ^ 11 * k)) s
  if torn.length = 2 then s.recTrigger trCal 5 else s

/-- Step 10 after the power-up run. -/
def State.step10 (s : State) (edge : Raw) (a : RunAcc) (changed : Bool) (torn : List Nat) : State :=
  let s := s.incr F.REC_PCC_PCC
  let apor := s.on F.AT_STAT_APOR
  let s := if s.seedable then s.seed edge else s
  let s := s.firstBeat.reportCell
  let s := (s.recStart apor).calTriggers a changed torn
  let s := { s.raise F.HIF_STATUS_READY with pwr := { s.pwr with step10 := true } }
  s.deliverDefer

/-- Time up to the edge that the seed takes: raw time `edge`, and `cycles` untrimmed cycles of the Atoll. -/
def State.toSeedEdge (s : State) (edge : Raw) (cycles : Nat) : State :=
  let s := s.reach edge
  if s.pwr.aonUp then s.atollRun cycles else s

/-- The power-up run ends: its results, and the release of the ports. -/
def State.endPowerUp (s : State) (r : CalRun) (units : List CalUnit) (hits : List CalHits := []) : State :=
  let s := s.calFinish.endRun r units hits
  s.forPorts s.fuses.variant.ports (fun n s => s.calRelease n)

/-- POWER_UP_CAL_END (R328, R335): the run's measurements, the raw time of the untrimmed Atoll edge captured for the seed, and the
untrimmed cycles since the Atoll's last event; `sw` is a raw time in the SCLK cycle after the run's validation ended, in which the sets
switch, before the seed. -/
def execPowerUpCalEnd (units : List CalUnit) (edge : Raw) (cycles : Nat) (s : State) (hits : List CalHits := []) (sw : Raw := 0) : Result :=
  .next (match s.cal.run with
    | none => s
    | some r =>
      if r.kind ≠ 1 || s.pwr.step10 then s
      else
        let p := s.reach sw
        let q := p.endPowerUp r units hits
        let a := p.calFinish.measure r units hits
        (q.toSeedEdge edge cycles).step10 edge a (decide (q.on F.TB_STATUS_UNTRACED ≠ p.on F.TB_STATUS_UNTRACED)) p.tornCopies)

end Sys2Proof.Machine
end

