-- ==== Sys2Proof/Machine/Service.lean ====
section
/-!
DEFINITION. Meanings of the rows of standby-NVM programming, the test block, boundary scan, partition service mode and PROF_SELECT
(R400 to R412).
-/
namespace Sys2Proof.Machine

/-! ### PROF_SELECT (R400) -/

/-- PROF_SELECT runs: a loadable profile becomes NEXT; else BAD_PARAM with the reason code of R397. It waits for a program of a word that it
reads (R401). -/
def State.selectProf (s : State) (c : Cmd) : State :=
  let k := c.a.toNat % 4
  if s.profBusy k then { s with snvm := { s.snvm with selects := s.snvm.selects ++ [c] } }
  else
    let r := s.checkProf k
    if r.1 = 0 then c.done (r.2.set F.GLB_PROF_NEXT k) stOk else c.done r.2 stBadParam r.1

/-- PROF_SELECT (R400). -/
def execProfSelect (c : Cmd) (s : State) : Result := .next (c.run s ⟨true, false⟩ (c.reservedOk 3 0 0 false) (fun s => s.selectProf c))

/-! ### Standby NVM (R401, R402) -/

/-- SNVM_KEY_WRITE (R401). -/
def execSnvmKeyWrite (ag : Agent) (v : Word) (s : State) : Result := .next (s.busWrite ag 0x80 v.toNat)

/-- SNVM_PROG (R401): GLB_SNVM_CMD. -/
def execSnvmProg (ag : Agent) (v : Word) (s : State) : Result := .next (s.busWrite ag 0x98 v.toNat)

/-- SNVM_READ (R402): GLB_SNVM_CMD. -/
def execSnvmRead (ag : Agent) (v : Word) (s : State) : Result := .next (s.busWrite ag 0x98 v.toNat)

/-- The word holds these octets, correctable or not. -/
def State.snvmStore (s : State) (w : Nat) (b : Bytes) (bad : Bool) : State :=
  { s with snvm := { s.snvm with data := s.snvm.data.writeN (16 * w) b, bad := Store.set false s.snvm.bad w bad
                                 weak := Store.set 0 s.snvm.weak w 0 } }

/-- The PROF_SELECT commands that waited for a program, where no reset has taken them meanwhile. -/
def State.waitingSelects (s : State) : State :=
  s.snvm.selects.foldl (fun (s : State) c => c.resume s (fun s => s.selectProf c)) { s with snvm := { s.snvm with selects := [] } }

/-- SNVM_PROG_DONE (R401): the word is programmed and verified; what a failed program leaves in it is free. Reads that waited are
made. -/
def execSnvmProgDone (ok : Bool) (s : State) : Result :=
  .next (match s.snvm.op with
    | none => s
    | some (w, b) =>
      let s := if ok then s.snvmStore w b false
        else
          let (x, s) := s.free
          (s.snvmStore w (le 16 (x / 2)) (decide (x % 2 = 1)))
      let s := { s with snvm := { s.snvm with op := none } }
      let s := s.waitingSelects
      if !s.mainUp then s
      else
        let s := if ok then s else s.raise F.GLB_SNVM_CMD_FAIL
        let rd := s.snvm.rd
        let s := { s.lower F.GLB_SNVM_CMD_BUSY with snvm := { s.snvm with rd := false } }
        if rd then s.snvmFetch else s)

/-! ### Test block (R404, R405) -/

/-- TST_KEY_WRITE (R404). -/
def execTstKeyWrite (ag : Agent) (v : Word) (s : State) : Result := .next (s.busWrite ag 0x110000 v.toNat)

/-- FORCE_UNLOCK (R405): TST_SYN. -/
def execForceUnlock (ag : Agent) (v : Word) (s : State) : Result := .next (s.busWrite ag 0x110034 v.toNat)

/-- ECC_ARM (R405): TST_ECC_CTRL. -/
def execEccArm (ag : Agent) (v : Word) (s : State) : Result := .next (s.busWrite ag 0x110024 v.toNat)

/-! ### Boundary scan (R407, R408) -/

/-- The instructions that hold the main domain in main reset: EXTEST, CLAMP, HIGHZ, EXTEST_PULSE, EXTEST_TRAIN. -/
def scanHolds (code : Nat) : Bool := code = 0 || code = 3 || code = 4 || code = 5 || code = 6

/-- The instruction that a code acts as: private codes act as BYPASS. -/
def scanInstr (code : Nat) : Nat := if code ≤ 6 then code else 0xFF

/-- What the instruction IDCODE shows (R407): 1, the JEDEC identity, ID_PART and the low bits of ID_REV. -/
def State.idcode (s : State) : Nat :=
  1 + 2 * Config.jedec.toNat + 2 ^ 12 * (s.peek 0x0 % 2 ^ 16) + 2 ^ 28 * (s.peek 0x4 % 2 ^ 4)

/-- The balls and lanes that the boundary register has cells for (R408). -/
inductive Ball where
  | hostRx (n : Nat) | hostTx (n : Nat) | lineRx (n : Nat) | lineTx (n : Nat) | pcieRx (n : Nat) | pcieTx (n : Nat)
  | calrefClk | calrefPps | perstN | scl | sda | alertN | profsel (n : Nat) | lockf | cko (n : Nat) | tio (n : Nat)
  | seqSync | seqCi | seqCo | pwrbtnN | mrN | rstOutN | en (n : Nat)
  deriving DecidableEq, Repr

/-- The boundary register of a part, one cell to a ball or lane (R408, R437, R438): no cell for the analog balls and those of the Atoll.
DESIGN CHOICE (assumption 11): the cells' order, and no cell for PCIE_REFCLK, which is neither a digital ball nor a lane, and for the
port's own five balls. -/
def boundaryCells (v : Variant) : List Ball :=
  let each (k : Nat) (f : Nat → Ball) := (List.range k).map f
  each v.ports .hostRx ++ each v.ports .hostTx ++ each v.ports .lineRx ++ each v.ports .lineTx ++ each v.lanes .pcieRx
    ++ each v.lanes .pcieTx ++ [.calrefClk, .calrefPps, .perstN, .scl, .sda, .alertN] ++ each 2 .profsel
    ++ (if v = .zn4832 then [] else [.lockf]) ++ each v.ckos .cko ++ each v.tios .tio
    ++ [.seqSync, .seqCi, .seqCo, .pwrbtnN, .mrN, .rstOutN] ++ each v.rails .en

/-- The ball stays under the sequencer in every instruction: its cell only observes (R408). -/
def Ball.observeOnly : Ball → Bool
  | .en _ | .seqSync | .rstOutN => true
  | _ => false

/-- The device drives the ball, so that its cell may. -/
def Ball.output : Ball → Bool
  | .hostTx _ | .lineTx _ | .pcieTx _ | .sda | .alertN | .lockf | .cko _ | .tio _ | .seqCo => true
  | _ => false

/-- What drives a ball: the device's own function, its boundary cell, or nothing. -/
inductive BallSource where
  | function
  | cell (v : Bool)
  | released
  deriving DecidableEq, Repr

/-- What drives the ball of boundary cell `k` under the instruction in force (R407, R408): EXTEST, CLAMP, EXTEST_PULSE and EXTEST_TRAIN
drive outputs from their cells, HIGHZ releases them. -/
def State.ballSource (s : State) (k : Nat) : BallSource :=
  match (boundaryCells s.fuses.variant)[k]? with
  | none => .function
  | some b =>
    if !b.output || b.observeOnly || !scanHolds s.jtag then .function
    else if s.jtag = 4 then .released
    else .cell (Store.get false s.scanOut k)

/-- The scans under the instruction in force leave `cells`, (cell number, bit), in the boundary register: EXTEST, SAMPLE/PRELOAD,
EXTEST_PULSE and EXTEST_TRAIN select it (IEEE 1149.1), and only output cells hold what drives a ball. -/
def State.scanShift (s : State) (cells : List (Nat × Bool)) : State :=
  if s.jtag = 0 || s.jtag = 1 || s.jtag = 5 || s.jtag = 6 then
    { s with scanOut := cells.foldl (fun o p =>
        if (boundaryCells s.fuses.variant)[p.1]?.any (fun b => b.output && !b.observeOnly) then Store.set false o p.1 p.2 else o) s.scanOut }
  else s

/-- JTAG_INSTRUCTION (R407, R408): the port works while VDD_IO and VDD_CORE are good; `cells` are what the scans before it left in the
boundary register. -/
def execJtagInstruction (code : Byte) (s : State) (cells : List (Nat × Bool) := []) : Result :=
  .next (if !s.stbyUp || !s.scanUp then s
         else
           let s := s.scanShift cells
           let s := { s with jtag := scanInstr code.toNat }
           if scanHolds code.toNat then
             (let s := if s.mainUp then s.mainReset false else s
              { s with pwr := { s.pwr with scanHeld := true } })
           else s)

/-- TEST_LOGIC_RESET (R408): the instruction becomes IDCODE and the main domain may leave reset. -/
def execTestLogicReset (s : State) : Result := .next { s with jtag := 0x02, pwr := { s.pwr with scanHeld := false } }

/-! ### Partition service mode (R409 to R412) -/

/-- PSM_CTRL_WRITE (R409). -/
def execPsmCtrlWrite (ag : Agent) (v : Word) (s : State) : Result := .next (s.busWrite ag 0x1C0000 v.toNat)

/-- ENTER (R409): a 1 to PSM_Qq_CMD. -/
def execEnter (ag : Agent) (q : Nat) (s : State) : Result := .next (s.busWriteAt ag 0x1C0100 16 4 q 1)

/-- EXIT (R409): a 2 to PSM_Qq_CMD. -/
def execExit (ag : Agent) (q : Nat) (s : State) : Result := .next (s.busWriteAt ag 0x1C0100 16 4 q 2)

/-- PSM_UCODE_WORD (R411). -/
def execPsmUcodeWord (ag : Agent) (q : Nat) (v : Word) (s : State) : Result := .next (s.busWriteAt ag 0x1C0108 16 4 q v.toNat)

end Sys2Proof.Machine
end

