-- ==== Sys2Proof/Machine/Spx.lean ====
section
/-!
DEFINITION. Meanings of the SPX rows: discovery, session timers, blocks, exchanges, routes and the SPX commands (R126 to R150).
-/
namespace Sys2Proof.Machine

/-- Port `n` may act: the main domain runs and the port is bonded. -/
def State.portUp (s : State) (n : Nat) : Bool := s.mainUp && s.bonded n

/-- DISCOVERY_FRAME_RX (R127, R128): a frame with EtherType 0x88B5 from the line. A damaged frame is none (R74). -/
def execDiscoveryFrameRx (n : Nat) (f : RxFrame) (s : State) : Result :=
  .next (if s.portUp n && s.spxLive n && !s.damaged n .line f && fcsOk f.data then s.rxDisc n f.data else s)

/-- HELLO_TIMER (R128). -/
def execHelloTimer (n : Nat) (s : State) : Result :=
  .next (if s.sess n ≠ sessProbe then s
         else if 8 ≤ (s.spx n).hellos then (s.raise F.SPX_EVT_DISC_FAIL n).endSess n sessWait
         else s.hello n)

/-- CAPS_SEND_TIMER (R128). -/
def execCapsSendTimer (n : Nat) (s : State) : Result := .next (s.sendCaps n)

/-- CAPS_TIMEOUT (R128). -/
def execCapsTimeout (n : Nat) (s : State) : Result := .next (if s.sess n = sessCaps then s.capsFail n else s)

/-- CAPS_RX (R130). -/
def execCapsRx (n : Nat) (b : SpxBlock) (s : State) (wrong : Nat := 0) : Result :=
  .next (if s.portUp n then s.rxDecoded n b wrong else s)

/-- SPX_MARK_DUE (R134): in RUN, at the idle block captured as `st`, the period has elapsed since the previous MARK or a phase step
made it due (R139); the block carries the MARK unless an item that ranks before it is ready. -/
def execSpxMarkDue (n : Nat) (st : Stamp) (s : State) : Result := .next (if s.markDue n st.w then s.fillIdle n st else s)

/-- SPX_EXCHANGE_RX (R135): the blocks of an exchange in order of arrival. -/
def execSpxExchangeRx (n : Nat) (bs : List SpxBlock) (s : State) (wrong : List Nat := []) : Result :=
  .next (if s.portUp n then bs.zipIdx.foldl (fun s b => s.rxDecoded n b.1 (wrong.getD b.2 0)) s else s)

/-- RR_FAIL (R145 step 5). -/
def execRrFail (n : Nat) (s : State) : Result :=
  .next (if s.on F.SPX_STATUS_ROUTE_PEND n && !s.on F.SPX_STATUS_RRT_HOLD n then
           ((s.raise F.SPX_STATUS_RR_FAIL n).raise F.SPX_EVT_RR_FAIL n).lower F.SPX_STATUS_ROUTE_PEND n
         else s)

/-- SPX_STATUS_WORD_RX (R135). -/
def execSpxStatusWordRx (n : Nat) (b : SpxBlock) (s : State) (wrong : Nat := 0) : Result :=
  .next (if s.portUp n then s.rxDecoded n b wrong else s)

/-- SPX_NACK_RX (R149). -/
def execSpxNackRx (n : Nat) (b : SpxBlock) (s : State) (wrong : Nat := 0) : Result :=
  .next (if s.portUp n then s.rxDecoded n b wrong else s)

/-- MARK_SILENCE (R128). -/
def execMarkSilence (n : Nat) (s : State) : Result :=
  .next (if s.sess n = sessRun then (s.raise F.SPX_EVT_SESS_DOWN n).reProbe n else s)

/-- WAIT_EXPIRY (R128). -/
def execWaitExpiry (n : Nat) (s : State) : Result := .next (if s.sess n = sessWait then s.reProbe n else s)

/-- FALLBACK_EXPIRY (R128). -/
def execFallbackExpiry (n : Nat) (s : State) : Result := .next (if s.sess n = sessFallback then s.reProbe n else s)

/-- SPX_STARVED (R143): 16 complete exchanges in a row are needed from here. -/
def execSpxStarved (n : Nat) (s : State) : Result :=
  .next (if s.sess n = sessRun then
           (((s.raise F.SPX_STATUS_STARVED n).raise F.SPX_EVT_STARVED n).modSpx n (fun x => { x with okRun := 0 })).srvReview
         else s)

/-- PHASE_AVERAGE (R139). -/
def execPhaseAverage (n : Nat) (raw : Raw) (avg : Int) (s : State) : Result :=
  .next (if s.portUp n && s.live n .line then (s.reach raw).phaseAverage n raw avg else s)

/-- SPX_SET_ASYM (R146). -/
def execSpxSetAsym (c : Cmd) (s : State) : Result :=
  .next (c.run s ⟨true, true⟩ (c.reservedOk 0x11F 0 (2 ^ 64 - 1) false) (fun s =>
    let n := c.a.toNat % 32
    let unc := c.cAt 4 4
    if !s.bonded n || 65535 < unc then c.done s stBadParam
    else
      let s := (s.set F.SPX_FIX_FIX (c.cAt 0 4) n).set F.SPX_UNC_UNC unc n
      let s := if c.a.toNat.testBit 8 then
          (s.modSpx n (fun x => { x with uRoute := 0 })).lower F.SPX_STATUS_ASYM_UNKNOWN n
        else s
      c.done s stOk))

/-- SPX_ACCEPT_ROUTE (R146). -/
def execSpxAcceptRoute (c : Cmd) (s : State) : Result :=
  .next (c.run s ⟨true, true⟩ (c.reservedOk 0x1F 0 0 false) (fun s =>
    let n := c.a.toNat
    if !s.bonded n then c.done s stBadParam
    else if !s.on F.SPX_STATUS_RRT_HOLD n then c.done s stNotReady
    else
      let s := s.lower F.SPX_STATUS_RRT_HOLD n
      c.done (s.modSpx n (fun x => { x with acceptRef := x.lastAgreed })) stOk))

end Sys2Proof.Machine
end

