-- ==== Sys2Proof/Machine/Streams.lean ====
section
/-!
DEFINITION. Meanings of the Strait rows: liveness, training, ingress, egress and SEND_FRAME (R73 to R99).
-/
namespace Sys2Proof.Machine

/-- A direction forwards what it receives (R83, R86): it feeds an egress that forwards. -/
def State.receives (s : State) (n : Nat) (sd : Side) : Bool := s.live n sd && s.forwarding n sd.other

/-- Received fault of a side. -/
def faultFld : Side → Fld
  | .line => F.STR_STATUS_L_FLT
  | .host => F.STR_STATUS_H_FLT

/-- LINE_LIVE (R83). -/
def execLineLive (n : Nat) (sd : Side) (raw : Raw) (s : State) : Result :=
  .next (if s.mainUp && s.bonded n then (s.reach raw).dirLive n sd else s)

/-- LINE_LIVENESS_LOSS (R83): of a direction that is live, or of a receiver that has kept its block lock without being live. -/
def execLineLivenessLoss (n : Nat) (sd : Side) (raw : Raw) (s : State) (cause : LossCause := .blockLock) : Result :=
  .next (if s.mainUp && (s.live n sd || (s.rx n sd).lock) then ((s.reach raw).dirDead n sd cause).lower (faultFld sd) n else s)

/-- TRAINING_ENTRY (R82): three frame markers on side `sd`. -/
def execTrainingEntry (n : Nat) (s : State) (sd : Side := .line) : Result :=
  .next (if s.mainUp && s.bonded n then s.trainPort n sd else s)

/-- LT_TIMEOUT (R82). -/
def execLtTimeout (n : Nat) (s : State) : Result := .next (if s.mainUp && s.bonded n then s.trainEnd n else s)

/-- `k` columns of a gap leave a side's elastic stage. -/
def State.gapRuns (s : State) (n : Nat) (sd : Side) (k : Nat) : State := s.modRx n sd (fun x => { x with gap := x.gap + k })

/-- `k` idle columns of a gap come to the head of a side's elastic stage at `fill` and leave towards the other side (R77). -/
def State.idleIn (s : State) (n : Nat) (sd : Side) (k fill : Nat) : State :=
  let c := s.elasticColumns n fill k (s.rx n sd).gap
  ((s.setFill n sd c.2).emit (.control n sd.other (.idle c.1))).gapRuns n sd c.1

/-- Local or remote fault (R100); the codes are those of IEEE 802.3 (assumption 48). -/
def isFault (d : BitVec 24) : Bool := d = 1 || d = 2

/-- A sequence ordered set at `fill` (R73, R77): an identical repeat counts as idle, so it is deleted above HIGH and duplicated below
LOW. -/
def State.sequenceIn (s : State) (n : Nat) (sd : Side) (d : BitVec 24) (fill : Nat) : State :=
  let pass := Output.control n sd.other (.sequenceOs d)
  let same := decide ((s.rx n sd).lastOs = some d)
  let s := (s.put (faultFld sd) (isFault d) n).modRx n sd (fun x => { x with lastOs := some d })
  if same && decide (s.elasHigh n < fill) then s.setFill n sd (fill - 4)
  else if same && decide (fill < s.elasLow n) then (((s.setFill n sd (fill + 4)).emit pass).emit pass).gapRuns n sd 2
  else ((s.setFill n sd fill).emit pass).gapRuns n sd 1

/-- Control content of a stream (R73, R149) that comes to the head of the elastic stage at `fill`. What is replaced by idle is
replaced before the stage (R80), which may delete it as part of its gap: an SPX block is two columns, another ordered set and LPI
one. -/
def State.controlIn (s : State) (n : Nat) (sd : Side) (c : Control) (fill : Nat) : State :=
  let pass (s : State) : State := ((s.setFill n sd fill).emit (.control n sd.other c)).gapRuns n sd 1
  match c with
  | .sequenceOs d => s.sequenceIn n sd d fill
  | _ =>
    let s := s.modRx n sd (fun x => { x with lastOs := none })
    match c, sd with
    | .idle k, _ => (s.lower (faultFld sd) n).idleIn n sd k fill
    | .spxOs tail, .line => (if tail && s.sessOpen n then s.violation n 3 0 else s).idleIn n sd 2 fill
    | .spxOs _, .host => ((s.bump F.STR_CNT_HOST_SPX_N n).raise F.STR_EVT_HOST_SPX n).idleIn n sd 2 fill
    | .otherOs _ _, .line => (((s.bump F.STR_CNT_UNK_OS_N n).raise F.STR_EVT_UNK_OS n).violation n 3 0).idleIn n sd 1 fill
    | .lpi, _ => ((s.bump F.STR_CNT_LPI_N n).raise F.STR_EVT_LPI n).idleIn n sd 1 fill
    | .shortGap, .line => s.violation n 4 0
    | .shortGap, .host => s
    | _, _ => pass s

/-- The port's own streams: frames and control content that a live direction forwards. -/
def State.ingress (s : State) (n : Nat) (sd : Side) (x : Ingress) (tx : Stamp) : State :=
  if !s.receives n sd then s
  else match x with
    | .frame f =>
      (((s.reach f.stamp.w).lower (faultFld sd) n).modRx n sd (fun r => { r with lastOs := none, gap := 0 })).frameIn n sd f tx
    | .control c fill wrong => s.controlIn n sd (c.decoded (s.fec n sd) wrong) fill
    | .training _ => s

/-- FRAME_INGRESS (R88): a frame or control content on side `sd`; `tx` is the capture of its departure on the other side if it
passes at once. In TRAINING the retimed bits leave bit for bit on the opposite transmitter (R82). -/
def execFrameIngress (n : Nat) (sd : Side) (x : Ingress) (tx : Stamp) (s : State) : Result :=
  .next (if !s.mainUp || !s.bonded n then s
         else if s.pstate n = psTraining then
           (match x with
            | .training bits => s.emit (.retimed n sd.other bits)
            | _ => s)
         else s.ingress n sd x tx)

/-- EGRESS_FRAME_START (R91): the frame boundary captured as `st`. On the line side, where no frame starts, be it that none waits or that
the first may not start yet, the block that is left idle may carry SPX (R134). -/
def execEgressFrameStart (n : Nat) (sd : Side) (st : Stamp) (s : State) : Result :=
  .next (if s.mainUp && s.bonded n && s.forwarding n sd then
           let s := s.reach st.w
           let s := s.settle n
           if sd = .line && !s.frameWaits n .line then s.fillIdle n st
           else
             let t := s.egressStart n sd st
             if sd = .line && (t.egress n sd).busyUntil = (s.egress n sd).busyUntil then t.fillIdle n st else t
         else s)

/-- SEND_FRAME (R90, R99, R117): the command completes when the frame departs. -/
def execSendFrame (c : Cmd) (s : State) : Result :=
  .next (c.run s ⟨false, true⟩ (c.reservedOk 0x3FFF01FF 0 0 true) (fun s =>
    let a := c.a.toNat
    let n := bits a 0 5
    let sd := if a.testBit 5 then Side.host else .line
    let len := bits a 16 14
    if len < 64 || s.eff F.STR_MAXFRM_MAXFRM n < len || !s.bonded n then c.done s stBadParam
    else if !s.forwarding n sd then c.done s stAborted
    else c.xfer s len (fun s =>
      match s.takeFrame n len with
      | none => c.done s stBusy
      | some (cells, s) =>
        let f : PFrame := ⟨c.input s len, [], cells, bits a 6 2, a.testBit 8, none, .host c.src c.tag.toNat c.quiet⟩
        s.modEgress n sd (fun e => { e with inj := e.inj ++ [f] }))))

end Sys2Proof.Machine
end

