-- ==== Sys2Proof/Machine/TimedActions.lean ====
section
/-!
DEFINITION. Meanings of the timed-action rows: commitment, execution, generators, capture and the TA commands (R202 to R226).
-/
namespace Sys2Proof

/-- The agent that issues a command (R223). -/
def Cmd.agent (c : Cmd) : Agent :=
  match c.src with
  | .ring _ => .host
  | .sideband => .sideband

end Sys2Proof

namespace Sys2Proof.Machine

/-! ### Events -/

/-- TA_COMMIT (R204): an occurrence enters the firing stage at raw time `raw`. -/
def execTaCommit (raw : Raw) (s : State) : Result := .next (if s.mainUp then (s.reach raw).commit raw else s)

/-- TA_EXECUTE (R207): the occurrence due at raw time `raw`; `tx` are the captures of its launch slots. -/
def execTaExecute (raw : Raw) (tx : List Stamp) (s : State) : Result := .next (if s.mainUp then (s.reach raw).fireOne raw tx else s)

/-- PG_START (R217). -/
def execPgStart (k : Nat) (s : State) : Result := .next (if k < 16 then s.genStart (8 + k) else s)

/-- CAPTURE_EDGE (R219, R220): `w` is the time that the ball's DLL reads. -/
def execCaptureEdge (ball : Nat) (rising : Bool) (w : Raw) (s : State) : Result :=
  .next (if s.mainUp && decide (ball < s.fuses.variant.tios) then (s.reach w).captureEdge ball rising w else s)

/-- CAPTURE_DELIVERY (R221). -/
def execCaptureDelivery (s : State) : Result := .next (if s.mainUp then s.captureTurn else s)

/-! ### Commands (R202, R210, R214, R225, R226) -/

/-- A refused claim of a command: the owner's ID and the resource index (R224). -/
def State.conflict (s : State) (c : Cmd) (i : Nat) : State := c.done s stClaimConflict (s.owner i + 65536 * i)

/-- The first part of the entries whose resource is not in the mode it needs, or is not held for the agent (R202). -/
def State.partConflict (s : State) (ag : Agent) (l : List Action) : Option Part :=
  (l.flatMap Action.parts).find? (fun p => !s.partMode p || !s.partHeld ag p)

/-- A range of the action table: first index and count from A; none outside the table or above `most`. -/
def actionRange (a most : Nat) : Option (Nat × Nat) :=
  let first := bits a 0 14
  let n := bits a 16 15
  if n = 0 || most < n || 16384 < first + n then none else some (first, n)

/-- TA_ARM (R202). -/
def execTaArm (c : Cmd) (s : State) : Result :=
  .next (c.run s ⟨true, true⟩ (c.reservedOk 0x7FFF3FFF 0 0 true) (fun s =>
    match actionRange c.a.toNat 256 with
    | none => c.done s stBadParam
    | some (first, n) => c.xfer s (64 * n) (fun s =>
      let b := c.input s (64 * n)
      let l := (List.range n).map (fun i => s.parseAction (sub b (64 * i) 64))
      if l.any (fun x => !x.1) then c.done s stBadParam
      else match s.partConflict c.agent (l.map Prod.snd) with
        | some p => s.conflict c p.claim
        | none => c.done (s.armAll first (l.map Prod.snd)).countArmed stOk)))

/-- TA_DISARM (R226). -/
def execTaDisarm (c : Cmd) (s : State) : Result :=
  .next (c.run s ⟨true, true⟩ (c.reservedOk 0x7FFF3FFF 0 0 false) (fun s =>
    match actionRange c.a.toNat 16384 with
    | none => c.done s stBadParam
    | some (first, n) => let r := s.disarm first n
                         c.done r.2 stOk r.1))

/-- TA_QUERY (R226); a table word that cannot be read ends it with ABORTED (R386). -/
def execTaQuery (c : Cmd) (s : State) : Result :=
  .next (c.run s ⟨false, true⟩ (c.reservedOk 0x7FFF3FFF 0 0 true) (fun s =>
    match actionRange c.a.toNat 256 with
    | none => c.done s stBadParam
    | some (first, n) => c.xfer s 0 (fun s =>
      let r := s.readWords (actionKey first) (4 * n)
      if r.1 then c.done r.2 stAborted 2
      else c.deliver r.2 ((List.range n).flatMap (fun i => (s.action (first + i)).bytes)) stOk)))

/-- LQ_ENQUEUE (R99, R210). -/
def execLqEnqueue (c : Cmd) (s : State) : Result :=
  .next (c.run s ⟨false, true⟩ (c.reservedOk 0x3FFF007F 0 0x0FFFC00F true) (fun s =>
    let a := c.a.toNat
    let q := bits a 0 7
    let n := q / 4
    let len := bits a 16 14
    let fl := c.cAt 0 4
    let stamp := fl.testBit 3
    let ofs := bits fl 14 14
    if !s.bonded n || len < 64 || s.eff F.STR_MAXFRM_MAXFRM n < len || !s.on F.TA_LQ_CTRL_EN q
        || (stamp && (ofs < 14 || len < ofs + 16)) then c.done s stBadParam
    else if s.eff F.TA_LQ_CTRL_DEPTH q ≤ (s.lq q).frames.length then c.done s stBusy
    else c.xfer s len (fun s =>
      match s.takeFrame n len with
      | none => c.done s stBusy
      | some (cells, s) =>
        let f : PFrame := ⟨c.input s len, [], cells, bits fl 0 2, fl.testBit 2, if stamp then some ofs else none, .launch q⟩
        let s := s.describe cells
        let x := s.lq q
        c.done (s.setLq q { x with frames := x.frames ++ [f] }) stOk)))

/-- LQ_FLUSH (R214). -/
def execLqFlush (c : Cmd) (s : State) : Result :=
  .next (c.run s ⟨false, true⟩ (c.reservedOk 0x7F 0 0 false) (fun s =>
    let q := c.a.toNat
    if !s.bonded (q / 4) then c.done s stBadParam
    else let r := s.lqDiscard q true
         c.done r.2 stOk r.1))

/-- TA_CLAIM_BREAK (R225). -/
def execTaClaimBreak (c : Cmd) (s : State) : Result :=
  .next (c.run s ⟨true, true⟩ (c.reservedOk 0xFF 0 0 false) (fun s =>
    let i := c.a.toNat
    if !s.claimable i then c.done s stBadParam else c.done (s.breakClaim i) stOk))

end Sys2Proof.Machine
end

