-- ==== Sys2Proof/Machine/Sideband.lean ====
section
/-!
DEFINITION. Meanings of the sideband's rows (R371 to R375, R392): its SMBus transactions, the executor's commands and ALERT_N.
-/
namespace Sys2Proof.Machine

/-- The sideband answers: from start-up step 4, when the cascade position is known or found in error (R29, R267, R371). -/
def State.sbAnswers (s : State) : Bool := s.stbyUp && (s.sq.learned || s.on F.SQ_STATUS_CASC_ERR)

/-- A write transaction (R371): refused with BAD_PARAM without a correct PEC where one is required. -/
def State.sbTransact (s : State) (pec : Bool) (k : State → State) : State :=
  if !s.sbAnswers then s
  else if !pec && s.on F.HIF_SB_CTRL_PEC_REQ then s.sbRefuse stBadParam
  else k s

/-- The command codes of R372. -/
def sbCodes : List Nat := [0x01, 0x02, 0x03, 0x04, 0x10, 0x11, 0x12, 0x20, 0x21, 0x30]

/-- SB_REGISTER_WRITE (R374): code 0x01. A code that R372 does not list is NACKed with BAD_OPCODE; the others it lists are rows of
their own. -/
def execSbRegisterWrite (addr : Nat) (v : Word) (pec : Bool) (s : State) (code : Nat := 1) : Result :=
  .next (if code = 1 then s.sbTransact pec (fun s => s.busWrite .sideband addr v.toNat)
         else if sbCodes.contains code || !s.sbAnswers then s
         else s.sbRefuse stBadOpcode)

/-- SB_SET_READ_ADDRESS (R372): code 0x02. -/
def execSbSetReadAddress (addr : Nat) (pec : Bool) (s : State) : Result :=
  .next (s.sbTransact pec (fun s => { s with sb := { s.sb with readAddr := addr % 2 ^ 32 } }))

/-- SB_REGISTER_READ (R372): code 0x03; the address advances by 4. -/
def execSbRegisterRead (s : State) : Result :=
  .next (if !s.sbAnswers then s
         else
           let r := s.sbRead s.sb.readAddr
           { r.2 with sb := { r.2.sb with readAddr := (s.sb.readAddr + 4) % 2 ^ 32 } }.emit (.sbData (le 4 r.1)))

/-- SB_READ_STATUS (R372): code 0x04. -/
def execSbReadStatus (s : State) : Result :=
  .next (if s.sbAnswers then s.emit (.sbData (le 2 (s.get F.HIF_SB_STAT_LAST))) else s)

/-- SB_SET_MAILBOX_POINTER (R372): code 0x10; the offset is aligned to 16 octets. -/
def execSbSetMailboxPointer (off : Nat) (pec : Bool) (s : State) : Result :=
  .next (s.sbTransact pec (fun s =>
    if off % 16 ≠ 0 then s.sbRefuse stBadParam else { s with sb := { s.sb with mbPtr := off % 65536 } }))

/-- Move the mailbox pointer on. -/
def State.mbAdvance (s : State) (n : Nat) : State := { s with sb := { s.sb with mbPtr := (s.sb.mbPtr + n) % 65536 } }

/-- SB_MAILBOX_WRITE (R372, R392): code 0x11, 16 or 32 octets through port B. A collision at one of its words ends the transaction,
and the words before it stand. -/
def execSbMailboxWrite (data : Bytes) (collides : Option (Nat × Bytes)) (pec : Bool) (s : State) (part : Bool := false) : Result :=
  .next (s.sbTransact pec (fun s =>
    if data.length ≠ 16 && data.length ≠ 32 then s.sbRefuse stBadParam
    else if !s.mainUp then s.sbRefuse stNotReady
    else
      let r := s.portBWrite s.sb.mbPtr data collides part
      if r.1 then r.2.sbRefuse stWriteCollided else r.2.mbAdvance data.length))

/-- SB_MAILBOX_READ (R372, R386): code 0x12, 32 octets; an uncorrectable word gives zeros and ABORTED in LAST. -/
def execSbMailboxRead (s : State) : Result :=
  .next (if !s.sbAnswers then s
         else if !s.mainUp then s.sbRefuse stNotReady
         else
           let b := s.mailboxRead s.sb.mbPtr 32
           let r := s.mailboxCheck s.sb.mbPtr 32
           let t := r.2.mbAdvance 32
           if r.1 then (t.set F.HIF_SB_STAT_LAST stAborted).emit (.sbData (List.replicate 32 0)) else t.emit (.sbData b))

/-! ### The executor (R359, R373) -/

/-- The meaning of an opcode of R359. -/
def cmdMeaning (op : Nat) : Option (Cmd → State → Result) :=
  match op with
  | 0x00 => some execNop
  | 0x01 => some execReset
  | 0x02 => some execProfSelect
  | 0x10 => some execTbRead
  | 0x11 => some execConvert
  | 0x12 => some execAcceptStep
  | 0x18 => some execSendFrame
  | 0x20 => some execSpxSetAsym
  | 0x21 => some execSpxAcceptRoute
  | 0x28 => some execSrvSelect
  | 0x29 => some execSrvPropose
  | 0x2A => some execSrvClrTaint
  | 0x2B => some execPtpSetAnnounce
  | 0x30 => some execTaArm
  | 0x31 => some execTaDisarm
  | 0x32 => some execTaQuery
  | 0x33 => some execLqEnqueue
  | 0x34 => some execLqFlush
  | 0x35 => some execTaClaimBreak
  | 0x40 => some execAtSetTime
  | 0x41 => some execAtSetUtc
  | 0x42 => some execAtKeyWrite
  | 0x43 => some execAtZeroize
  | 0x44 => some execAtTblClear
  | 0x48 => some execSqPowerOn
  | 0x49 => some execSqPowerOff
  | 0x4A => some execSqBtnAck
  | 0x4B => some execSqClearFault
  | 0x4C => some execSqRailOn
  | 0x50 => some execMonSelftest
  | 0x51 => some execMonRaise
  | 0x58 => some execRecRead
  | 0x59 => some execRecMark
  | 0x5A => some execRecSnap
  | 0x60 => some execCalRun
  | _ => none

/-- The command of a 32-octet descriptor (R358) submitted through the sideband. -/
def sbCommand (d : Bytes) (clash : Option (Nat × Bytes) := none) (part : Bool := false) : Cmd :=
  { src := .sideband, flags := BitVec.ofNat 8 (leAt d 1 1), tag := BitVec.ofNat 16 (leAt d 2 2), a := BitVec.ofNat 32 (leAt d 4 4)
    b := BitVec.ofNat 64 (leAt d 8 8), c := BitVec.ofNat 128 (leAt d 16 16), data := [], dmaErr := false, clash, part }

/-- The executor takes a descriptor: an opcode that the table does not list completes with BAD_OPCODE. -/
def State.sbExecute (s : State) (d : Bytes) (clash : Option (Nat × Bytes)) (part : Bool := false) : State :=
  match cmdMeaning (leAt d 0 1) with
  | some f =>
    match f (sbCommand d clash part) s with
    | .next t => t
    | _ => s
  | none => (sbCommand d clash part).run s ⟨false, false⟩ true id

/-- SB_SUBMIT_COMMAND (R372, R373, R392): code 0x20. -/
def execSbSubmitCommand (d : Bytes) (pec : Bool) (s : State) (clash : Option (Nat × Bytes) := none) (part : Bool := false) : Result :=
  .next (s.sbTransact pec (fun s => if d.length ≠ 32 then s.sbRefuse stBadParam else s.sbExecute d clash part))

/-- SB_READ_COMPLETION (R372): code 0x21. -/
def execSbReadCompletion (s : State) : Result :=
  .next (if s.sbAnswers then s.emit (.sbData (le 16 (s.get F.HIF_SB_CMD_CMD))) else s)

/-! ### Alerts (R375) -/

/-- SB_READ_ALERT (R372): code 0x30. -/
def execSbReadAlert (s : State) : Result :=
  .next (if s.sbAnswers then s.emit (.sbData (le 4 (s.get F.HIF_SB_ALERT_ALERT))) else s)

/-- ALERT_RESPONSE_READ (R375): won, the device returns its address and releases ALERT_N. -/
def execAlertResponseRead (won : Bool) (s : State) : Result :=
  .next (if s.sbAnswers && s.alertLow && won then
           { s with sb := { s.sb with araWon := true } }.emit (.sbData [BitVec.ofNat 8 (0x60 + s.get F.SQ_STATUS_POS)])
         else s)

/-- SMBUS_TIMEOUT (R371): the transaction in progress has taken no effect, since every transaction of the model is one row. -/
def execSmbusTimeout (s : State) : Result := .next s

end Sys2Proof.Machine
end

