-- ==== Sys2Proof/Machine/Dispatch.lean ====
section
/-!
DEFINITION. One arm per command: a direct call of its meaning.
-/
namespace Sys2Proof.Machine

/-- The effect of a command on everything but the queue. -/
def exec (i : Instr) (s : State) : Host.Outcome State Fault Refusal :=
  match i with
  | .vstbyRise => Sys2Proof.Machine.execVstbyRise s
  | .standbyResetRelease profsel nvm => Sys2Proof.Machine.execStandbyResetRelease profsel s nvm
  | .seqCiLowDetect => Sys2Proof.Machine.execSeqCiLowDetect s
  | .cascadeTrainSend => Sys2Proof.Machine.execCascadeTrainSend s
  | .cascadeTrainEnd pulses => Sys2Proof.Machine.execCascadeTrainEnd pulses s
  | .vstbyBelow2v8 vbatQualified => Sys2Proof.Machine.execVstbyBelow2v8 vbatQualified s
  | .vstbyAbove2v9 => Sys2Proof.Machine.execVstbyAbove2v9 s
  | .vstbyCollapse => Sys2Proof.Machine.execVstbyCollapse s
  | .collapsedEnd => Sys2Proof.Machine.execCollapsedEnd s
  | .standbyPor => Sys2Proof.Machine.execStandbyPor s
  | .atollPor vstby29 => Sys2Proof.Machine.execAtollPor vstby29 s
  | .atollBrownOut => Sys2Proof.Machine.execAtollBrownOut s
  | .vbatLow mv => Sys2Proof.Machine.execVbatLow mv s
  | .cellDetection us => Sys2Proof.Machine.execCellDetection us s
  | .manualReset => Sys2Proof.Machine.execManualReset s
  | .mrNRise => Sys2Proof.Machine.execMrNRise s
  | .mainReset => Sys2Proof.Machine.execMainReset s
  | .hostInterfaceReset => Sys2Proof.Machine.execHostInterfaceReset s
  | .syn0StartLock late => Sys2Proof.Machine.execSyn0StartLock late s
  | .mainResetRelease nvm => Sys2Proof.Machine.execMainResetRelease s nvm
  | .powerUpCalStart => Sys2Proof.Machine.execPowerUpCalStart s
  | .powerUpCalEnd units edge cycles hits sw => Sys2Proof.Machine.execPowerUpCalEnd units edge cycles s hits sw
  | .rstOutRelease => Sys2Proof.Machine.execRstOutRelease s
  | .sqCommandPulse => Sys2Proof.Machine.execSqCommandPulse s
  | .sqStateEnd low => Sys2Proof.Machine.execSqStateEnd low s
  | .railGood n => Sys2Proof.Machine.execRailGood n s
  | .railPgtoTimeout n => Sys2Proof.Machine.execRailPgtoTimeout n s
  | .goodComparatorChange n good off => Sys2Proof.Machine.execGoodComparatorChange n good s off
  | .railDrop n => Sys2Proof.Machine.execRailDrop n s
  | .railOff n => Sys2Proof.Machine.execRailOff n s
  | .railOffTimeout n => Sys2Proof.Machine.execRailOffTimeout n s
  | .offminEnd => Sys2Proof.Machine.execOffminEnd s
  | .retryClear => Sys2Proof.Machine.execRetryClear s
  | .pwrbtnPress => Sys2Proof.Machine.execPwrbtnPress s
  | .pwrbtnRelease => Sys2Proof.Machine.execPwrbtnRelease s
  | .btnLong => Sys2Proof.Machine.execBtnLong s
  | .ackTimeout => Sys2Proof.Machine.execAckTimeout s
  | .atollSecond cycles edge => Sys2Proof.Machine.execAtollSecond cycles edge s
  | .heartbeat => Sys2Proof.Machine.execHeartbeat s
  | .heartbeatTimeout => Sys2Proof.Machine.execHeartbeatTimeout s
  | .trimInterval cycles atemp us lost => Sys2Proof.Machine.execTrimInterval cycles atemp us s lost
  | .learningMeasurement start stop mean first last => Sys2Proof.Machine.execLearningMeasurement start stop mean s first last
  | .mirrorWrite => Sys2Proof.Machine.execMirrorWrite s
  | .wakePulseEnd => Sys2Proof.Machine.execWakePulseEnd s
  | .wakeRelease ag v => Sys2Proof.Machine.execWakeRelease ag v s
  | .enclSample high us => Sys2Proof.Machine.execEnclSample high us s
  | .meshSample differs us => Sys2Proof.Machine.execMeshSample differs us s
  | .aoscDetection us => Sys2Proof.Machine.execAoscDetection us s
  | .rcRunClear => Sys2Proof.Machine.execRcRunClear s
  | .vgltDetection us => Sys2Proof.Machine.execVgltDetection us s
  | .jtempSample readings us => Sys2Proof.Machine.execJtempSample readings us s
  | .sourceInactive k => Sys2Proof.Machine.execSourceInactive k s
  | .unionClose => Sys2Proof.Machine.execUnionClose s
  | .matrixLogWaitEnd => Sys2Proof.Machine.execMatrixLogWaitEnd s
  | .monUnlock ag v us => Sys2Proof.Machine.execMonUnlock ag v us s
  | .unlockWindowExpiry => Sys2Proof.Machine.execUnlockWindowExpiry s
  | .unlockHoldoffEnd => Sys2Proof.Machine.execUnlockHoldoffEnd s
  | .monStickyClear ag v => Sys2Proof.Machine.execMonStickyClear ag v s
  | .selftestWindowEnd k hit cond us => Sys2Proof.Machine.execSelftestWindowEnd k hit cond us s
  | .govEvaluation readings us => Sys2Proof.Machine.execGovEvaluation readings us s
  | .govBucketAdvance => Sys2Proof.Machine.execGovBucketAdvance s
  | .govShedStep => Sys2Proof.Machine.execGovShedStep s
  | .govRestoreStep => Sys2Proof.Machine.execGovRestoreStep s
  | .recordWriteStart => Sys2Proof.Machine.execRecordWriteStart s
  | .recordCommit failed mapOk => Sys2Proof.Machine.execRecordCommit failed mapOk s
  | .periodic => Sys2Proof.Machine.execPeriodic s
  | .writeCreditAdd => Sys2Proof.Machine.execWriteCreditAdd s
  | .opsecTick => Sys2Proof.Machine.execOpsecTick s
  | .quantitySample q v => Sys2Proof.Machine.execQuantitySample q v s
  | .compactionPass two bad verifyFails count mapFails words => Sys2Proof.Machine.execCompactionPass two bad verifyFails s count mapFails words
  | .refQualified clkErr ppsErr => Sys2Proof.Machine.execRefQualified clkErr ppsErr s
  | .refLossCal clkErr ppsErr => Sys2Proof.Machine.execRefLossCal clkErr ppsErr s
  | .calPeriodicRun => Sys2Proof.Machine.execCalPeriodicRun s
  | .autoTraceRun => Sys2Proof.Machine.execAutoTraceRun s
  | .calRunEnd units hits => Sys2Proof.Machine.execCalRunEnd units s hits
  | .calStoreDone ok => Sys2Proof.Machine.execCalStoreDone ok s
  | .publicationInstant raw => Sys2Proof.Machine.execPublicationInstant raw s
  | .rebase => Sys2Proof.Machine.execRebase s
  | .slewEnd => Sys2Proof.Machine.execSlewEnd s
  | .sourceLoss raw => Sys2Proof.Machine.execSourceLoss raw s
  | .revisionComplete => Sys2Proof.Machine.execRevisionComplete s
  | .lineLive n sd raw => Sys2Proof.Machine.execLineLive n sd raw s
  | .lineLivenessLoss n sd raw cause => Sys2Proof.Machine.execLineLivenessLoss n sd raw s cause
  | .trainingEntry n sd => Sys2Proof.Machine.execTrainingEntry n s sd
  | .ltTimeout n => Sys2Proof.Machine.execLtTimeout n s
  | .frameIngress n sd x tx => Sys2Proof.Machine.execFrameIngress n sd x tx s
  | .egressFrameStart n sd st => Sys2Proof.Machine.execEgressFrameStart n sd st s
  | .ptpMessageRx n f => Sys2Proof.Machine.execPtpMessageRx n f s
  | .ptpMessageDue n msgType => Sys2Proof.Machine.execPtpMessageDue n msgType s
  | .announceExpiry k => Sys2Proof.Machine.execAnnounceExpiry k s
  | .candidateQualify k => Sys2Proof.Machine.execCandidateQualify k s
  | .wtrExpiry => Sys2Proof.Machine.execWtrExpiry s
  | .discoveryFrameRx n f => Sys2Proof.Machine.execDiscoveryFrameRx n f s
  | .helloTimer n => Sys2Proof.Machine.execHelloTimer n s
  | .capsSendTimer n => Sys2Proof.Machine.execCapsSendTimer n s
  | .capsTimeout n => Sys2Proof.Machine.execCapsTimeout n s
  | .capsRx n b wrong => Sys2Proof.Machine.execCapsRx n b s wrong
  | .spxMarkDue n st => Sys2Proof.Machine.execSpxMarkDue n st s
  | .spxExchangeRx n bs wrong => Sys2Proof.Machine.execSpxExchangeRx n bs s wrong
  | .rrFail n => Sys2Proof.Machine.execRrFail n s
  | .spxStatusWordRx n b wrong => Sys2Proof.Machine.execSpxStatusWordRx n b s wrong
  | .spxNackRx n b wrong => Sys2Proof.Machine.execSpxNackRx n b s wrong
  | .markSilence n => Sys2Proof.Machine.execMarkSilence n s
  | .waitExpiry n => Sys2Proof.Machine.execWaitExpiry n s
  | .fallbackExpiry n => Sys2Proof.Machine.execFallbackExpiry n s
  | .spxStarved n => Sys2Proof.Machine.execSpxStarved n s
  | .phaseAverage n raw avg => Sys2Proof.Machine.execPhaseAverage n raw avg s
  | .refLoss => Sys2Proof.Machine.execRefLoss s
  | .refRestore cycles => Sys2Proof.Machine.execRefRestore s cycles
  | .syn0Unlock errs => Sys2Proof.Machine.execSyn0Unlock s errs
  | .checkerWindowEnd err refErr us => Sys2Proof.Machine.execCheckerWindowEnd err refErr us s
  | .syn0RelockStart => Sys2Proof.Machine.execSyn0RelockStart s
  | .synRelock errs => Sys2Proof.Machine.execSynRelock s errs
  | .dpllUpdate ferr measured => Sys2Proof.Machine.execDpllUpdate ferr measured s
  | .fsrcQualify k => Sys2Proof.Machine.execFsrcQualify k s
  | .fsrcWtrExpiry => Sys2Proof.Machine.execFsrcWtrExpiry s
  | .guardStretch => Sys2Proof.Machine.execGuardStretch s
  | .dllUnlock d => Sys2Proof.Machine.execDllUnlock d s
  | .dllRelock d => Sys2Proof.Machine.execDllRelock d s
  | .ckoStart n => Sys2Proof.Machine.execCkoStart n s
  | .taCommit raw => Sys2Proof.Machine.execTaCommit raw s
  | .taExecute raw tx => Sys2Proof.Machine.execTaExecute raw tx s
  | .pgStart k => Sys2Proof.Machine.execPgStart k s
  | .captureEdge ball rising w => Sys2Proof.Machine.execCaptureEdge ball rising w s
  | .captureDelivery => Sys2Proof.Machine.execCaptureDelivery s
  | .doorbellWrite r v => Sys2Proof.Machine.execDoorbellWrite r v s
  | .descriptorFetch d err => Sys2Proof.Machine.execDescriptorFetch d err s
  | .heldCompletionWrite r => Sys2Proof.Machine.execHeldCompletionWrite r s
  | .msixModerationTimer r => Sys2Proof.Machine.execMsixModerationTimer r s
  | .ringEnable ag idx v => Sys2Proof.Machine.execRingEnable ag idx v s
  | .mtWindowBorrow => Sys2Proof.Machine.execMtWindowBorrow s
  | .mtCopyDone => Sys2Proof.Machine.execMtCopyDone s
  | .mtTestDone fails => Sys2Proof.Machine.execMtTestDone fails s
  | .mtReturnDone => Sys2Proof.Machine.execMtReturnDone s
  | .scrub first count upsets beats => Sys2Proof.Machine.execScrub first count s upsets beats
  | .retentionEnter g => Sys2Proof.Machine.execRetentionEnter g s
  | .groupWakeDone g => Sys2Proof.Machine.execGroupWakeDone g s
  | .nop c => Sys2Proof.Machine.execNop c s
  | .reset c => Sys2Proof.Machine.execReset c s
  | .profSelect c => Sys2Proof.Machine.execProfSelect c s
  | .tbRead c => Sys2Proof.Machine.execTbRead c s
  | .convert c => Sys2Proof.Machine.execConvert c s
  | .acceptStep c => Sys2Proof.Machine.execAcceptStep c s
  | .sendFrame c => Sys2Proof.Machine.execSendFrame c s
  | .spxSetAsym c => Sys2Proof.Machine.execSpxSetAsym c s
  | .spxAcceptRoute c => Sys2Proof.Machine.execSpxAcceptRoute c s
  | .srvSelect c => Sys2Proof.Machine.execSrvSelect c s
  | .srvPropose c => Sys2Proof.Machine.execSrvPropose c s
  | .srvClrTaint c => Sys2Proof.Machine.execSrvClrTaint c s
  | .ptpSetAnnounce c => Sys2Proof.Machine.execPtpSetAnnounce c s
  | .taArm c => Sys2Proof.Machine.execTaArm c s
  | .taDisarm c => Sys2Proof.Machine.execTaDisarm c s
  | .taQuery c => Sys2Proof.Machine.execTaQuery c s
  | .lqEnqueue c => Sys2Proof.Machine.execLqEnqueue c s
  | .lqFlush c => Sys2Proof.Machine.execLqFlush c s
  | .taClaimBreak c => Sys2Proof.Machine.execTaClaimBreak c s
  | .atSetTime c => Sys2Proof.Machine.execAtSetTime c s
  | .atSetUtc c => Sys2Proof.Machine.execAtSetUtc c s
  | .atKeyWrite c => Sys2Proof.Machine.execAtKeyWrite c s
  | .atZeroize c => Sys2Proof.Machine.execAtZeroize c s
  | .atTblClear c => Sys2Proof.Machine.execAtTblClear c s
  | .sqPowerOn c => Sys2Proof.Machine.execSqPowerOn c s
  | .sqPowerOff c => Sys2Proof.Machine.execSqPowerOff c s
  | .sqBtnAck c => Sys2Proof.Machine.execSqBtnAck c s
  | .sqClearFault c => Sys2Proof.Machine.execSqClearFault c s
  | .sqRailOn c => Sys2Proof.Machine.execSqRailOn c s
  | .monSelftest c => Sys2Proof.Machine.execMonSelftest c s
  | .monRaise c => Sys2Proof.Machine.execMonRaise c s
  | .recRead c => Sys2Proof.Machine.execRecRead c s
  | .recMark c => Sys2Proof.Machine.execRecMark c s
  | .recSnap c => Sys2Proof.Machine.execRecSnap c s
  | .calRun c => Sys2Proof.Machine.execCalRun c s
  | .sbRegisterWrite addr v pec code => Sys2Proof.Machine.execSbRegisterWrite addr v pec s code
  | .sbSetReadAddress addr pec => Sys2Proof.Machine.execSbSetReadAddress addr pec s
  | .sbRegisterRead => Sys2Proof.Machine.execSbRegisterRead s
  | .sbReadStatus => Sys2Proof.Machine.execSbReadStatus s
  | .sbSetMailboxPointer off pec => Sys2Proof.Machine.execSbSetMailboxPointer off pec s
  | .sbMailboxWrite data collides pec part => Sys2Proof.Machine.execSbMailboxWrite data collides pec s part
  | .sbMailboxRead => Sys2Proof.Machine.execSbMailboxRead s
  | .sbSubmitCommand d pec clash part => Sys2Proof.Machine.execSbSubmitCommand d pec s clash part
  | .sbReadCompletion => Sys2Proof.Machine.execSbReadCompletion s
  | .sbReadAlert => Sys2Proof.Machine.execSbReadAlert s
  | .alertResponseRead won => Sys2Proof.Machine.execAlertResponseRead won s
  | .wideLoRead ag addr len => Sys2Proof.Machine.execWideLoRead ag addr s len
  | .wideLoWrite ag addr v => Sys2Proof.Machine.execWideLoWrite ag addr v s
  | .wideUpperWrite ag addr v => Sys2Proof.Machine.execWideUpperWrite ag addr v s
  | .registerWrite ag addr v rest en => Sys2Proof.Machine.execRegisterWrite ag addr v s rest en
  | .strCtrlEnWrite ag idx v => Sys2Proof.Machine.execStrCtrlEnWrite ag idx v s
  | .strPoolResvWrite ag idx v => Sys2Proof.Machine.execStrPoolResvWrite ag idx v s
  | .ckoEnWrite ag idx v => Sys2Proof.Machine.execCkoEnWrite ag idx v s
  | .tioModeWrite ag idx v => Sys2Proof.Machine.execTioModeWrite ag idx v s
  | .cuEnWrite ag idx v => Sys2Proof.Machine.execCuEnWrite ag idx v s
  | .lqEnWrite ag idx v => Sys2Proof.Machine.execLqEnWrite ag idx v s
  | .pgEnWrite ag idx v => Sys2Proof.Machine.execPgEnWrite ag idx v s
  | .alarmEnWrite ag idx v => Sys2Proof.Machine.execAlarmEnWrite ag idx v s
  | .strCntClr ag idx v => Sys2Proof.Machine.execStrCntClr ag idx v s
  | .spxCntClr ag idx v => Sys2Proof.Machine.execSpxCntClr ag idx v s
  | .ptpPcntClr ag idx v => Sys2Proof.Machine.execPtpPcntClr ag idx v s
  | .ckCntClr ag v => Sys2Proof.Machine.execCkCntClr ag v s
  | .taCntClr ag v => Sys2Proof.Machine.execTaCntClr ag v s
  | .memCntClr ag v => Sys2Proof.Machine.execMemCntClr ag v s
  | .memPoolClr ag v => Sys2Proof.Machine.execMemPoolClr ag v s
  | .jmaxClr ag v => Sys2Proof.Machine.execJmaxClr ag v s
  | .snvmKeyWrite ag v => Sys2Proof.Machine.execSnvmKeyWrite ag v s
  | .snvmProg ag v => Sys2Proof.Machine.execSnvmProg ag v s
  | .snvmRead ag v => Sys2Proof.Machine.execSnvmRead ag v s
  | .snvmProgDone ok => Sys2Proof.Machine.execSnvmProgDone ok s
  | .tstKeyWrite ag v => Sys2Proof.Machine.execTstKeyWrite ag v s
  | .forceUnlock ag v => Sys2Proof.Machine.execForceUnlock ag v s
  | .eccArm ag v => Sys2Proof.Machine.execEccArm ag v s
  | .jtagInstruction code cells => Sys2Proof.Machine.execJtagInstruction code s cells
  | .testLogicReset => Sys2Proof.Machine.execTestLogicReset s
  | .psmCtrlWrite ag v => Sys2Proof.Machine.execPsmCtrlWrite ag v s
  | .enter ag q => Sys2Proof.Machine.execEnter ag q s
  | .exit ag q => Sys2Proof.Machine.execExit ag q s
  | .psmUcodeWord ag q v => Sys2Proof.Machine.execPsmUcodeWord ag q v s
  | .spxEnWrite ag idx v => Sys2Proof.Machine.execSpxEnWrite ag idx v s
  | .pcieLinkUp speed width => Sys2Proof.Machine.execPcieLinkUp speed width s
  | .smbusTimeout => Sys2Proof.Machine.execSmbusTimeout s

end Sys2Proof.Machine
end

