-- ==== Sys2Proof/Machine/Tick.lean ====
section
/-!
DEFINITION. What happens at an SCLK cycle when no command is there (assumption 2): RAWCT counts, cells of departed frames are
free, generators make their edges, pulses end, later parts of executed occurrences are performed, a revision rewrites one record, a
calibration run goes on to its next phase, and the event summary follows (R41, R58, R194,
R205, R216, R329, R369).
-/
namespace Sys2Proof.Machine

/-- One SCLK cycle of the main domain; nothing while it does not run. -/
def State.tick (s : State) : State :=
  if !s.mainUp then s
  else
    let s := (s.passTo (s.cyc + 1)).calSync
    let s := s.ports.foldl (fun (s : State) p => s.settle p.1) s
    ((s.runPending (s.raw + 511)).gensTick.reviseNext).summary

end Sys2Proof.Machine
end

