-- ==== Sys2Proof/Safety.lean ====
section
/-!
DEFINITION. The terms in which statements speak of the block: the canonical form of its tables, where a register field stands,
what a command left unchanged, when a run-time command may begin, and what its completion is.
-/
namespace Sys2Proof.Machine

/-! ### The canonical form -/

/-- Every table that is read through Store holds its keys strictly rising, and the byte memories list no byte that an unlisted
address reads as: the register fields of the four reset domains, the ports, the action table, the launch queues and capture units,
the ring pointers of software, the SRAM words in error, the pool cells in use, the copies of the mirror, the mailbox and the standby NVM. Equal contents are then equal data, and a read sees the last write. -/
def State.tidy (s : State) : Bool :=
  Store.sorted s.fMain && Store.sorted s.fStby && Store.sorted s.fAon && Store.sorted s.fSticky && Store.sorted s.ports
    && Store.sorted s.ta.table && Store.sorted s.ta.lqs && Store.sorted s.ta.cus && Store.sorted s.hif.swPtr
    && Store.sorted s.mem.errs && Store.sorted s.mem.cells && Store.sorted s.ato.mirror && Memory.wf s.mem.mailbox && Memory.wf s.snvm.data

/-! ### Frames -/

/-- Where a field of an instance stands: its reset domain and its key. Two fields are the same when these are. -/
def Fld.place (f : Fld) (i : Nat := 0) : Dom × Nat := (f.dom, f.key i)

/-- Every register field except those at the places listed reads in `t` as in `s`. -/
def State.fieldsKept (s t : State) (but : List (Dom × Nat)) : Prop :=
  ∀ (f : Fld) (i : Nat), f.place i ∉ but → t.get f i = s.get f i

/-- Every byte of the mailbox and of the standby NVM reads in `t` as in `s`. -/
def State.bytesKept (s t : State) : Prop :=
  ∀ a : Nat, t.mem.mailbox.read a = s.mem.mailbox.read a ∧ t.snvm.data.read a = s.snvm.data.read a

/-- The timebase, the servo and RAWCT are as they were. -/
def State.timeKept (s t : State) : Prop := t.cyc = s.cyc ∧ t.tb = s.tb ∧ t.srv = s.srv

/-- What the ports, clock outputs, timed actions and calibration hold beyond their registers is as it was. -/
def State.lineKept (s t : State) : Prop := t.ports = s.ports ∧ t.ck = s.ck ∧ t.ta = s.ta ∧ t.cal = s.cal

/-- What the supervisor, the monitors and the Atoll hold beyond their registers is as it was. -/
def State.boardKept (s t : State) : Prop := t.pwr = s.pwr ∧ t.sq = s.sq ∧ t.mon = s.mon ∧ t.ato = s.ato

/-- Nothing has left the block, and rings, sideband and recorder hold what they held. -/
def State.hostKept (s t : State) : Prop := t.out = s.out ∧ t.hif = s.hif ∧ t.sb = s.sb ∧ t.recd = s.recd

/-- Everything but register fields is as it was. -/
def State.restKept (s t : State) : Prop :=
  s.timeKept t ∧ s.lineKept t ∧ s.boardKept t ∧ s.hostKept t ∧ s.bytesKept t

/-! ### Rails and ports -/

/-- No port follows rail `n`: the main domain does not run, or no bonded port with AUTO names the rail (R83). -/
def State.noPortFollows (s : State) (n : Nat) : Prop :=
  s.mainUp = false
    ∨ ∀ p : Nat, p < s.fuses.variant.ports → s.on F.STR_CTRL_AUTO p = false ∨ s.get F.STR_CTRL_RAIL p ≠ n

/-! ### Register writes -/

/-- A write by an agent reaches the register at `a`: an aligned address outside the PSM window, of a bonded resource; the host
after step 8 and outside a serviced port, the sideband in its own blocks, the profile loader in step 8, the PSM on a serviced
port (R4, R32, R374, R399, R410, R416). -/
def State.reaches (s : State) (ag : Agent) (a : Nat) : Prop :=
  a % 4 = 0 ∧ s.unbonded a = false ∧
  match ag with
  | .host => s.mainUp = true ∧ s.pwr.step8 = true ∧ a < 0x180000 ∧ ∀ n, straitPort a = some n → s.serviced n = false
  | .sideband => s.pwr.stby = .up ∧ sidebandMay a = true
  | .profile => s.mainUp = true ∧ s.pwr.step8 = false
  | .psm => s.mainUp = true ∧ ∃ n, straitPort a = some n ∧ s.serviced n = true

/-! ### Run-time commands -/

end Sys2Proof.Machine

namespace Sys2Proof
open Machine

/-- The command may begin and will run its own rule: on a ring the main domain runs, start-up has reached step 10 and the ring's
earlier commands let it (R32, R356); on the sideband the standby domain runs, no command is under way, and the main domain has
reached step 10 where the command needs it (R24, R373). -/
def Cmd.admitted (c : Cmd) (s : State) (main : Bool) : Prop :=
  match c.src with
  | .ring r => s.ready = true ∧ s.mayBegin r.val c.tag.toNat c.fence = true
  | .sideband => s.pwr.stby = .up ∧ s.on F.HIF_SB_STAT_CMD_BUSY = false ∧ (main = true → s.ready = true)

/-- The command has begun: its flight record, or CMD_BUSY on the sideband (R356, R373). -/
def Cmd.begun (c : Cmd) (s : State) : State :=
  match c.src with
  | .ring r =>
    let l := beginFlight r.val c.tag.toNat c.flags.toNat (s.get F.HIF_RING_PTR_DEVPTR r.val) s.hif.inflight
    { s with hif := { s.hif with inflight := l } }
  | .sideband => s.raise F.HIF_SB_STAT_CMD_BUSY

/-- The octets that the command reads arrive: no error on the link, or no uncorrectable word of the mailbox (R353, R386). -/
def Cmd.readOk (c : Cmd) (s : State) (n : Nat) : Prop :=
  match c.src with
  | .ring _ => c.dmaErr = false
  | .sideband => (s.mailboxCheck c.b.toNat n).1 = false

/-- The state after that read: a mailbox read corrects and counts the words it finds in error (R384). -/
def Cmd.afterRead (c : Cmd) (s : State) (n : Nat) : State :=
  match c.src with
  | .ring _ => s
  | .sideband => (s.mailboxCheck c.b.toNat n).2

end Sys2Proof
end

