-- ==== Sys2Proof/Certificates/Slice0/Obligations.lean ====
section
/-!
DEFINITION. The statements about the block. A statement that names several commands has one clause for each; the conclusion of a
clause is that exec answers a next state, and what that state holds. The premise `tidy` rules out states whose tables are
not in canonical form, which no run reaches (`EveryStepKeepsTidy`, `ResetIsTidy`).
-/
open Sys2Proof Sys2Proof.Machine

/-! ### The machine as a whole -/

/-- A step executes the command at the front of the queue on the state with the rest of the queue. The queue is the model's. -/
def Obligations.StepExecutesFrontCommand : Prop :=
  ∀ (c : Instr) (s : State), step { s with pending := c :: s.pending } = exec c s

/-- With no command waiting a step is one SCLK cycle: nothing while the main domain does not run, else RAWCT advances by one
(R41) and memory bytes, supplies and the queue are left alone. That an empty queue ticks is the model's choice (assumption 2). -/
def Obligations.IdleStepIsOneCycle : Prop :=
  ∀ s : State, s.pending = [] →
    ∃ t, step s = .next t ∧ (s.mainUp = false → t = s)
      ∧ (s.mainUp = true → t.cyc = s.cyc + 1 ∧ t.pending = [] ∧ t.pwr = s.pwr ∧ s.bytesKept t)

/-- In every state, with any command at the front of the queue or none, the step answers a next state: no command is refused and
none faults. -/
def Obligations.EveryStepAnswersNext : Prop := ∀ s : State, ∃ t, step s = .next t

/-- INVARIANT. Every step keeps the tables of register fields, ports, actions, launch queues, capture units, ring pointers and
words in error with their keys strictly rising, and the mailbox and the standby NVM in canonical form. -/
def Obligations.EveryStepKeepsTidy : Prop :=
  ∀ s t : State, s.tidy = true → step s = .next t → t.tidy = true

/-- The state after reset has the form that EveryStepKeepsTidy speaks of. -/
def Obligations.ResetIsTidy : Prop := State.reset.tidy = true

/-- INVARIANT. Every step keeps the fused identity, takes back nothing that has left the block, and takes exactly the front
command from the queue. -/
def Obligations.EveryStepKeepsIdentityAndOutputs : Prop :=
  ∀ s t : State, step s = .next t →
    t.fuses = s.fuses ∧ (∃ sent, t.out = s.out ++ sent) ∧ t.pending = s.pending.tail

/-- Right after reset every register field holds its reset value, the standby and main domains do not run, the sequencer is OFF,
TB_STATE is COLD with no epoch in force, CELL_LOSS stands, the mailbox and the standby NVM read 0, and nothing has been sent.
Reset values that the spec does not state are the model's (assumption 7); so is an empty standby NVM (assumption 14). -/
def Obligations.ResetHoldsResetValues : Prop :=
  (∀ (f : Fld) (i : Nat), State.reset.get f i = State.reset.rst f i % 2 ^ f.width)
    ∧ State.reset.pwr.stby = .off ∧ State.reset.mainUp = false ∧ State.reset.tb.cur = none
    ∧ State.reset.seq = sqOff ∧ State.reset.tbState = tbCold ∧ State.reset.on F.AT_STAT_CELL_LOSS = true
    ∧ (∀ a : Nat, State.reset.mem.mailbox.read a = 0 ∧ State.reset.snvm.data.read a = 0) ∧ State.reset.out = []

/-! ### Resets -/

/-- MAIN_RESET with the standby domain up: every field of domain MAIN is at its reset value, RAWCT and the epochs are lost, the
ports and rings hold nothing, RST_OUT_N is low and the main domain does not run, while every field of the Atoll's domains, the
rails' states, the sequencer, the monitors and the standby NVM stay (R16, R33, R34). -/
def Obligations.MainResetClearsMainOnly : Prop :=
  ∀ s : State, s.stbyUp = true →
    ∃ t, exec .mainReset s = .next t
      ∧ (∀ (f : Fld) (i : Nat), f.dom = .main → t.get f i = t.rst f i % 2 ^ f.width)
      ∧ t.cyc = 0 ∧ t.tb = Tb.reset ∧ t.ports = [] ∧ t.hif = Hif.reset ∧ t.mem.mailbox = []
      ∧ t.pwr.rstOut = true ∧ t.mainUp = false ∧ t.ready = false
      ∧ (∀ (f : Fld) (i : Nat), f.dom = .aon ∨ f.dom = .sticky → t.get f i = s.get f i)
      ∧ (∀ n : Nat, t.railSt n = s.railSt n) ∧ t.seq = s.seq ∧ t.snvm.data = s.snvm.data ∧ t.sq = s.sq ∧ t.mon = s.mon

/-- STANDBY_POR clears domains STBY and MAIN and keeps the Atoll, of whose sources MON_STATUS.ACTIVE goes on showing those that are active
(R289); ATOLL_POR clears all four domains and takes its supply source
from VSTBY, and ATOLL_BROWN_OUT only ends the Atoll's supply (R33, R233). -/
def Obligations.PowerOnResetsClearTheirDomains : Prop :=
  (∀ s : State, s.pwr.stby ≠ .off →
    ∃ t, exec .standbyPor s = .next t ∧ t.pwr.stby = .off ∧ t.mainUp = false
      ∧ (∀ (f : Fld) (i : Nat), f.dom = .main ∨ f.dom = .stby → f.place i ≠ F.MON_STATUS_ACTIVE.place →
          t.get f i = t.rst f i % 2 ^ f.width)
      ∧ t.get F.MON_STATUS_ACTIVE = s.ato.active % 2 ^ F.MON_STATUS_ACTIVE.width
      ∧ (∀ (f : Fld) (i : Nat), f.dom = .aon ∨ f.dom = .sticky → t.get f i = s.get f i) ∧ t.snvm.data = s.snvm.data)
  ∧ (∀ (high : Bool) (s : State),
    ∃ t, exec (.atollPor high) s = .next t ∧ t.pwr.stby = .off ∧ t.pwr.aonUp = true ∧ t.pwr.vstbyHigh = high
      ∧ t.get F.AT_STAT_SRC = b2n (!high)
      ∧ (∀ (f : Fld) (i : Nat), f.place i ≠ F.AT_STAT_SRC.place → t.get f i = t.rst f i % 2 ^ f.width)
      ∧ t.ato.keys = [] ∧ t.ato.mirror = s.ato.mirror ∧ t.snvm.data = s.snvm.data)
  ∧ (∀ s : State, exec .atollBrownOut s = .next { s with pwr := { s.pwr with aonUp := false } })

/-- HOST_INTERFACE_RESET discards pending commands and counts them, returns every ring register (and the MSI-X table beside them)
and the doorbells to their reset values, and leaves everything outside the HIF block alone (R35; the table's part is the model's,
assumption 16).

MANUAL_RESET of a powered main domain is a main reset that is held until MR_N rises, and MR_N_RISE ends the hold; with the core
rails not good the main domain is left as it is and RST_OUT_N is asserted; rails and sequencer state stay (R280). Either way RST_OUT_N is
low from MR_N's rise on, for t_RST (R279, assumption 50). RST_OUT_RELEASE
lets RST_OUT_N rise in RUN with MR_N high (R279). -/
def Obligations.InterfaceAndManualResetsStayInside : Prop :=
  (∀ s : State, s.tidy = true → s.mainUp = true →
      ∃ t, exec .hostInterfaceReset s = .next t
        ∧ t.hif.inflight = [] ∧ t.hif.db = [] ∧ t.hif.swPtr = []
        ∧ t.get F.HIF_CNT_DISC_DISC = satAdd 32 (s.get F.HIF_CNT_DISC_DISC) ((s.hif.inflight.filter Flight.waiting).length)
        ∧ (∀ (f : Fld) (i : Nat), 0x11000 ≤ f.addr + f.stride * i → f.addr + f.stride * i < 0x1A000 → f.dom = .main → f.lo < 32 →
            t.get f i = t.rst f i % 2 ^ f.width)
        ∧ (∀ (f : Fld) (i : Nat), (f.addr + f.stride * i) / 0x10000 ≠ 1 → f.lo < 32 → t.get f i = s.get f i)
        ∧ s.timeKept t ∧ s.lineKept t ∧ s.boardKept t ∧ s.bytesKept t ∧ t.recd = s.recd ∧ t.sb = s.sb)
  ∧ ((∀ s : State, s.tidy = true → s.stbyUp = true →
      ∃ t, exec .manualReset s = .next t ∧ t.on F.SQ_EVT_MR = true ∧ t.pwr.mrHeld = true ∧ t.pwr.rstOut = true
        ∧ (s.coreGood = true → t.mainUp = false ∧ t.cyc = 0) ∧ (s.coreGood = false → t.mainUp = s.mainUp ∧ s.timeKept t)
        ∧ (∀ n : Nat, t.railSt n = s.railSt n) ∧ t.seq = s.seq)
    ∧ (∀ s : State, exec .mrNRise s = .next { s with pwr := { s.pwr with mrHeld := false, rstOut := true } })
    ∧ (∀ s : State, s.stbyUp = true → s.seq = sqRun → s.pwr.mrHeld = false →
      exec .rstOutRelease s = .next { s with pwr := { s.pwr with rstOut := false } }))

/-! ### Start-up -/

/-- Start-up (R29, R179, R335, R398). Steps 1 to 3: VSTBY_RISE holds the standby domain in reset; its release brings it up, takes
the profile number on the balls, and leaves the Atoll's and the main domain's own state alone. Steps 6 to 10: the synthesizer's
start, the release of the main domain with RAWCT at 0 and SYN_LOCK set, on which the loading of step 8 follows at once (the model's
choice, assumption 51) or waits for a standby-NVM program that it meets (R401), the end of step 8 and the start of the power-up
calibration run, which an unfinished program puts off, and the run's end, from which commands execute and with which a sound Atoll
seeds the timebase at the captured edge. -/
def Obligations.StartUpRunsInOrder : Prop :=
  ((∀ s : State, s.pwr.stby = .off → exec .vstbyRise s = .next { s with pwr := { s.pwr with stby := .held } })
    ∧ (∀ (k : Fin 4) (s : State), s.pwr.stby = .held →
      ∃ t, exec (.standbyResetRelease k) s = .next t ∧ t.stbyUp = true ∧ t.pwr.profsel = k.val ∧ t.mainUp = s.mainUp
        ∧ s.timeKept t ∧ s.lineKept t ∧ s.bytesKept t ∧ t.ato = s.ato ∧ { t.mon with gov := s.mon.gov } = s.mon))
  ∧ ((∀ (late : Bool) (s : State), s.stbyUp = true → s.coreGood = true → s.pwr.synStarted = false → s.mainUp = false →
      exec (.syn0StartLock late) s = .next { s with pwr := { s.pwr with synStarted := true, synLate := late } })
    ∧ (∀ s : State, s.tidy = true → s.stbyUp = true → s.coreGood = true → s.pwr.synStarted = true → s.pwr.mrHeld = false →
        s.pwr.scanHeld = false → s.mainUp = false →
      ∃ t, exec .mainResetRelease s = .next t.step8 ∧ t.mainUp = true ∧ t.cyc = 0 ∧ t.on F.CK_STATUS_SYN_LOCK = true
        ∧ t.tb = s.tb ∧ t.ports = s.ports ∧ s.bytesKept t ∧ t.ready = s.pwr.step10 ∧ t.step8.pwr.loadWait = t.loadBusy)
    ∧ (∀ s : State, s.mainUp = true → s.pwr.step10 = false → s.cal.run = none →
      (s.pwr.loadWait = false ∨ s.loadBusy = false →
        ∃ t, exec .powerUpCalStart s = .next t ∧ t.cal.run.map (·.kind) = some 1 ∧ t.pwr.step8 = true)
      ∧ (s.pwr.loadWait = true → s.loadBusy = true → exec .powerUpCalStart s = .next s))
    ∧ (∀ (units : List CalUnit) (edge : Raw) (cycles : Nat) (r : CalRun) (s : State),
        s.mainUp = true → s.cal.run = some r → s.cal.due = [] → r.kind = 1 → s.pwr.step10 = false →
      ∃ t, exec (.powerUpCalEnd units edge cycles) s = .next t ∧ t.ready = true ∧ t.cal.run = none
        ∧ (s.tidy = true → s.pwr.aonUp = true → s.tbState = tbCold → s.tb.cur = none → s.on F.AT_STAT_CELL_LOSS = false →
            s.on F.AT_STAT_APOR = false → s.on F.MON_AT_STAT_CAL_INV = false →
          t.tbState = tbSeeded ∧ t.tb.cur.map (·.kind) = some kSeed
            ∧ t.tb.cur.map (·.raw0) = some (((s.endPowerUp r units).toSeedEdge edge cycles).atollEdge edge))))

/-- No seed is made where the Atoll reports CELL_LOSS, its power-on flag is set, or the calendar is marked invalid: TB_STATE
stays COLD at step 10 (R30). -/
def Obligations.NoSeedFromADoubtfulAtoll : Prop :=
  ∀ (units : List CalUnit) (edge : Raw) (cycles : Nat) (r : CalRun) (s : State),
    s.tidy = true → s.mainUp = true → s.cal.run = some r → r.kind = 1 → s.pwr.step10 = false → s.tbState = tbCold → s.tb.cur = none →
    s.on F.AT_STAT_CELL_LOSS = true ∨ s.on F.AT_STAT_APOR = true ∨ s.on F.MON_AT_STAT_CAL_INV = true →
    ∃ t, exec (.powerUpCalEnd units edge cycles) s = .next t ∧ t.ready = true ∧ t.tbState = tbCold ∧ t.tb.cur = none

/-! ### Supplies and the sequencer -/

/-- The Atoll's supply switch and its log (R233, R234, R235): a fall of VSTBY below 2.8 V moves it to the cell where the cell
qualifies, a rise above 2.9 V back; VBAT_LOW is set below 2.2 V, once, and cleared above 2.3 V. A collapse puts the sequencer in
COLLAPSED, and in MAIN is retained; COLLAPSED ends in OFF, with AUTO_ON or a latched on request in an on request, whose pulse is added
where none is on its way (assumption 46). -/
def Obligations.SupplyEventsActAsTabled : Prop :=
  (∀ s : State, s.tidy = true → s.pwr.aonUp = true → s.on F.AT_STAT_SRC = false →
    (∃ t, exec (.vstbyBelow2v8 true) s = .next t ∧ t.on F.AT_STAT_SRC = true ∧ t.pwr.vstbyHigh = false
      ∧ t.get F.AT_LOG_PTR_HEAD = (s.get F.AT_LOG_PTR_HEAD + 1) % 64 ∧ s.timeKept t ∧ s.lineKept t ∧ s.bytesKept t)
    ∧ (∃ t, exec (.vstbyBelow2v8 false) s = .next t ∧ t.on F.AT_STAT_SRC = false ∧ t.pwr.vstbyHigh = false
      ∧ t.get F.AT_LOG_PTR_HEAD = (s.get F.AT_LOG_PTR_HEAD + 1) % 64))
  ∧ (∀ s : State, s.tidy = true → s.pwr.aonUp = true → s.on F.AT_STAT_SRC = true →
    ∃ t, exec .vstbyAbove2v9 s = .next t ∧ t.on F.AT_STAT_SRC = false ∧ t.pwr.vstbyHigh = true ∧ s.timeKept t ∧ s.bytesKept t)
  ∧ (∀ (mv : Nat) (s : State), s.tidy = true → s.pwr.aonUp = true →
    (mv < 2200 → ∃ t, exec (.vbatLow mv) s = .next t ∧ t.on F.AT_STAT_VBAT_LOW = true
      ∧ (s.on F.AT_STAT_VBAT_LOW = true → t = s))
    ∧ (2300 < mv → ∃ t, exec (.vbatLow mv) s = .next t ∧ t.on F.AT_STAT_VBAT_LOW = false))
  ∧ (∀ s : State, s.tidy = true → s.stbyUp = true → (∀ n, s.noPortFollows n) →
    ∃ t, exec .vstbyCollapse s = .next t ∧ t.seq = sqCollapsed ∧ t.on F.SQ_STATUS_COLLAPSED = true ∧ t.pwr.rstOut = true
      ∧ t.sq.offQ = [] ∧ t.sq.onQ = [] ∧ (s.pwr.aonUp = true → s.on F.AT_STAT_MAIN = true → t.on F.AT_RETAIN_COLLAPSE = true))
  ∧ (∀ s : State, s.tidy = true → s.stbyUp = true → s.seq = sqCollapsed →
    ∃ t, exec .collapsedEnd s = .next t ∧ t.seq = sqOff
      ∧ (s.on F.SQ_CTRL_AUTO_ON = true ∨ s.on F.SQ_STATUS_ON_PEND = true → s.sq.progOk = true → s.sq.learned = true →
          t.out = s.out ++ (if s.sq.asked then [] else [.seqCommand false]))
      ∧ (s.on F.SQ_CTRL_AUTO_ON = false → s.on F.SQ_STATUS_ON_PEND = false → t.out = s.out))

/-- The cascade position (R267, R268): SEQ_CI low from reset release gives 0; a device that knows p sends p + 1 pulses; two equal
trains give their count, unequal ones or 15 pulses set CASC_ERR and PROG_ERR, reject the program and keep SEQSYNC low. -/
def Obligations.CascadeLearnsItsPosition : Prop :=
  (∀ s : State, s.tidy = true → s.stbyUp = true → s.sq.learned = false → s.on F.SQ_STATUS_CASC_ERR = false →
    ∃ t, exec .seqCiLowDetect s = .next t ∧ t.sq.learned = true ∧ t.get F.SQ_STATUS_POS = 0 ∧ s.timeKept t ∧ s.bytesKept t)
  ∧ (∀ s : State, s.stbyUp = true → s.sq.learned = true →
    exec .cascadeTrainSend s = .next { s with out := s.out ++ [.casTrain (s.get F.SQ_STATUS_POS + 1)] })
  ∧ (∀ (p : Nat) (s : State), s.tidy = true → s.stbyUp = true → s.sq.learned = false → s.on F.SQ_STATUS_CASC_ERR = false → 0 < p →
    (p < 15 → s.sq.lastTrain = none →
      exec (.cascadeTrainEnd p) s = .next { s with sq := { s.sq with lastTrain := some p } })
    ∧ (p < 15 → s.sq.lastTrain = some p →
      ∃ t, exec (.cascadeTrainEnd p) s = .next t ∧ t.sq.learned = true ∧ t.get F.SQ_STATUS_POS = p ∧ s.timeKept t)
    ∧ ((15 ≤ p ∨ ∃ q, s.sq.lastTrain = some q ∧ q ≠ p) →
      ∃ t, exec (.cascadeTrainEnd p) s = .next t ∧ t.on F.SQ_STATUS_CASC_ERR = true ∧ t.on F.SQ_EVT_CASC_ERR = true
        ∧ t.on F.SQ_STATUS_PROG_ERR = true ∧ t.sq.progOk = false ∧ t.sq.learned = false ∧ (t.seq ≠ sqCollapsed → t.syncDrive = .low)
        ∧ s.fieldsKept t [F.SQ_STATUS_CASC_ERR.place, F.SQ_EVT_CASC_ERR.place, F.SQ_STATUS_PROG_ERR.place]))

/-- The sequencer's own transitions (R271, R273, R275): a command pulse starts power-up in OFF and power-down in RUN; the end of
a state with its work done steps the count, enters RUN after 254 and OFFMIN after 1, or reverses; OFFMIN ends in FAULT_OFF
with a lockout pending, else in OFF, with a pulse where an on request waits and none is on its way (assumption 46); RETRY returns to 0
in RUN. -/
def Obligations.SequencerStatesStep : Prop :=
  (∀ s : State, s.tidy = true → s.stbyUp = true → s.seq = sqOff → s.sq.learned = true → s.sq.progOk = true →
      (∀ n, s.noPortFollows n) →
    ∃ t, exec .sqCommandPulse s = .next t ∧ t.seq = sqUp ∧ t.gstate = 1 ∧ t.on F.SQ_EVT_UP_START = true)
  ∧ (∀ s : State, s.tidy = true → s.stbyUp = true → s.seq = sqRun → (∀ n, s.noPortFollows n) →
    ∃ t, exec .sqCommandPulse s = .next t ∧ t.seq = sqDown ∧ t.gstate = 254 ∧ t.on F.SQ_EVT_DOWN_START = true
      ∧ t.pwr.rstOut = true)
  ∧ (∀ s : State, s.tidy = true → s.stbyUp = true → s.workDone = true → s.seq = sqUp → s.on F.SQ_STATUS_OFF_PEND = false →
      s.sq.failC = false → (∀ n, s.noPortFollows n) →
    (s.gstate < 254 → ∃ t, exec (.sqStateEnd false) s = .next t ∧ t.seq = sqUp ∧ t.gstate = s.gstate + 1)
    ∧ (s.gstate = 254 → ∃ t, exec (.sqStateEnd false) s = .next t ∧ t.seq = sqRun ∧ t.gstate = 255 ∧ t.on F.SQ_EVT_UP_DONE = true
        ∧ t.on F.SQ_STATUS_SD_LATCH = false ∧ t.on F.SQ_STATUS_COLLAPSED = false ∧ s.restKept t)
    ∧ (∃ t, exec (.sqStateEnd true) s = .next t ∧ t.seq = sqDown ∧ t.gstate = s.gstate ∧ t.on F.SQ_EVT_REVERSED = true
        ∧ t.pwr.rstOut = true))
  ∧ (∀ (low : Bool) (s : State), s.tidy = true → s.stbyUp = true → s.workDone = true → s.seq = sqDown → (∀ n, s.noPortFollows n) →
    (1 < s.gstate → ∃ t, exec (.sqStateEnd low) s = .next t ∧ t.seq = sqDown ∧ t.gstate = s.gstate - 1)
    ∧ (s.gstate = 1 → ∃ t, exec (.sqStateEnd low) s = .next t ∧ t.seq = sqOffmin ∧ t.gstate = 0 ∧ t.on F.SQ_EVT_DOWN_DONE = true
        ∧ s.restKept t))
  ∧ (∀ s : State, s.tidy = true → s.stbyUp = true → s.seq = sqOffmin →
    (s.on F.SQ_STATUS_LOCK_PEND = true →
      ∃ t, exec .offminEnd s = .next t ∧ t.seq = sqFaultOff ∧ t.on F.SQ_EVT_LOCKOUT = true ∧ t.sq.retry = false ∧ t.out = s.out)
    ∧ (s.on F.SQ_STATUS_LOCK_PEND = false →
      ∃ t, exec .offminEnd s = .next t ∧ t.seq = sqOff ∧ t.on F.SQ_STATUS_ON_PEND = false
        ∧ t.out = s.out ++ (if (s.on F.SQ_STATUS_ON_PEND || s.sq.retry) && !s.sq.asked then [.seqCommand false] else [])))
  ∧ (∀ s : State, s.tidy = true → s.seq = sqRun →
    ∃ t, exec .retryClear s = .next t ∧ t.get F.SQ_STATUS_RETRY = 0 ∧ s.fieldsKept t [F.SQ_STATUS_RETRY.place] ∧ s.restKept t)

/-- Transitions of a sensed rail channel that is not CORE, with no TST_VSN armed (R264, R276): RAMP to GOOD; in class C, RAMP or GOOD to
FALLING with its cause and failure; the transition count in RAMP, beyond CHAT_MAX a failure of class C, and the glitch count in
GOOD; FALLING to OFF by the off comparator or by t_OFFTO, and at once to RAMP where the power-up state in progress enables it (R270).
GOOD_CMP and OFF_CMP show the comparators. A class P failure holds off its rail and the rails of its DEP, no other, leaves the sequencer
where it is, and takes a port that follows the rail to DISABLED (R276). A NOSENSE rail becomes GOOD and OFF by its times and never
fails. A CORE rail that drops out of GOOD is a main reset in the same step (R278), with RST_OUT_N asserted,
SYN0 to be locked again and the Atoll's fields kept. -/
def Obligations.RailChannelsFollowTheirTable : Prop :=
  (∀ (n : Nat) (s : State), s.tidy = true → s.stbyUp = true → n < s.fuses.variant.rails → s.sensed n = true →
        s.on F.SQ_RAIL_CFG_CORE n = false → s.on F.TST_VSN_ARMED = false → s.noPortFollows n →
      (s.railSt n = railRamp → s.sq.onQ = [] →
        ∃ t, exec (.railGood n) s = .next t ∧ t.railSt n = railGood ∧ s.timeKept t ∧ s.bytesKept t)
      ∧ (s.railSt n = railRamp → s.on F.SQ_RAIL_CFG_CLASS n = false →
        ∃ t, exec (.railPgtoTimeout n) s = .next t ∧ t.railSt n = railFalling ∧ t.get F.SQ_RAIL_ST_CAUSE n = causeTimeout
          ∧ t.get F.SQ_FAIL_CH = n ∧ t.get F.SQ_FAIL_CAUSE = causeTimeout ∧ t.on F.SQ_EVT_FAIL_C = true)
      ∧ (s.railSt n = railGood → s.on F.SQ_RAIL_CFG_CLASS n = false →
        ∃ t, exec (.railDrop n) s = .next t ∧ t.railSt n = railFalling ∧ t.get F.SQ_RAIL_ST_CAUSE n = causeDrop
          ∧ t.get F.SQ_FAIL_CH = n ∧ t.get F.SQ_FAIL_CAUSE = causeDrop ∧ t.on F.SQ_EVT_FAIL_C = true)
      ∧ (∀ good off : Bool, s.railSt n = railRamp → s.on F.SQ_RAIL_ST_GOOD_CMP n ≠ good →
          (s.get F.SQ_RAIL_ST_CHAT n + 1 ≤ s.eff F.SQ_TIME1_CHAT_MAX →
            ∃ t, exec (.goodComparatorChange n good off) s = .next t ∧ t.railSt n = railRamp ∧ t.on F.SQ_RAIL_ST_GOOD_CMP n = good
              ∧ t.on F.SQ_RAIL_ST_OFF_CMP n = off
              ∧ t.get F.SQ_RAIL_ST_CHAT n = satAdd F.SQ_RAIL_ST_CHAT.width (s.get F.SQ_RAIL_ST_CHAT n) 1 ∧ s.restKept t)
          ∧ (s.eff F.SQ_TIME1_CHAT_MAX < s.get F.SQ_RAIL_ST_CHAT n + 1 → s.on F.SQ_RAIL_CFG_CLASS n = false →
            ∃ t, exec (.goodComparatorChange n good off) s = .next t ∧ t.railSt n = railFalling
              ∧ t.get F.SQ_RAIL_ST_CAUSE n = causeChatter ∧ t.get F.SQ_FAIL_CAUSE = causeChatter ∧ t.on F.SQ_EVT_FAIL_C = true))
      ∧ (∀ off : Bool, s.railSt n = railGood → s.on F.SQ_RAIL_ST_GOOD_CMP n = false →
        ∃ t, exec (.goodComparatorChange n true off) s = .next t ∧ t.railSt n = railGood
          ∧ t.get F.SQ_RAIL_ST_GLITCH n = satAdd F.SQ_RAIL_ST_GLITCH.width (s.get F.SQ_RAIL_ST_GLITCH n) 1 ∧ s.restKept t)
      ∧ (s.railSt n = railFalling → s.sq.offQ = [] → s.sq.onQ = [] → s.seq = sqUp → s.sq.failC = false → s.onG n = s.gstate →
          s.on F.SQ_RAIL_ST_HELD n = false →
        ∃ t, exec (.railOff n) s = .next t ∧ t.railSt n = railRamp ∧ s.timeKept t)
      ∧ (s.railSt n = railFalling → s.sq.offQ = [] → s.sq.onQ = [] → (s.seq = sqUp → s.onG n ≠ s.gstate) →
        (∃ t, exec (.railOff n) s = .next t ∧ t.railSt n = railOffSt ∧ t.on F.SQ_RAIL_ST_OFF_CMP n = false ∧ s.timeKept t)
        ∧ (∃ t, exec (.railOffTimeout n) s = .next t ∧ t.railSt n = railOffSt ∧ t.on F.SQ_EVT_OFF_TO = true
          ∧ t.get F.SQ_RAIL_ST_CAUSE n = (if s.get F.SQ_RAIL_ST_CAUSE n = 0 then causeOffTo else s.get F.SQ_RAIL_ST_CAUSE n)
          ∧ s.timeKept t)))
  ∧ (∀ (n : Nat) (s : State), s.tidy = true → n < 24 → s.sensed n = true → s.on F.SQ_RAIL_CFG_CLASS n = true →
        s.on F.TST_VSN_ARMED = false →
      ∀ p ∈ [(Instr.railPgtoTimeout n, railRamp, causeTimeout), (.railDrop n, railGood, causeDrop)], s.railSt n = p.2.1 →
      ∃ t, exec p.1 s = .next t ∧ t.railSt n = railFalling ∧ t.get F.SQ_RAIL_ST_CAUSE n = p.2.2
        ∧ t.get F.SQ_FAIL_CH = n ∧ t.get F.SQ_FAIL_CAUSE = p.2.2 ∧ t.on F.SQ_FAIL_CLASS = true ∧ t.on F.SQ_EVT_FAIL_P = true
        ∧ t.seq = s.seq ∧ t.gstate = s.gstate
        ∧ (∀ k : Nat, k < 24 → t.on F.SQ_RAIL_ST_HELD k = (s.on F.SQ_RAIL_ST_HELD k
            || s.railUsed k && (decide (k = n) || (s.get F.SQ_RAIL_DEP_DEP n).testBit k)))
        ∧ (s.sq.offQ = [] → ∀ k : Nat, k ≠ n → (s.get F.SQ_RAIL_DEP_DEP n).testBit k = false → t.railSt k = s.railSt k)
        ∧ (s.mainUp = true → (∀ k : Nat, s.on F.SQ_RAIL_CFG_CORE k = false) → ∀ q : Nat, q < s.fuses.variant.ports →
            s.on F.STR_CTRL_AUTO q = true → s.get F.STR_CTRL_RAIL q = n → s.pstate q ≠ psCal → t.pstate q = psDisabled))
  ∧ (∀ (n : Nat) (s : State), s.tidy = true → s.stbyUp = true → n < s.fuses.variant.rails → s.railUsed n = true →
        s.on F.SQ_RAIL_CFG_NOSENSE n = true → s.on F.TST_VSN_ARMED = false →
      (∀ p ∈ [Instr.railPgtoTimeout n, .railDrop n, .railOffTimeout n], exec p s = .next s)
      ∧ (∀ good off : Bool, ∃ t, exec (.goodComparatorChange n good off) s = .next t ∧ t.on F.SQ_RAIL_ST_GOOD_CMP n = good
          ∧ t.on F.SQ_RAIL_ST_OFF_CMP n = off ∧ s.fieldsKept t [F.SQ_RAIL_ST_GOOD_CMP.place n, F.SQ_RAIL_ST_OFF_CMP.place n] ∧ s.restKept t)
      ∧ (s.noPortFollows n → s.railSt n = railRamp → s.sq.onQ = [] →
        ∃ t, exec (.railGood n) s = .next t ∧ t.railSt n = railGood ∧ s.timeKept t ∧ s.bytesKept t)
      ∧ (s.noPortFollows n → s.railSt n = railFalling → s.sq.offQ = [] → s.sq.onQ = [] → (s.seq = sqUp → s.onG n ≠ s.gstate) →
        ∃ t, exec (.railOff n) s = .next t ∧ t.railSt n = railOffSt ∧ t.on F.SQ_RAIL_ST_OFF_CMP n = s.on F.SQ_RAIL_ST_OFF_CMP n
          ∧ s.timeKept t))
  ∧ (∀ (n : Nat) (s : State), s.tidy = true → n < 24 → s.sensed n = true → s.on F.SQ_RAIL_CFG_CORE n = true → s.railSt n = railGood →
      ∃ t, exec (.railDrop n) s = .next t ∧ t.mainUp = false ∧ t.ready = false ∧ t.pwr.rstOut = true ∧ t.pwr.synStarted = false
        ∧ t.cyc = 0 ∧ t.get F.SQ_RAIL_ST_CAUSE n = causeDrop
        ∧ (∀ (f : Fld) (i : Nat), f.dom = .aon ∨ f.dom = .sticky → t.get f i = s.get f i))

/-- The push-button (R281, R282): a press in OFF is an on request, in FAULT_OFF it clears the fault too; a short press in RUN with
BTN_OFF starts the acknowledgement timer, without it sets BTN_SHORT only; a long press with BTN_OFF is an off request; the
timer's end is an off request. A request adds a pulse where none is on its way (assumption 46). -/
def Obligations.PushButtonActsAsTabled : Prop :=
  (∀ s : State, s.tidy = true → s.stbyUp = true → s.sq.progOk = true → s.sq.learned = true → s.seq = sqOff ∨ s.seq = sqFaultOff →
    ∃ t, exec .pwrbtnPress s = .next t ∧ t.seq = sqOff ∧ t.sq.btn = true
      ∧ t.out = s.out ++ (if s.sq.asked then [] else [.seqCommand false])
      ∧ (s.seq = sqFaultOff → t.get F.SQ_STATUS_RETRY = 0) ∧ s.timeKept t ∧ s.bytesKept t)
  ∧ (∀ s : State, s.tidy = true → s.stbyUp = true → s.seq = sqRun → s.sq.btn = true → s.sq.btnLong = false →
    (s.on F.SQ_CTRL_BTN_OFF = true → ∃ t, exec .pwrbtnRelease s = .next t ∧ t.on F.SQ_EVT_BTN_SHORT = true
      ∧ t.on F.SQ_STATUS_ACK_RUN = true ∧ t.on F.SQ_STATUS_ACKED = false ∧ t.sq.btn = false
      ∧ (t.get F.HIF_SB_ALERT_ALERT).testBit 1 = true)
    ∧ (s.on F.SQ_CTRL_BTN_OFF = false → ∃ t, exec .pwrbtnRelease s = .next t ∧ t.on F.SQ_EVT_BTN_SHORT = true ∧ t.sq.btn = false
      ∧ s.fieldsKept t [F.SQ_EVT_BTN_SHORT.place]))
  ∧ (∀ s : State, s.tidy = true → s.stbyUp = true → s.seq = sqRun → s.sq.btn = true → s.sq.btnLong = false →
    ∃ t, exec .btnLong s = .next t ∧ t.on F.SQ_EVT_BTN_LONG = true
      ∧ t.out = s.out ++ (if s.on F.SQ_CTRL_BTN_OFF && !s.sq.asked then [.seqCommand true] else []))
  ∧ (∀ s : State, s.tidy = true → s.seq = sqRun → s.on F.SQ_STATUS_ACK_RUN = true →
    ∃ t, exec .ackTimeout s = .next t ∧ t.on F.SQ_STATUS_ACK_RUN = false ∧ t.on F.SQ_EVT_ACK_TIMEOUT = true
      ∧ t.out = s.out ++ (if s.sq.asked then [] else [.seqCommand true]))

/-- The supervisor commands (R276, R284): SQ_POWER_ON in OFF, SQ_POWER_OFF in any state, SQ_BTN_ACK with the acknowledgement timer
running and SQ_CLEAR_FAULT in FAULT_OFF complete with OK and their effect, while SQ_POWER_ON in FAULT_OFF is an on request refused
(R274); the pulse of SQ_POWER_ON and of SQ_POWER_OFF follows
the completion, and SQ_CLEAR_FAULT makes an on request that was latched. SQ_RAIL_ON completes with OK for a held class P rail that is OFF in RUN, which it brings to RAMP. -/
def Obligations.SupervisorCommandsComplete : Prop :=
  ∀ (c : Cmd) (s : State), c.admitted s false →
    (c.reservedOk 0 0 0 false = true →
      (s.seq = sqOff → s.sq.progOk = true → s.sq.learned = true →
        exec (.sqPowerOn c) s = .next ((c.done (c.begun s) stOk).onRequest false))
      ∧ (s.seq = sqFaultOff → ∃ t, exec (.sqPowerOn c) s = .next t ∧ (s.tidy = true → t.on F.SQ_EVT_ON_REFUSED = true))
      ∧ exec (.sqPowerOff c) s = .next ((c.done (c.begun s) stOk).offRequest false)
      ∧ (s.on F.SQ_STATUS_ACK_RUN = true →
        exec (.sqBtnAck c) s = .next (c.done (((c.begun s).set F.SQ_STATUS_ACK_RUN 0).set F.SQ_STATUS_ACKED 1) stOk))
      ∧ (s.seq = sqFaultOff → s.tidy = true →
        (s.on F.SQ_STATUS_ON_PEND = false →
          exec (.sqClearFault c) s = .next (c.done (((c.begun s).set F.SQ_STATUS_SEQ sqOff).set F.SQ_STATUS_RETRY 0) stOk))
        ∧ (s.on F.SQ_STATUS_ON_PEND = true →
          exec (.sqClearFault c) s = .next (c.done (((((c.begun s).set F.SQ_STATUS_SEQ sqOff).set F.SQ_STATUS_RETRY 0).lower
            F.SQ_STATUS_ON_PEND).onRequest false) stOk))))
    ∧ (c.reservedOk 0x1F 0 0 false = true → c.a.toNat < 24 → s.railUsed c.a.toNat = true →
        s.on F.SQ_RAIL_CFG_CLASS c.a.toNat = true → s.on F.SQ_RAIL_ST_HELD c.a.toNat = true → s.seq = sqRun →
        s.railSt c.a.toNat = railOffSt → s.tidy = true → s.noPortFollows c.a.toNat →
      ∃ u, exec (.sqRailOn c) s = .next (c.done u stOk) ∧ u.railSt c.a.toNat = railRamp
        ∧ u.on F.SQ_RAIL_ST_HELD c.a.toNat = false ∧ u.seq = s.seq)

/-! ### The Atoll -/

/-- Counting (R235, R236, R240): untrimmed cycles run the prescaler and ACC, each wrap of the prescaler is a second; heartbeats
and their absence move MAIN; a trim interval sets AT_TRIM by the table rule at the basic level, from the table as the lost words of
retention and a learning update that has crossed leave it, but for an update that commits on the interval's own edge (R241, R255).
AT_TEMP shows the sample under the ATEMP offset, a new one from the first 32 kHz edge after it was sent on (R328). -/
def Obligations.AtollCountsAndTrims : Prop :=
  (∀ (cycles : Nat) (edge : Raw) (s : State), s.tidy = true → s.pwr.aonUp = true → s.mainUp = false →
    ∃ t, exec (.atollSecond cycles edge) s = .next t
      ∧ t.ato.acc = (trimRun s.ato.acc s.trim cycles).1
      ∧ (t.get F.AT_SUBSEC_CYC : Int) = ((s.get F.AT_SUBSEC_CYC : Int) + cycles + (trimRun s.ato.acc s.trim cycles).2) % 32768
      ∧ t.tai % 2 ^ 48 = (s.tai + (((s.get F.AT_SUBSEC_CYC : Int) + cycles + (trimRun s.ato.acc s.trim cycles).2) / 32768).toNat) % 2 ^ 48
      ∧ s.timeKept t ∧ s.lineKept t ∧ s.bytesKept t)
  ∧ (∀ s : State, s.tidy = true → s.pwr.aonUp = true → s.ready = true →
    ∃ t, exec .heartbeat s = .next t ∧ t.on F.AT_STAT_MAIN = true ∧ t.ato = { s.ato with hb := s.tai, mainAt := if s.on F.AT_STAT_MAIN then s.ato.mainAt else s.raw }
      ∧ s.fieldsKept t [F.AT_STAT_MAIN.place])
  ∧ (∀ s : State, s.tidy = true → s.pwr.aonUp = true →
    ∃ t, exec .heartbeatTimeout s = .next t ∧ t.on F.AT_STAT_MAIN = false ∧ s.fieldsKept t [F.AT_STAT_MAIN.place] ∧ s.restKept t)
  ∧ (∀ (cycles : Nat) (atemp : BitVec 12) (lost : List Nat) (us : Nat) (s : State), s.tidy = true → s.pwr.aonUp = true →
      s.on F.AT_CTRL_XEN = false →
    ∃ t, exec (.trimInterval cycles atemp us lost) s = .next t
      ∧ (let u := lost.foldl (fun (x : State) w => x.retentionLost w) s
         t.get F.AT_TRIM_TRIM
           = toBits F.AT_TRIM_TRIM.width ((if cycles ≤ 1 then u else u.atollRun cycles).tableTrim atemp.toInt).1)
      ∧ (lost = [] → s.ato.learnt = none →
          t.get F.AT_TRIM_TRIM = toBits F.AT_TRIM_TRIM.width (s.tableTrim atemp.toInt).1)
      ∧ t.get F.AT_TEMP_TEMP = toBits F.AT_TEMP_TEMP.width (clampInt (-2048) 2047
          (atemp.toInt + (if cycles = 0 then s.ato.atempOfs else s.ato.atempNext.getD s.ato.atempOfs))))

/-- Learning, the mirror and WAKE_N (R241, R243, R253). A window that meets the conditions of R241, converted under R49 from the line's
captures, gives y = 8 * 10^9 ns over its length, less 1; further than 50 ppm from the factory curve it is rejected. Else the point nearest
to the mean temperature learns: when the update has crossed, its E is y referred to the point along the factory curve, or a sixteenth
of the way there where it was learned before, its N one more and LEARNED set. The mirror copy goes to the sector that does not hold the
newest one, with the next generation and the 64 points. WAKE_N is released at the end of its pulse, or by a 1 written to WAKE. -/
def Obligations.AtollLearnsMirrorsAndWakes : Prop :=
  (∀ (start stop : Raw) (first last mean : BitVec 12) (s : State), s.tidy = true →
    let u := s.reach stop
    let dt := u.zt (u.atollEdge stop) - u.zt (u.atollEdge start)
    let y := roundEven ((524288000000000 - dt) * 2 ^ 30 * tableDen) dt
    let d := y - u.factory (63 * mean.toInt)
    let i := (clampInt 0 63 (roundEven (63 * mean.toInt + 40320) 2640)).toNat
    u.learnable (u.atollEdge start) first.toInt last.toInt = true → 0 < dt →
    (roundEven (50 * 2 ^ 30 * tableDen) 1000000 < d.natAbs → exec (.learningMeasurement start stop mean first last) s = .next u)
    ∧ ((d.natAbs : Int) ≤ roundEven (50 * 2 ^ 30 * tableDen) 1000000 →
      ∃ p, exec (.learningMeasurement start stop mean first last) s = .next { u with ato := { u.ato with learnt := some p } }
        ∧ (let t := ({ u with ato := { u.ato with learnt := some p } } : State).commitX2
           let yi := u.factory (pointTemp i) + d
           t.on F.AT_TBL_LEARNED i = true ∧ t.get F.AT_TBL_N i = satAdd 8 (u.get F.AT_TBL_N i) 1
             ∧ t.get F.AT_TBL_E i = toBits 20 (if u.on F.AT_TBL_LEARNED i
                 then u.int F.AT_TBL_E i + roundEven (yi - u.int F.AT_TBL_E i * tableDen) (16 * tableDen) else roundEven yi tableDen)
             ∧ t.ato.changed = true)))
  ∧ (∀ s : State, s.tidy = true → s.ready = true → s.on F.AT_CTRL_MIRROR_EN = true → s.tbState = tbLocked → s.ato.changed = true →
    ∃ t, exec .mirrorWrite s = .next t
      ∧ (let sec := if s.mirrorGen 801 < s.mirrorGen 800 then 801 else 800
         Store.get (0, []) t.ato.mirror sec = (max (s.mirrorGen 800) (s.mirrorGen 801) + 1, (List.range 64).map s.pointWord)
         ∧ (∀ k : Nat, k ≠ sec → Store.get (0, []) t.ato.mirror k = Store.get (0, []) s.ato.mirror k))
      ∧ { t.ato with mirror := s.ato.mirror } = { s.ato with changed := false }
      ∧ s.fieldsKept t [] ∧ s.timeKept t ∧ s.lineKept t ∧ s.hostKept t ∧ s.bytesKept t)
  ∧ (∀ s : State, s.tidy = true → s.ato.wakePulse = true →
    ∃ t, exec .wakePulseEnd s = .next t ∧ t.on F.AT_STAT_WAKE = false ∧ t.ato = { s.ato with wakePulse := false }
      ∧ s.fieldsKept t [F.AT_STAT_WAKE.place] ∧ s.timeKept t ∧ s.lineKept t ∧ s.hostKept t ∧ s.bytesKept t)
  ∧ (∀ (ag : Agent) (v : Word) (s : State), s.tidy = true → s.reaches ag 0xC0004 → s.pwr.aonUp = true → v.toNat.testBit 6 = true →
    ∃ t, exec (.wakeRelease ag v) s = .next t ∧ t.on F.AT_STAT_WAKE = false ∧ t.ato.wakePulse = false ∧ s.timeKept t
      ∧ s.lineKept t ∧ s.bytesKept t)

/-- AT_SET_TIME sets the seconds counter, marks the time valid and clears CELL_LOSS and the mark of an invalid calendar;
AT_SET_UTC sets the UTC offset at once, or schedules a change of one second at the end of a UTC minute (R246, R247). -/
def Obligations.AtollTimeCommandsComplete : Prop :=
  (∀ (c : Cmd) (s : State), s.tidy = true → c.admitted s false → c.reservedOk 0 (2 ^ 48 - 1) (2 ^ 32 - 1) false = true →
      s.pwr.aonUp = true → (s.mainUp = false ∨ s.tbState ≠ tbLocked ∨ s.on F.AT_CTRL_DISC_EN = false) → c.cAt 0 4 ≤ 999999999 →
    ∃ u, exec (.atSetTime c) s = .next (c.done u stOk) ∧ u.tai = c.b.toNat ∧ u.on F.AT_STAT_TIME_VALID = true
      ∧ u.on F.AT_STAT_CELL_LOSS = false ∧ u.on F.MON_AT_STAT_CAL_INV = false ∧ s.timeKept u ∧ s.bytesKept u)
  ∧ (∀ (c : Cmd) (s : State), s.tidy = true → c.admitted s false → c.reservedOk 0xFFFF (2 ^ 48 - 1) 0 false = true →
      s.pwr.aonUp = true →
    (c.b.toNat = 0 → ∃ u, exec (.atSetUtc c) s = .next (c.done u stOk) ∧ u.get F.AT_UTC_OFS = c.a.toNat % 2 ^ 16 ∧ s.timeKept u)
    ∧ (signed 16 c.a.toNat - s.int F.AT_UTC_OFS = 1 ∨ signed 16 c.a.toNat - s.int F.AT_UTC_OFS = -1 →
        s.tai < c.b.toNat → ((c.b.toNat : Int) - signed 16 c.a.toNat) % 60 = 0 →
      ∃ u, exec (.atSetUtc c) s = .next (c.done u stOk) ∧ u.get F.AT_UTC_NEXT = c.a.toNat % 2 ^ 16
        ∧ u.get F.AT_UTC_AT_AT = c.b.toNat ∧ u.on F.AT_STAT_UTC_PEND = true ∧ u.get F.AT_UTC_OFS = s.get F.AT_UTC_OFS))

/-- Key slots and the learned table (R243, R256): a key write fills its slot, its ID and its check value, which is the result;
AT_ZEROIZE empties all four slots; AT_TBL_CLEAR unlearns every point and marks the mirror. -/
def Obligations.AtollKeyAndTableCommandsComplete : Prop :=
  (∀ (c : Cmd) (s : State), s.tidy = true → c.admitted s true → c.reservedOk 0xFFFF 0 0 true = true → c.readOk (c.begun s) 32 →
      bits c.a.toNat 0 8 < 4 → bits c.a.toNat 8 8 ≠ 0 → s.ato.resp.testBit 6 = false → s.ready = true →
      s.pwr.aonUp = true →
    ∃ u kcv, exec (.atKeyWrite c) s = .next (c.done u stOk kcv)
      ∧ kcv = leAt (hmacSha256 (c.input (c.afterRead (c.begun s) 32) 32) (List.replicate 8 0)) 0 2
      ∧ u.on F.AT_KEY_VALID (bits c.a.toNat 0 8) = true ∧ u.get F.AT_KEY_KEYID (bits c.a.toNat 0 8) = bits c.a.toNat 8 8
      ∧ u.ato.keys = Store.set [] s.ato.keys (bits c.a.toNat 0 8) (c.input (c.afterRead (c.begun s) 32) 32))
  ∧ (∀ (c : Cmd) (s : State), s.tidy = true → c.admitted s false → c.reservedOk 0 0 0 false = true → s.pwr.aonUp = true →
    (∃ u, exec (.atZeroize c) s = .next (c.done u stOk) ∧ u.ato.keys = [] ∧ (∀ i : Nat, i < 4 → u.on F.AT_KEY_VALID i = false
        ∧ u.get F.AT_KEY_KEYID i = 0 ∧ u.get F.AT_KEY_KCV i = 0) ∧ s.timeKept u ∧ s.bytesKept u)
    ∧ (s.ato.learnt = none → ∃ u, exec (.atTblClear c) s = .next (c.done u stOk) ∧ u.ato = { s.ato with changed := true, lost := 0 }
        ∧ (∀ i : Nat, i < 64 → u.on F.AT_TBL_LEARNED i = false ∧ u.get F.AT_TBL_N i = 0 ∧ u.get F.AT_TBL_E i = 0)))

/-! ### Monitors -/

/-- A detection of an enabled source outside a blind window is counted and, with K detections within W, confirms the source: it
becomes active and sticky and joins the union with its responses (R287 to R289, R291). MS0, MS1, MS2 and MS4 sense on the Atoll's
supply, MS5 while the main domain runs, from step 8 on; MS2 counts only while VSTBY supplies the Atoll. -/
def Obligations.MonitorDetectionsConfirm : Prop :=
  ∀ (us : Nat) (s : State), s.tidy = true →
    ∀ p ∈ [((0 : Nat), Instr.enclSample true us), (1, .meshSample true us), (2, .cellDetection us), (4, .aoscDetection us),
        (5, .vgltDetection us)],
      s.msEn p.1 = true → (p.1 < 5 → s.pwr.aonUp = true) → (p.1 = 5 → s.mainUp = true ∧ s.pwr.step8 = true) → (p.1 = 2 → s.on F.AT_STAT_SRC = false) →
      s.mon.blind.find? (fun q => decide (q.1 = p.1)) = none →
      ∃ t, exec p.2 s = .next t ∧ t.pwr.us = max s.pwr.us us
        ∧ (p.1 < 5 → t.get F.MON_SRCA_CNT_DET_CNT p.1
            = satAdd F.MON_SRCA_CNT_DET_CNT.width (s.get F.MON_SRCA_CNT_DET_CNT p.1) 1)
        ∧ (p.1 = 5 → t.get F.MON_SRCS_CNT_DET_CNT 0 = satAdd F.MON_SRCS_CNT_DET_CNT.width (s.get F.MON_SRCS_CNT_DET_CNT 0) 1)
        ∧ (s.msActive p.1 = false →
            s.msK p.1 ≤ ((us :: (Store.get [] s.mon.dets p.1).filter (fun x => decide (us < x + 1000 * s.msW p.1))).take 255).length →
            t.msActive p.1 = true ∧ (t.get F.MON_STICKY_MS).testBit p.1 = true ∧ t.ato.members.testBit p.1 = true
              ∧ t.ato.resp = s.ato.resp ||| s.msResp p.1)
        ∧ s.timeKept t ∧ s.bytesKept t

/-- A source inactive and the slow clock run cleared change one bit each (R288, R289). MON_SELFTEST opens the blind window of its
source without completing yet; the window's end closes it, sets the result and its event, and counts a detection within it as the
stimulus (R297). -/
def Obligations.ConditionsEndAndSelfTestIsBlind : Prop :=
  ((∀ (k : Nat) (s : State), s.tidy = true → k < 8 →
      ∃ t, exec (.sourceInactive k) s = .next t ∧ t.msActive k = false
        ∧ (∀ j : Nat, j < 8 → j ≠ k → t.msActive j = s.msActive j)
        ∧ s.fieldsKept t [F.MON_STATUS_ACTIVE.place] ∧ s.timeKept t ∧ s.lineKept t ∧ s.hostKept t ∧ s.bytesKept t ∧ t.pwr = s.pwr
        ∧ t.sq = s.sq ∧ t.mon = s.mon ∧ { t.ato with active := s.ato.active } = s.ato)
    ∧ (∀ s : State, s.tidy = true →
      ∃ t, exec .rcRunClear s = .next t ∧ t.on F.MON_AT_STAT_RC_RUN = false ∧ s.fieldsKept t [F.MON_AT_STAT_RC_RUN.place]
        ∧ s.restKept t))
  ∧ ((∀ (c : Cmd) (s : State), s.tidy = true → c.admitted s false → c.reservedOk 0xFF 0 0 false = true → s.selftestStatus c.a.toNat = stOk →
      ∃ t, exec (.monSelftest c) s = .next t ∧ (t.mon.blind.find? (fun q => decide (q.1 = c.a.toNat))).isSome = true
        ∧ (c.a.toNat < 5 → t.on F.MON_SRCA_ST_ST_BUSY c.a.toNat = true) ∧ t.out = s.out ∧ s.timeKept t ∧ s.bytesKept t)
    ∧ (∀ (k : Nat) (hit : Bool) (us : Nat) (x : SelfTest) (s : State), s.tidy = true → k < 8 →
        s.mon.blind.find? (fun q => decide (q.1 = k)) = some (k, x) →
      ∃ t, exec (.selftestWindowEnd k hit false us) s = .next t ∧ t.mon.blind.find? (fun q => decide (q.1 = k)) = none
        ∧ (k < 5 → t.on F.MON_SRCA_ST_ST_BUSY k = false ∧ t.get F.MON_SRCA_ST_ST_RES k = (if hit || x.hit then 1 else 2))
        ∧ (5 ≤ k → t.on F.MON_SRCS_ST_ST_BUSY (k - 5) = false ∧ t.get F.MON_SRCS_ST_ST_RES (k - 5) = (if hit || x.hit then 1 else 2))
        ∧ (s.stbyUp = true → (hit || x.hit → t.on F.MON_EVT_ST_PASS = true)
          ∧ ((hit || x.hit) = false → t.on F.MON_EVT_ST_FAIL = true))))

/-- A JTEMP sample with the main domain running takes the highest of the junction readings under their trims, sets JTEMP, whose 12 bits
hold at most 127.94 degrees (assumption 21), and moves the thermal level by the thresholds of R298; a sample below the SHUT level is no
detection. The energy governor (R298 to R301): P of each millisecond enters the
newest bucket, the oldest of 60 buckets falls out, one shedding step is taken while the budget asks and one step is given back at
RESTORE_AT. -/
def Obligations.HeatAndPowerAreGoverned : Prop :=
  (∀ (l : List Int) (x : Int) (us : Nat) (s : State), s.tidy = true → s.mainUp = true →
        maxInt (l.zipIdx.map (fun y => s.junction y.2 y.1)) = some x →
      ∃ t, exec (.jtempSample l us) s = .next t
        ∧ t.get F.MON_JTEMP_JTEMP = toBits F.MON_JTEMP_JTEMP.width (clampInt (-2048) 2047 x)
        ∧ t.get F.MON_STATUS_JT_LVL = thermalLevel (s.get F.MON_STATUS_JT_LVL) x
        ∧ t.pwr.us = max s.pwr.us us ∧ t.mon.budLvl = s.mon.budLvl
        ∧ (x < 2160 → t.mon = s.mon ∧ t.ato = s.ato) ∧ s.timeKept t ∧ s.bytesKept t)
  ∧ ((∀ (l : List Nat) (us : Nat) (s : State), s.tidy = true → s.mainUp = true →
      let p := (l.zipIdx.foldl (fun (a : Int) x => a + s.gained (13 + x.2) x.1) 0).toNat
      ∃ t, exec (.govEvaluation l us) s = .next t ∧ t.get F.MON_GOV_STAT_P = min (p + s.get F.MON_GOV_THR_PIO) 32767
        ∧ (∀ h r, s.mon.buckets = h :: r → t.mon.buckets
            = (h + (min (p + s.get F.MON_GOV_THR_PIO) 32767 - s.get F.MON_GOV_LIM_PCONT)) :: r)
        ∧ t.get F.MON_GOV_STAT_USED = min t.usedNow 65535 ∧ s.timeKept t ∧ s.bytesKept t)
    ∧ (∀ s : State, ∃ t, exec .govBucketAdvance s = .next t ∧ t.mon.buckets = 0 :: s.mon.buckets.take 59 ∧ s.timeKept t ∧ s.bytesKept t)
    ∧ (∀ s : State, s.tidy = true → s.mainUp = true → s.on F.MON_CTRL_GOV_EN = true → s.shedAt ≤ s.get F.MON_GOV_STAT_USED →
        s.get F.MON_GOV_LIM_PCONT < s.get F.MON_GOV_STAT_P → s.get F.MON_STATUS_JT_LVL < 2 → s.mon.jtLvl ≤ s.mon.budLvl →
        s.mon.budLvl < 4 → s.get F.MON_STATUS_SHED_LVL = s.mon.budLvl →
      ∃ t, exec .govShedStep s = .next t ∧ t.get F.MON_STATUS_SHED_LVL = s.mon.budLvl + 1 ∧ t.on F.MON_EVT_GOV_SHED = true
        ∧ t.mem.pauseReq = true ∧ t.mon.budLvl = s.mon.budLvl + 1)
    ∧ (∀ s : State, s.tidy = true → 0 < s.get F.MON_STATUS_SHED_LVL → s.get F.MON_STATUS_SHED_LVL = max s.mon.budLvl s.mon.jtLvl →
        s.get F.MON_GOV_STAT_USED ≤ s.restoreAt → s.get F.MON_STATUS_JT_LVL < 2 → s.get F.MON_STATUS_SHED_LVL ≤ 4 →
      ∃ t, exec .govRestoreStep s = .next t ∧ t.get F.MON_STATUS_SHED_LVL = s.get F.MON_STATUS_SHED_LVL - 1
        ∧ t.on F.MON_EVT_GOV_RESTORE = true))

/-- A union closes (R251, R291 to R294): in STANDBY or BATTERY INT and TAINT are deferred and ZEROIZE empties the key slots; in
MAIN a TAINT sets TAINT, an INT asserts the alert, a WAKE drives WAKE_N, a ZEROIZE empties the key slots, and a RESET with LOG
waits for its record. The end of that wait is a main reset, or for a waiting shutdown in RUN an off request with SD_LATCH (a pulse where none
is on its way, assumption 46), and the next that waits follows.
MON_RAISE joins the next union as source SW (R295). -/
def Obligations.UnionsExecuteTheirResponses : Prop :=
  (∀ s : State, s.tidy = true → s.pwr.aonUp = true → s.ato.members ≠ 0 → s.on F.AT_STAT_MAIN = false →
    ∃ t, exec .unionClose s = .next t ∧ t.ato.members = 0 ∧ t.ato.resp = 0
      ∧ (s.ato.resp.testBit 1 = true → t.on F.AT_DEFER_INT = true) ∧ (s.ato.resp.testBit 3 = true → t.on F.AT_DEFER_TAINT = true)
      ∧ (s.ato.resp.testBit 6 = true → t.ato.keys = []) ∧ s.timeKept t ∧ s.bytesKept t)
  ∧ (∀ s : State, s.tidy = true → s.pwr.aonUp = true → s.ato.members ≠ 0 → s.on F.AT_STAT_MAIN = true →
    ∃ t, exec .unionClose s = .next t ∧ t.ato.members = 0 ∧ t.ato.resp = 0
      ∧ (s.ato.resp = rTaint → t.on F.SRV_STATUS_TAINT = true) ∧ (s.ato.resp = rWake → t.on F.AT_STAT_WAKE = true)
      ∧ (s.ato.resp = rInt → (t.get F.HIF_SB_ALERT_ALERT).testBit 2 = true) ∧ (s.ato.resp = rZeroize → t.ato.keys = [])
      ∧ (s.ato.resp = rLog + rReset → s.ato.wait = none → t.ato.wait = some true))
  ∧ (∀ s : State, s.ato.wait = some true →
    ∃ t, exec .matrixLogWaitEnd s = .next t ∧ t.mainUp = false ∧ t.cyc = 0 ∧ t.pwr.rstOut = true
      ∧ t.ato.wait = s.ato.waits.head?.map (·.1) ∧ t.ato.waits = s.ato.waits.tail)
  ∧ (∀ s : State, s.tidy = true → s.ato.wait = some false → s.seq = sqRun →
    ∃ t, exec .matrixLogWaitEnd s = .next t ∧ t.on F.SQ_STATUS_SD_LATCH = true
      ∧ t.out = s.out ++ (if s.sq.asked then [] else [.seqCommand true])
      ∧ t.ato.wait = s.ato.waits.head?.map (·.1) ∧ t.ato.waits = s.ato.waits.tail)
  ∧ (∀ (c : Cmd) (s : State), s.tidy = true → c.admitted s false → c.reservedOk 0x7F 0 0 false = true → c.a.toNat ≠ 0 →
    ∃ u, exec (.monRaise c) s = .next (c.done u stOk) ∧ u.ato.members = s.ato.members ||| 2 ^ 12
      ∧ u.ato.resp = s.ato.resp ||| c.a.toNat ∧ u.on F.MON_EVT_RAISED = true ∧ s.timeKept u ∧ s.bytesKept u)

/-- Sticky flags (R296): the two unlock values within 1 ms open the window for their agent, in which a flag that is neither active
nor joining a union is cleared, but in an Atoll without supply (R24), and the window closes; a wrong value, in a hold-off or not, is a failed unlock with its hold-off,
and in a hold-off the right values open no window; the window and the hold-off end in time. -/
def Obligations.StickyFlagsNeedTheUnlock : Prop :=
  (∀ (ag : Agent) (v : Word) (us : Nat) (s : State), s.tidy = true → (s.tellUs us).reaches ag 0xE000C →
    (v.toNat % 65536 = 0x5EA1 →
      ∃ t, exec (.monUnlock ag v us) s = .next t
        ∧ t.mon = { s.mon with unlock := Store.set 0 s.mon.unlock (b2n (decide (ag = .sideband))) (max s.pwr.us us + 1) })
    ∧ (v.toNat % 65536 = 0x0C1E → Store.get 0 s.mon.unlock (b2n (decide (ag = .sideband))) ≠ 0 →
        max s.pwr.us us + 1 ≤ Store.get 0 s.mon.unlock (b2n (decide (ag = .sideband))) + 1000 →
      ∃ t, exec (.monUnlock ag v us) s = .next t ∧ t.mon.holdoff = s.mon.holdoff
        ∧ (s.mon.holdoff = false → t.on F.MON_STATUS_UNLOCKED = true ∧ t.get F.MON_STATUS_UNL_AGENT = b2n (decide (ag = .sideband)))
        ∧ (s.mon.holdoff = true → t.on F.MON_STATUS_UNLOCKED = s.on F.MON_STATUS_UNLOCKED))
    ∧ (v.toNat % 65536 ≠ 0x5EA1 → v.toNat % 65536 ≠ 0x0C1E →
      ∃ t, exec (.monUnlock ag v us) s = .next t ∧ t.on F.MON_EVT_UNLOCK_FAIL = true ∧ t.mon.holdoff = true ∧ t.mon.unlock = []))
  ∧ (∀ (ag : Agent) (v : Word) (n : Nat) (s : State), s.tidy = true → s.reaches ag 0xE0010 → s.on F.MON_STATUS_UNLOCKED = true →
      s.get F.MON_STATUS_UNL_AGENT = b2n (decide (ag = .sideband)) → n < 8 → v.toNat.testBit n = true →
      (s.get F.MON_STATUS_ACTIVE).testBit n = false →
      s.ato.members.testBit n = false → (s.get F.MON_STICKY_MS).testBit n = true →
    ∃ t, exec (.monStickyClear ag v) s = .next t ∧ (t.get F.MON_STICKY_MS).testBit n = !s.pwr.aonUp
      ∧ t.on F.MON_STATUS_UNLOCKED = false)
  ∧ (∀ s : State, s.tidy = true →
    (∃ t, exec .unlockWindowExpiry s = .next t ∧ t.on F.MON_STATUS_UNLOCKED = false
      ∧ s.fieldsKept t [F.MON_STATUS_UNLOCKED.place] ∧ s.restKept t)
    ∧ exec .unlockHoldoffEnd s = .next { s with mon := { s.mon with holdoff := false } })

/-! ### On-chip memory -/

/-- The test engine goes round IDLE, COPY, TEST, RETURN and back with the next window, a wrap counting a pass; a failing word is recorded
(R387, R389). A pause takes effect at once in IDLE, else on entry to it: PAUSED with MT_PAUSED set, until shedding step 1 is undone (R300). -/
def Obligations.MemoryTestGoesRound : Prop :=
  (∀ s : State, s.tidy = true → s.mainUp = true → s.get F.MEM_STATUS_MT_STATE = mtIdle → s.mtMay = true →
    ∃ t, exec .mtWindowBorrow s = .next t ∧ t.get F.MEM_STATUS_MT_STATE = mtCopy
      ∧ (s.windowRetained (s.get F.MEM_MT_WIN_IDX) = false → t.get F.MEM_MT_WIN_IDX = s.get F.MEM_MT_WIN_IDX) ∧ s.restKept t)
  ∧ (∀ s : State, s.tidy = true → s.get F.MEM_STATUS_MT_STATE = mtCopy →
    ∃ t, exec .mtCopyDone s = .next t ∧ t.get F.MEM_STATUS_MT_STATE = mtTest ∧ s.fieldsKept t [F.MEM_STATUS_MT_STATE.place]
      ∧ s.restKept t)
  ∧ (∀ (fails : List Nat) (s : State), s.tidy = true → s.get F.MEM_STATUS_MT_STATE = mtTest →
    ∃ t, exec (.mtTestDone fails) s = .next t ∧ t.get F.MEM_STATUS_MT_STATE = mtReturn ∧ t.mem.mtFails = fails
      ∧ (∀ w, fails.getLast? = some w → t.get F.MEM_MT_FAIL_ADDR = w % 2 ^ 20 ∧ t.on F.MEM_EVT_MT_FAIL = true) ∧ s.restKept t)
  ∧ (∀ s : State, s.tidy = true → s.get F.MEM_STATUS_MT_STATE = mtReturn → s.mtMay = true →
    ∃ t, exec .mtReturnDone s = .next t ∧ t.get F.MEM_STATUS_MT_STATE = mtIdle ∧ t.mem.mtFails = []
      ∧ t.get F.MEM_MT_WIN_IDX = (if 3071 ≤ s.get F.MEM_MT_WIN_IDX then 0 else s.get F.MEM_MT_WIN_IDX + 1)
      ∧ t.get F.MEM_MT_WIN_PASS = (if 3071 ≤ s.get F.MEM_MT_WIN_IDX
          then satAdd F.MEM_MT_WIN_PASS.width (s.get F.MEM_MT_WIN_PASS) 1 else s.get F.MEM_MT_WIN_PASS) ∧ s.restKept t)
  ∧ (∀ s : State, s.tidy = true → s.get F.MEM_STATUS_MT_STATE = mtReturn → s.mtMay = false →
    ∃ t, exec .mtReturnDone s = .next t ∧ t.get F.MEM_STATUS_MT_STATE = mtPaused ∧ t.on F.MEM_STATUS_MT_PAUSED = true ∧ s.restKept t)
  ∧ (∀ s : State, s.tidy = true → s.mainUp = true → s.get F.MON_STATUS_JT_LVL < 2 →
    (s.get F.MEM_STATUS_MT_STATE = mtIdle → s.on F.MON_CTRL_GOV_EN = true → s.shedAt ≤ s.get F.MON_GOV_STAT_USED →
        s.mon.below = true → s.mon.budLvl = 0 → s.mon.jtLvl ≤ 4 →
      ∃ t, exec .govShedStep s = .next t ∧ t.get F.MEM_STATUS_MT_STATE = mtPaused ∧ t.on F.MEM_STATUS_MT_PAUSED = true)
    ∧ (s.get F.MEM_STATUS_MT_STATE = mtPaused → s.on F.MEM_CTRL_MT_EN = true → s.get F.MON_STATUS_SHED_LVL = 1 →
        s.get F.MON_GOV_STAT_USED ≤ s.restoreAt →
      ∃ t, exec .govRestoreStep s = .next t ∧ t.get F.MEM_STATUS_MT_STATE = mtIdle ∧ t.on F.MEM_STATUS_MT_PAUSED = false))

/-- While not paused, the scrub corrects every word of its range with one or two bits in error, outside the borrowed window and retained groups
(R384, R390); a pool group that is all free enters retention, and a waking group becomes awake, on which another may begin to wake (R383). -/
def Obligations.ScrubCorrectsAndGroupsRest : Prop :=
  (∀ (first count w : Nat) (s : State), s.tidy = true → s.mainUp = true → s.on F.MEM_CTRL_SCRUB_EN = true → s.mtMay = true →
      first ≤ w → w < first + count → s.borrowed w = false → s.windowRetained (w / 256) = false →
      0 < s.wordErrs (sramKey w) → s.wordErrs (sramKey w) ≤ 2 → s.poisoned (sramKey w) = false →
    ∃ t, exec (.scrub first count) s = .next t ∧ t.wordErrs (sramKey w) = 0 ∧ t.out = s.out ∧ s.timeKept t ∧ s.lineKept t
      ∧ s.boardKept t ∧ s.bytesKept t)
  ∧ (∀ (g : Nat) (s : State), s.tidy = true → s.mainUp = true → s.on F.MEM_CTRL_RET_EN = true → g < 8 → s.groupAwake g = true →
      s.groupFree g = 4096 →
      s.eff F.MEM_RET_CFG_WAKE_LOW ≤ (List.range 8).foldl (fun a h => if h ≠ g && s.groupAwake h then a + s.groupFree h else a) 0 →
    ∃ t, exec (.retentionEnter g) s = .next t ∧ (t.get F.MEM_STATUS_RET).testBit g = true
      ∧ s.fieldsKept t [F.MEM_STATUS_RET.place] ∧ s.restKept t)
  ∧ (∀ (g : Nat) (s : State), s.tidy = true → g < 8 → (s.get F.MEM_STATUS_WAKING).testBit g = true →
      (s.get F.MEM_STATUS_RET).testBit g = false →
    ∃ t, exec (.groupWakeDone g) s = .next t ∧ (t.get F.MEM_STATUS_WAKING).testBit g = false
      ∧ (s.get F.MEM_STATUS_RET = 0 → t.groupAwake g = true)
      ∧ s.fieldsKept t [F.MEM_STATUS_WAKING.place, F.MEM_STATUS_RET.place] ∧ s.restKept t)

/-! ### Standby NVM, test block, boundary scan, service mode -/

/-- Programming the standby NVM (R401, R402): the two key values unlock it, a program takes ADDR and DATA and ends with the word
written and every byte outside it as before, or with FAIL; a read brings the word at ADDR to DATA. -/
def Obligations.StandbyNvmIsProgrammedByWord : Prop :=
  (∀ (ag : Agent) (v : Word) (s : State), s.tidy = true → s.reaches ag 0x80 →
    (v.toNat % 65536 = 0x5E1A → ∃ t, exec (.snvmKeyWrite ag v) s = .next t ∧ t.snvm.key = true ∧ s.bytesKept t ∧ s.timeKept t)
    ∧ (v.toNat % 65536 = 0xA7E1 → s.snvm.key = true →
      ∃ t, exec (.snvmKeyWrite ag v) s = .next t ∧ t.on F.GLB_SNVM_CMD_UNLOCKED = true ∧ t.snvm.key = false ∧ s.bytesKept t)
    ∧ (v.toNat % 65536 = 0 →
      ∃ t, exec (.snvmKeyWrite ag v) s = .next t ∧ t.on F.GLB_SNVM_CMD_UNLOCKED = false ∧ s.bytesKept t))
  ∧ (∀ (ag : Agent) (v : Word) (s : State), s.tidy = true → s.reaches ag 0x98 →
    (v.toNat.testBit 0 = true → v.toNat.testBit 1 = false → s.on F.GLB_SNVM_CMD_BUSY = false → s.on F.GLB_SNVM_CMD_UNLOCKED = true →
      ∃ t, exec (.snvmProg ag v) s = .next t ∧ t.snvm.op = some (s.get F.GLB_SNVM_ADDR_ADDR, s.snvmData)
        ∧ t.on F.GLB_SNVM_CMD_BUSY = true ∧ s.bytesKept t ∧ s.timeKept t)
    ∧ (v.toNat.testBit 0 = false → v.toNat.testBit 1 = true → s.snvm.op = none →
        Store.get false s.snvm.bad (s.get F.GLB_SNVM_ADDR_ADDR) = false →
      ∃ t, exec (.snvmRead ag v) s = .next t ∧ s.bytesKept t ∧ s.timeKept t
        ∧ (∀ j : Nat, j < 4 → t.get F.GLB_SNVM_DATA_DATA j
            = leAt (s.snvm.bytes (16 * s.get F.GLB_SNVM_ADDR_ADDR) 16) (4 * j) 4 % 2 ^ 32)))
  ∧ (∀ (w : Nat) (b : Bytes) (s : State), s.tidy = true → s.mainUp = true → s.snvm.op = some (w, b) →
    (∃ t, exec (.snvmProgDone true) s = .next t ∧ t.snvm.data = s.snvm.data.writeN (16 * w) b ∧ t.snvm.op = none
      ∧ t.on F.GLB_SNVM_CMD_BUSY = false
      ∧ (∀ a : Nat, a < 16 * w ∨ 16 * w + b.length ≤ a → t.snvm.data.read a = s.snvm.data.read a)
      ∧ (∀ a : Nat, t.mem.mailbox.read a = s.mem.mailbox.read a))
    ∧ (∃ t, exec (.snvmProgDone false) s = .next t ∧ t.on F.GLB_SNVM_CMD_FAIL = true ∧ t.on F.GLB_SNVM_CMD_BUSY = false
      ∧ t.snvm.op = none ∧ (∀ a : Nat, a < 16 * w ∨ 16 * w + 16 ≤ a → t.snvm.data.read a = s.snvm.data.read a)))

/-- PROF_SELECT makes a loadable profile the next one, and answers BAD_PARAM with the reason for any other (R397, R400); it waits where
a word that it reads is being programmed (R401). -/
def Obligations.ProfSelectChecksTheProfile : Prop :=
  (∀ (c : Cmd) (s : State), c.admitted s false → c.reservedOk 3 0 0 false = true → s.profBusy c.a.toNat = true →
    ∃ t, exec (.profSelect c) s = .next t ∧ t.snvm = { s.snvm with selects := s.snvm.selects ++ [c] }
      ∧ t.get F.GLB_PROF_NEXT = s.get F.GLB_PROF_NEXT ∧ s.timeKept t)
  ∧ ∀ (c : Cmd) (s : State), s.tidy = true → c.admitted s false → c.reservedOk 3 0 0 false = true → s.profBusy c.a.toNat = false →
    (((c.begun s).checkProf c.a.toNat).1 = 0 →
      ∃ u, exec (.profSelect c) s = .next (c.done u stOk) ∧ u.get F.GLB_PROF_NEXT = c.a.toNat ∧ s.bytesKept u ∧ s.timeKept u)
    ∧ (((c.begun s).checkProf c.a.toNat).1 ≠ 0 →
      ∃ u, exec (.profSelect c) s = .next (c.done u stBadParam ((c.begun s).checkProf c.a.toNat).1)
        ∧ u.get F.GLB_PROF_NEXT = s.get F.GLB_PROF_NEXT ∧ s.bytesKept u)

/-- The test block (R404, R405): its key values unlock it; 0 locks it and takes the perturbations back, an armed TST_VSN included;
FORCE_UNLOCK makes SYN0 lose lock; ARM arms the forced error. -/
def Obligations.TestBlockNeedsItsKey : Prop :=
  (∀ (ag : Agent) (v : Word) (s : State), s.tidy = true → s.reaches ag 0x110000 →
    (v.toNat % 65536 = 0x5A17 → s.on F.TST_STATUS_UNLOCKED = false → s.tstKey = false →
      exec (.tstKeyWrite ag v) s = .next { s with tstKey := true })
    ∧ (v.toNat % 65536 = 0xC0DE → s.on F.TST_STATUS_UNLOCKED = false → s.tstKey = true →
      ∃ t, exec (.tstKeyWrite ag v) s = .next t ∧ t.on F.TST_STATUS_UNLOCKED = true ∧ t.tstKey = false
        ∧ s.fieldsKept t [F.TST_STATUS_UNLOCKED.place] ∧ s.restKept t)
    ∧ (v.toNat % 65536 = 0 →
      ∃ t, exec (.tstKeyWrite ag v) s = .next t ∧ t.on F.TST_STATUS_UNLOCKED = false ∧ t.tstKey = false
        ∧ t.get F.TST_DBDLY_DLY = 0 ∧ t.on F.TST_BP_EN = false ∧ t.on F.TST_ECC_CTRL_ARM = false
        ∧ t.on F.TST_VSN_ARMED = false ∧ (∀ n : Nat, n < 32 → t.get F.TST_TSOFS_RX n = 0 ∧ t.get F.TST_TSOFS_TX n = 0 ∧ t.get F.TST_SPXDROP_K n = 0)
        ∧ (∀ n : Nat, n < 16 → t.get F.TST_TIOSKEW_SKEW n = 0) ∧ s.restKept t))
  ∧ (∀ (ag : Agent) (v : Word) (s : State), s.tidy = true → s.reaches ag 0x110034 → s.on F.TST_STATUS_UNLOCKED = true →
      v.toNat.testBit 0 = true → s.on F.CK_STATUS_SYN_UNLOCK = false →
    ∃ t, exec (.forceUnlock ag v) s = .next t ∧ t.on F.CK_STATUS_SYN_UNLOCK = true ∧ t.on F.CK_STATUS_SYN_LOCK = false
      ∧ t.ck.forced = true)
  ∧ (∀ (ag : Agent) (v : Word) (s : State), s.tidy = true → s.reaches ag 0x110024 → s.on F.TST_STATUS_UNLOCKED = true →
      v.toNat.testBit 10 = true →
    ∃ t, exec (.eccArm ag v) s = .next t ∧ t.on F.TST_ECC_CTRL_ARM = true ∧ s.restKept t)

/-- Boundary scan (R407, R408): the port works while VDD_IO and VDD_CORE are good (the first two CORE rails, assumption 11); EXTEST,
CLAMP, HIGHZ and the pulse instructions hold the main domain in reset, the others only load; Test-Logic-Reset loads IDCODE (assumption
11) and ends the hold. EN, SEQSYNC and RST_OUT_N keep their own function in every instruction, while HIGHZ releases the outputs and the
other test instructions drive them from their cells. -/
def Obligations.BoundaryScanHoldsMainDomain : Prop :=
  (∀ (code : Byte) (cells : List (Nat × Bool)) (s : State), s.stbyUp = true → s.scanUp = true →
    (scanHolds code.toNat = true →
      ∃ t, exec (.jtagInstruction code cells) s = .next t ∧ t.jtag = scanInstr code.toNat ∧ t.mainUp = false ∧ t.pwr.scanHeld = true
        ∧ t.seq = s.seq ∧ t.snvm.data = s.snvm.data)
    ∧ (scanHolds code.toNat = false →
      exec (.jtagInstruction code cells) s = .next { s.scanShift cells with jtag := scanInstr code.toNat }))
  ∧ (∀ (code : Byte) (cells : List (Nat × Bool)) (s : State), s.scanUp = false → exec (.jtagInstruction code cells) s = .next s)
  ∧ (∀ (k : Nat) (b : Ball) (s : State), (boundaryCells s.fuses.variant)[k]? = some b →
      (b.observeOnly = true → s.ballSource k = .function)
      ∧ (b.output = true → b.observeOnly = false → (s.jtag = 4 → s.ballSource k = .released)
          ∧ (s.jtag = 0 ∨ s.jtag = 3 ∨ s.jtag = 5 ∨ s.jtag = 6 → s.ballSource k = .cell (Store.get false s.scanOut k))
          ∧ (s.jtag = 1 ∨ s.jtag = 2 ∨ s.jtag = 0xFF → s.ballSource k = .function)))
  ∧ (∀ s : State, exec .testLogicReset s = .next { s with jtag := 0x02, pwr := { s.pwr with scanHeld := false } })

/-- Partition service mode (R409, R411, R412): EN opens the window; ENTER takes an unclaimed partition into SERVICE where none is;
a microcode word joins the image; EXIT with no image returns to NORMAL. -/
def Obligations.PartitionServiceEntersAndExits : Prop :=
  (∀ (v : Word) (s : State), s.tidy = true → s.mainUp = true → s.pwr.step8 = true →
      (v.toNat.testBit 0 = true ∨ (List.range 4).any s.inService = false) →
    ∃ t, exec (.psmCtrlWrite .host v) s = .next t ∧ t.on F.PSM_CTRL_EN = v.toNat.testBit 0 ∧ s.fieldsKept t [F.PSM_CTRL_EN.place]
      ∧ s.restKept t)
  ∧ (∀ (q : Nat) (s : State), s.tidy = true → s.mainUp = true → s.pwr.step8 = true → s.on F.PSM_CTRL_EN = true → q < 4 →
      s.partBondedQ q = true →
    ((List.range 4).any s.inService = false → (∀ c ∈ partClaims q, s.owner c < 64) →
      ∃ t, exec (.enter .host q) s = .next t ∧ t.inService q = true)
    ∧ (∀ (v : Word), s.inService q = true →
      exec (.psmUcodeWord .host q v) s = .next (s.setUcode q ((Store.get Ucode.none s.psm.ucode q).push v.toNat)))
    ∧ (s.inService q = true → (Store.get Ucode.none s.psm.ucode q).words = 0 →
      ∃ t, exec (.exit .host q) s = .next t ∧ t.inService q = false))

/-! ### Event recorder -/

/-- Record writes (R312 to R318): with a credit the head image is taken up, its SUPPR written and the record of its slot lost, or, where
it cannot be read, discarded and counted as suppressed (R386); a
commitment places it in its slot, takes it from the queue and keeps every record of a good sector (one in a bad circulating sector goes
when the head passes it); the commitment of the record for which a RESET of the monitors waits ends the wait (R293); the end of a period stages a PERIODIC record and starts the next interval; a credit and an operating second count one. -/
def Obligations.RecordsAreWrittenAndCommitted : Prop :=
  (∀ (i : Image) (r : List Image) (s : State), s.tidy = true → s.mainUp = true → s.on F.REC_STATUS_READY = true →
      s.on F.REC_STATUS_RO_MODE = false → s.recd.writing = none → s.recd.queue = i :: r → 0 < s.get F.REC_CREDIT_CREDIT →
    ((s.readWords (imageKey i) 64).1 = true →
      ∃ t, exec .recordWriteStart s = .next t ∧ t.recd.queue = r ∧ t.recd.writing = none ∧ t.recd.slots = s.recd.slots
        ∧ t.get F.REC_SUPPR_PEND_PEND = satAdd F.REC_SUPPR_PEND_PEND.width (s.get F.REC_SUPPR_PEND_PEND) 1
        ∧ t.on F.REC_EVT_SUPPR = true ∧ s.timeKept t ∧ s.bytesKept t)
    ∧ ((s.readWords (imageKey i) 64).1 = false →
    ∃ t, exec .recordWriteStart s = .next t ∧ t.on F.REC_STATUS_WRITING = true
      ∧ t.get F.REC_CREDIT_CREDIT = (s.get F.REC_CREDIT_CREDIT - 1) % 2 ^ F.REC_CREDIT_CREDIT.width ∧ t.get F.REC_SUPPR_PEND_PEND = 0
      ∧ t.recd.queue = { i with data := putAt i.data 21 (le 2 (s.get F.REC_SUPPR_PEND_PEND)) } :: r
      ∧ t.recd.writing = some ⟨s.writeSlot, s.get F.REC_SUPPR_PEND_PEND⟩
      ∧ t.recd.slots = Store.set [] s.recd.slots s.writeSlot [] ∧ s.timeKept t ∧ s.bytesKept t))
  ∧ (∀ (w : RecWrite) (i : Image) (r : List Image) (ok : Bool) (s : State), s.tidy = true → s.recd.writing = some w → s.recd.queue = i :: r →
      s.recd.reads = [] → (i.awaited = false ∨ (s.ato.wait = none ∧ s.ato.waits = [])) →
    ∃ t, exec (.recordCommit none ok) s = .next t ∧ t.on F.REC_STATUS_WRITING = false ∧ t.recd.writing = none ∧ t.recd.queue = r
      ∧ (∃ all : List (Nat × Bytes), all = Store.set [] s.recd.slots w.slot
          (putAt i.data 5 [BitVec.ofNat 8 (leAt i.data 5 1 / 2 * 2 + b2n (decide (w.slot < 1024)))])
        ∧ (w.slot < 1024 → t.recd.slots = all) ∧ (∀ p ∈ t.recd.slots, p ∈ all)
        ∧ (∀ p ∈ all, p.1 < 1024 ∨ p.1 / 4 = w.slot / 4 → p ∈ t.recd.slots)
        ∧ (∀ p ∈ all, w.slot < 3072 → p.1 < 3072 → s.sectorBad (p.1 / 4) = false → p ∈ t.recd.slots))
      ∧ t.get F.REC_STATUS_QLEN = r.length % 2 ^ F.REC_STATUS_QLEN.width
      ∧ (i.trig = trImport → t.get F.AT_LOG_PTR_NEW = 0) ∧ s.timeKept t ∧ s.bytesKept t)
  ∧ (∀ (w : RecWrite) (i : Image) (r : List Image) (ok : Bool) (s : State), s.recd.writing = some w → s.recd.queue = i :: r →
      s.recd.reads = [] → i.awaited = true → s.ato.wait = some true → s.ato.waits = [] →
    ∃ t, exec (.recordCommit none ok) s = .next t ∧ t.mainUp = false ∧ t.cyc = 0 ∧ t.ato.wait = none)
  ∧ (∀ s : State, s.tidy = true → s.mainUp = true → s.on F.REC_STATUS_READY = true → s.on F.REC_STATUS_RO_MODE = false →
      s.recd.queue.length < 32 →
    ∃ t, exec .periodic s = .next t ∧ t.recd.queue.map (·.trig) = s.recd.queue.map (·.trig) ++ [trPeriodic]
      ∧ (∀ q : Nat, (t.ext q).valid = false) ∧ t.recd.hist = [] ∧ t.recd.istart = s.get F.REC_OPSEC_OPSEC
      ∧ t.get F.REC_SEQ_SEQ = (s.get F.REC_SEQ_SEQ + 1) % 2 ^ 32 ∧ s.timeKept t ∧ s.bytesKept t)
  ∧ (∀ s : State, s.tidy = true → s.mainUp = true → s.get F.REC_CREDIT_CREDIT < 2048 →
    ∃ t, exec .writeCreditAdd s = .next t ∧ t.get F.REC_CREDIT_CREDIT = s.get F.REC_CREDIT_CREDIT + 1
      ∧ s.fieldsKept t [F.REC_CREDIT_CREDIT.place] ∧ s.restKept t)
  ∧ (∀ s : State, s.tidy = true → s.mainUp = true →
    ∃ t, exec .opsecTick s = .next t ∧ t.get F.REC_OPSEC_OPSEC = (s.get F.REC_OPSEC_OPSEC + 1) % 2 ^ F.REC_OPSEC_OPSEC.width
      ∧ s.timeKept t ∧ s.boardKept t ∧ s.bytesKept t)

/-- Samples and compaction (R308, R309, R322): a sample enters the extremes of its quantity; a circulating record with a two-bit
correction is refreshed by a pass over the area, and no record is lost by it; under shedding step 2 a pass stops where it stands. -/
def Obligations.SamplesAndRefreshesAreRecorded : Prop :=
  (∀ (q : Nat) (v : Int) (s : State), s.tidy = true → s.ready = true → q < 24 → s.on F.TST_ECC_CTRL_ARM = false →
      s.wordErrs (accKey q) = 0 →
    ∃ t, exec (.quantitySample q v) s = .next t ∧ (t.ext q).valid = true
      ∧ (t.ext q).min = (if (s.ext q).valid then min (s.ext q).min (clampInt (-8388607) 8388607 (s.quantityNow q v))
          else clampInt (-8388607) 8388607 (s.quantityNow q v))
      ∧ (t.ext q).max = (if (s.ext q).valid then max (s.ext q).max (clampInt (-8388607) 8388607 (s.quantityNow q v))
          else clampInt (-8388607) 8388607 (s.quantityNow q v))
      ∧ s.fieldsKept t [] ∧ s.timeKept t ∧ s.boardKept t ∧ s.bytesKept t)
  ∧ (∀ (two : List Nat) (k : Nat) (s : State), s.tidy = true → s.ready = true → s.on F.REC_CTRL_COMPACT_EN = true →
      s.on F.REC_STATUS_COMPACT_DEFER = false → s.on F.REC_STATUS_RO_MODE = false → s.recd.pass = none → s.recd.writing = none →
      1024 ≤ k → k < 3072 → k ∈ two → s.slot k ≠ [] → (∀ j : Nat, s.nvDead (recordWord j) 64 = false) →
    ∃ t, exec (.compactionPass two [] [] 2048 []) s = .next t ∧ t.on F.REC_EVT_REFRESH = true ∧ t.recd.slots = s.recd.slots
      ∧ t.recd.mapBits = s.recd.mapBits ∧ t.recd.pass = none ∧ t.on F.REC_STATUS_COMPACTING = false ∧ s.timeKept t ∧ s.bytesKept t)
  ∧ (∀ (two bad fails maps : List Nat) (n : Nat) (p : Nat × Nat) (s : State), s.tidy = true → s.ready = true →
      s.on F.REC_STATUS_COMPACT_DEFER = true → s.recd.pass = some p →
    ∃ t, exec (.compactionPass two bad fails n maps) s = .next t ∧ t.recd = s.recd ∧ t.on F.REC_STATUS_COMPACTING = false
      ∧ s.fieldsKept t [F.REC_STATUS_COMPACTING.place] ∧ s.timeKept t ∧ s.boardKept t ∧ s.bytesKept t)

/-- The recorder's commands (R323): REC_MARK stages a HOST record; REC_READ delivers the named records with their number, or waits
where it reaches the slot being written; words of main NVM in error are told as they are read (R318, R384); REC_SNAP composes a live image without storing it. What stands as trigger and detail of a live image is open. -/
def Obligations.RecorderCommandsComplete : Prop :=
  (∀ (c : Cmd) (s : State), s.tidy = true → c.admitted s true → s.mainUp = true → c.reservedOk 0xFFFFFFFF 0 0 false = true →
      s.on F.REC_STATUS_RO_MODE = false → s.on F.REC_STATUS_READY = true → s.recd.queue.length < 32 →
    ∃ u, exec (.recMark c) s = .next (c.done u stOk) ∧ u.recd.queue.map (·.trig) = s.recd.queue.map (·.trig) ++ [trHost]
      ∧ u.get F.REC_SEQ_SEQ = (s.get F.REC_SEQ_SEQ + 1) % 2 ^ 32 ∧ s.timeKept u ∧ s.bytesKept u)
  ∧ (∀ (c : Cmd) (s : State), c.admitted s true → c.reservedOk 0x7F7FF1 0 0 true = true → 1 ≤ bits c.a.toNat 16 7 →
      c.recDestOk (bits c.a.toNat 16 7) = true → c.readOk (c.begun s) 0 →
    (∀ w : RecWrite, s.recd.writing = some w → some w.slot ∈ s.readSlots c →
      ∃ u, exec (.recRead c) s = .next u ∧ u.recd = { s.recd with reads := s.recd.reads ++ [c] })
    ∧ ((∀ w : RecWrite, s.recd.writing = some w → some w.slot ∉ s.readSlots c) →
      (let r := (c.afterRead (c.begun s) 0).readRecs (s.readSlots c)
       exec (.recRead c) s = .next (c.deliver r.2 (r.1.flatMap (padTo 1024)) stOk
         (bits c.a.toNat 16 7 - (r.1.filter List.isEmpty).length + 2 ^ 32 * (r.1.filter List.isEmpty).length))
       ∧ r.2.recd = s.recd))
    ∧ ((∀ w : RecWrite, s.recd.writing = some w → some w.slot ∉ s.readSlots c) → s.nvErrs = [] →
    ∃ recs : List Bytes, recs = (List.range (bits c.a.toNat 16 7)).map (fun i =>
        match s.indexSlot (bits c.a.toNat 0 1) (bits c.a.toNat 4 11 + i) with
          | some k => s.slot k
          | none => [])
      ∧ exec (.recRead c) s = .next (c.deliver (c.afterRead (c.begun s) 0) (recs.flatMap (padTo 1024)) stOk
          (bits c.a.toNat 16 7 - (recs.filter List.isEmpty).length + 2 ^ 32 * (recs.filter List.isEmpty).length))))
  ∧ (∀ (c : Cmd) (s : State), c.admitted s true → c.reservedOk 0 0 0 true = true → c.recDestOk 1 = true → c.readOk (c.begun s) 0 →
    ∃ (u : State) (trig detail : Nat), trig < 2 ^ 16 ∧ detail < 2 ^ 32 ∧ u.recd = s.recd
      ∧ exec (.recSnap c) s = .next (c.deliver u (putAt (u.recImage 3 trig (s.get F.REC_SEQ_SEQ) detail false s.histBytes) 21
          (le 2 (s.get F.REC_SUPPR_PEND_PEND))) stOk))

/-! ### Calibration -/

/-- The reference qualifier and the starts of runs (R331, R337, R338): errors within their limits qualify the reference, a loss ends
that; a periodic run whose interval has passed (counted from the last, assumption 10), an auto-trace run and CAL_RUN start with their
steps and ports where no run is under way; one that falls due during another, the power-up run included, waits for its end. -/
def Obligations.CalibrationRunsStart : Prop :=
  (∀ (ck pps : Int) (s : State), s.tidy = true → s.stbyUp = true →
    (ck.natAbs ≤ 50 → pps.natAbs ≤ 1000 → ∃ t, exec (.refQualified ck pps) s = .next t ∧ t.on F.CAL_REFMON_REF_QUAL = true
      ∧ s.fieldsKept t [F.CAL_REFMON_CLK_ERR.place, F.CAL_REFMON_PPS_ERR.place, F.CAL_REFMON_REF_QUAL.place, F.CAL_EVT_REF_QUAL.place]
      ∧ s.restKept t)
    ∧ (∃ t, exec (.refLossCal ck pps) s = .next t ∧ t.on F.CAL_REFMON_REF_QUAL = false
      ∧ (∀ r, t.cal.run = some r → r.refQual = false)
      ∧ (s.cal.run = none →
        s.fieldsKept t [F.CAL_REFMON_CLK_ERR.place, F.CAL_REFMON_PPS_ERR.place, F.CAL_REFMON_REF_QUAL.place, F.CAL_EVT_REF_LOSS.place]
        ∧ s.timeKept t ∧ s.boardKept t ∧ s.bytesKept t)))
  ∧ (∀ s : State, s.tidy = true → s.ready = true → s.cal.run = none →
    (s.on F.CAL_CTRL_PER_EN = true → s.perDue = true → s.cal.due.any (·.periodic) = false → ∃ t, exec .calPeriodicRun s = .next t
      ∧ t.cal.run = some ⟨3, 3, 0, false, true, s.on F.CAL_REFMON_REF_QUAL, none⟩ ∧ t.on F.CAL_STAT_BUSY = true
      ∧ t.get F.CAL_STAT_RUN = 3 ∧ s.timeKept t ∧ s.boardKept t ∧ s.bytesKept t)
    ∧ (s.on F.CAL_CTRL_AUTO_TRACE = true → s.on F.CAL_REFMON_REF_QUAL = true → s.on F.TB_STATUS_UNTRACED = true →
        s.cal.autoDone = false →
      ∃ t, exec .autoTraceRun s = .next t
        ∧ t.cal.run = some ⟨3, 8, s.get F.CAL_PMASK_PMASK % 2 ^ s.fuses.variant.ports, false, false, true, none⟩
        ∧ t.cal.autoDone = true ∧ t.on F.CAL_STAT_BUSY = true ∧ s.timeKept t ∧ s.boardKept t ∧ s.bytesKept t))
  ∧ (∀ s : State, s.get F.REC_OPSEC_OPSEC < s.cal.perAt + 60 * max 1 (s.get F.CAL_CTRL_PERIOD) → exec .calPeriodicRun s = .next s)
  ∧ (∀ (r : CalRun) (s : State), s.mainUp = true → s.cal.run = some r →
    (s.on F.CAL_CTRL_PER_EN = true → s.perDue = true → s.cal.due.any (·.periodic) = false →
      exec .calPeriodicRun s = .next { s with cal := { s.cal with
        due := s.cal.due ++ [⟨3, 3, 0, false, true, s.on F.CAL_REFMON_REF_QUAL, none⟩] } })
    ∧ (s.on F.CAL_CTRL_AUTO_TRACE = true → s.on F.CAL_REFMON_REF_QUAL = true → s.on F.TB_STATUS_UNTRACED = true →
        s.cal.autoDone = false →
      exec .autoTraceRun s = .next { s with cal := { { s.cal with autoDone := true } with
        due := s.cal.due ++ [⟨3, 8, s.get F.CAL_PMASK_PMASK % 2 ^ s.fuses.variant.ports, false, false, true, none⟩] } }))
  ∧ (∀ (c : Cmd) (s : State), s.tidy = true → c.admitted s true → s.cal.run = none → c.a.toNat % 16 ≠ 0 →
      c.reservedOk 0x1F 0 (2 ^ 32 - 1) false = true → c.cAt 0 4 < 2 ^ s.fuses.variant.ports →
    ∃ t, exec (.calRun c) s = .next t ∧ t.on F.CAL_STAT_BUSY = true ∧ t.get F.CAL_STAT_RUN = 2 ∧ s.timeKept t ∧ s.bytesKept t
      ∧ t.cal.run = some ⟨2, c.a.toNat % 16, c.cAt 0 4, c.a.toNat.testBit 4, false, s.on F.CAL_REFMON_REF_QUAL,
          some (c.src, c.tag.toNat, c.quiet)⟩)

/-- The ends of runs and stores (R328, R330, R342): a run-time run ends with RUN_DONE and BUSY clear; a store that succeeds makes its
copy the valid one, one that fails is reported. -/
def Obligations.CalibrationRunsEnd : Prop :=
  (∀ (units : List CalUnit) (hits : List CalHits) (r : CalRun) (s : State), s.tidy = true → s.cal.run = some r → r.kind ≠ 1 →
      s.cal.due = [] →
    ∃ t, exec (.calRunEnd units hits) s = .next t ∧ t.cal.run = none ∧ t.on F.CAL_STAT_BUSY = false ∧ t.on F.CAL_EVT_RUN_DONE = true
      ∧ (∀ o ∈ s.cal.seen, o ∈ t.cal.seen))
  ∧ (∀ (x : CalStore) (s : State), s.tidy = true → s.cal.store = some x → s.cal.storeNext = [] →
    (∃ t, exec (.calStoreDone true) s = .next t ∧ t.cal.store = none ∧ t.get F.CAL_STAT_COPY = x.copy % 2 ^ F.CAL_STAT_COPY.width
      ∧ t.on F.CAL_STAT_NO_COPY = false ∧ t.get F.CAL_GEN_GEN = x.gen % 2 ^ F.CAL_GEN_GEN.width ∧ t.on F.CAL_EVT_STORE_DONE = true
      ∧ s.timeKept t ∧ s.bytesKept t)
    ∧ (∃ t, exec (.calStoreDone false) s = .next t ∧ t.cal.store = none ∧ t.on F.CAL_STAT_STORE_FAIL = true
      ∧ t.on F.CAL_EVT_STORE_FAIL = true ∧ t.get F.CAL_STAT_COPY = s.get F.CAL_STAT_COPY ∧ s.timeKept t ∧ s.bytesKept t))

/-! ### Timebase -/

/-- When r reaches 2^40 units after raw0 of the epoch in force, a REBASE epoch begins at that raw time with unchanged rate (R47); its
first time is the conversion under the old epoch, bit for bit, and the generation stays, unless a revision asked for begins in the
cycles that pass. -/
def Obligations.RebaseIsContinuous : Prop :=
  ∀ (e : Epoch) (s : State), s.mainUp = true → s.tb.cur = some e →
    ∃ t e' r, r = max s.raw (e.raw0 + 2 ^ 40) ∧ (s.raw ≤ e.raw0 + 2 ^ 40 → r = e.raw0 + 2 ^ 40)
      ∧ exec .rebase s = .next t ∧ t.tb.cur = some e' ∧ e'.raw0 = r ∧ r ≤ t.raw ∧ t.raw < r + tapsPerCycle
      ∧ e'.kind = kRebase ∧ e'.rate = e.rate
      ∧ e'.offset = e.convert r ∧ e'.convert r = e.convert r ∧ e'.index = s.tb.nextIndex ∧ e'.gen = t.get F.TB_GEN_GEN
      ∧ ((∀ v ∈ s.tb.revisions, v.begun = true) → t.get F.TB_GEN_GEN = s.get F.TB_GEN_GEN) ∧ t.tb.sumOfs = s.tb.sumOfs

/-- Events of the timebase (R48, R58, R60, R61, R65, R166): a publication instant in ACQUIRING takes the mean of the collected
measurements as its estimate and empties the collection, and where the estimate is within TB_JUMP_THR and SYN0's adjustment stands it
moves F and begins an epoch at that instant with F and the slew as its rate, before the selection looks again; a slew ends with a SLEW_END
epoch that has the rate without it; the loss of the source leads to HOLDOVER without a slew;
a revision ends with every affected record revised, REVISING staying set where another waits (assumption 47). -/
def Obligations.TimebaseEventsAct : Prop :=
  (∀ (raw : Raw) (s : State), s.tidy = true → s.mainUp = true → s.tbState = tbAcquiring → s.swProposes = false → s.srv.acc ≠ [] →
    ∃ t, exec (.publicationInstant raw) s = .next t ∧ t.srv.acc = []
      ∧ t.get F.SRV_EST_EST = toBits F.SRV_EST_EST.width (meanMeas s.srv.acc) ∧ s.bytesKept t
      ∧ (let u := s.reach raw
         let m := meanMeas s.srv.acc
         ∀ c : Epoch, (m.natAbs : Int) ≤ s.jumpThr → s.srv.synt = false → s.tb.cur = some c →
           c.raw0 / tapsPerCycle < u.raw / tapsPerCycle → u.adjAfter u.pubInterval = u.synAdj →
         ∃ (v : State) (x : Epoch), t = v.select ∧ v.tb.cur = some x ∧ x.raw0 = u.raw ∧ x.rate = v.liveRate ∧ x.state = tbAcquiring
           ∧ x.kind = (if m ≠ 0 then kSlewStart else if s.tb.slew.isSome then kSlewEnd else kRate)
           ∧ v.get F.SRV_FREQ_FREQ = toBits F.SRV_FREQ_FREQ.width (clampInt (-rateMax) rateMax
               (s.freq - roundEven (m * 2 ^ 32) (2 ^ s.get F.SRV_XCTRL_KI_ACQ * (s.pubInterval : Int))))))
  ∧ (∀ (w : Slew) (s : State), s.tidy = true → s.tb.slew = some w →
    ∃ t, exec .slewEnd s = .next t ∧ t.tb.slew = none ∧ t.on F.TB_STATUS_SLEWING = false ∧ t.tbState = s.tbState ∧ s.bytesKept t
      ∧ (∀ c : Epoch, s.tb.cur = some c → c.raw0 / tapsPerCycle < (s.reach w.stop).raw / tapsPerCycle →
          ∃ x : Epoch, t.tb.cur = some x ∧ x.kind = kSlewEnd ∧ x.raw0 = (s.reach w.stop).raw ∧ x.rate = t.liveRate
            ∧ x.state = s.tbState ∧ x.index = s.tb.nextIndex))
  ∧ (∀ (raw : Raw) (s : State), s.tidy = true → s.mainUp = true →
      s.tbState = tbAcquiring ∨ s.tbState = tbLocked ∨ s.tbState = tbReroute →
    ∃ t, exec (.sourceLoss raw) s = .next t ∧ t.tbState = tbHoldover ∧ t.tb.slew = none ∧ s.bytesKept t)
  ∧ (∀ (v : Revision) (l : List Revision) (s : State), s.tidy = true → s.tb.revisions = v :: l → (∀ x ∈ v :: l, x.begun = true) →
    ∃ t, exec .revisionComplete s = .next t ∧ t.tb.revisions = l ∧ t.tb.hist = reviseFrom v 0 s.tb.hist
      ∧ t.on F.TB_STATUS_REVISING = !l.isEmpty ∧ t.on F.TB_EVT_REVISED = true ∧ t.get F.TB_GEN_GEN = s.get F.TB_GEN_GEN ∧ s.bytesKept t)

/-- TB_READ converts RAWCT as it stands with the current epoch, and returns RAW alone with ZTIME 0 and NOT_READY in COLD (R53). -/
def Obligations.TbReadConvertsNow : Prop :=
  ∀ (c : Cmd) (s : State), c.admitted s true → c.reservedOk 0 0 0 true = true → c.readOk (c.begun s) 32 →
    (∀ e, s.liveEpoch = some e →
      exec (.tbRead c) s = .next (c.deliver (c.afterRead (c.begun s) 32)
        (convEntry ((leAt (c.input (c.afterRead (c.begun s) 32) 32) 10 1).testBit 0) false false (s.on F.TB_STATUS_STEP_PEND)
          (rawBytes s.raw) e (ztBytes (e.convert s.raw))) stOk (s.cyc % 2 ^ 64)))
    ∧ (s.tb.cur = none →
      ∃ w b, exec (.tbRead c) s = .next (c.deliver w b stNotReady (s.cyc % 2 ^ 64)) ∧ b.length = 32
        ∧ b.take 10 = rawBytes s.raw ∧ (b.drop 16).take 12 = List.replicate 12 0)

/-- CONVERT fills its entries in order and tells how many; one raw time within the epoch in force converts under it, a later one than
now under the current epoch with EXTRAPOLATED (R54). ACCEPT_STEP of the pending step by its ID enters ACQUIRING and withdraws it: a
forward step, one with MONO clear or one in SEEDED is applied as a STEP epoch of the next generation; a backward one with MONO set is
slewed (R61, R64, R66). That the count of entries takes the EXPIRED ones in is the model's choice (assumption 47). -/
def Obligations.TimebaseCommandsComplete : Prop :=
  (∀ (c : Cmd) (s : State), c.admitted s true → c.reservedOk 0x7FF 0 0 true = true → 1 ≤ c.a.toNat → c.a.toNat ≤ 1024 →
      c.readOk (c.begun s) (32 * c.a.toNat) →
    let r := (c.afterRead (c.begun s) (32 * c.a.toNat)).convertAll s.liveHist
        (c.input (c.afterRead (c.begun s) (32 * c.a.toNat)) (32 * c.a.toNat)) c.a.toNat
    exec (.convert c) s = .next (c.deliver r.2.2 r.1 stOk (c.a.toNat + 2 ^ 32 * r.2.1)))
  ∧ (∀ (c : Cmd) (e : Epoch) (l : HistSlot) (s : State), c.admitted s true → c.reservedOk 0x7FF 0 0 true = true → c.a.toNat = 1 →
      c.readOk (c.begun s) 32 → s.tb.cur = some e → s.liveHist.head? = some l →
    let w := c.afterRead (c.begun s) 32
    let b := (c.input w 32).take 32
    (∀ h : HistSlot, leAt b 0 10 % 2 ^ 73 ≤ s.raw → slotAt (leAt b 0 10 % 2 ^ 73) s.liveHist = some h → h.pub.index = e.index →
        (leAt b 10 1).testBit 0 = false →
      exec (.convert c) s = .next (c.deliver w (convEntry false false false (s.on F.TB_STATUS_STEP_PEND) (b.take 10) h.pub
        (ztBytes (h.pub.convert (leAt b 0 10 % 2 ^ 73)))) stOk 1))
    ∧ (s.raw < leAt b 0 10 % 2 ^ 73 →
      exec (.convert c) s = .next (c.deliver w (convEntry ((leAt b 10 1).testBit 0) false true (s.on F.TB_STATUS_STEP_PEND)
        (b.take 10) l.pub (ztBytes (l.pub.convert (leAt b 0 10 % 2 ^ 73)))) stOk 1)))
  ∧ (∀ (c : Cmd) (s : State), s.tidy = true → c.admitted s true → c.reservedOk 0xFFFF 0 0 false = true →
      s.on F.TB_STATUS_STEP_PEND = true → s.tbState ≠ tbDegraded → c.a.toNat = s.get F.TB_PEND_ID_PEND_ID →
    ∃ u, exec (.acceptStep c) s = .next (c.done u stOk) ∧ u.tbState = tbAcquiring ∧ u.on F.TB_STATUS_STEP_PEND = false ∧ s.bytesKept u
      ∧ (s.tbState = tbSeeded ∨ 0 ≤ s.int F.TB_PEND_OFS_PEND_OFS ∨ s.on F.TB_CTRL_MONO = false →
        ∃ e, u.tb.cur = some e ∧ e.kind = kStep ∧ e.state = tbAcquiring ∧ e.gen = u.get F.TB_GEN_GEN
          ∧ u.get F.TB_GEN_GEN = (s.get F.TB_GEN_GEN + 1) % 2 ^ F.TB_GEN_GEN.width
          ∧ u.tb.sumOfs = s.tb.sumOfs + s.int F.TB_PEND_OFS_PEND_OFS ∧ u.on F.TB_EVT_STEP_APPLIED = true)
      ∧ (s.tbState ≠ tbSeeded → s.int F.TB_PEND_OFS_PEND_OFS < 0 → s.on F.TB_CTRL_MONO = true →
        ∃ v, u.tb.slew = some v ∧ u.on F.TB_STATUS_SLEWING = true ∧ u.on F.TB_EVT_BACK_SLEW = true
          ∧ v.stop = s.raw + slewCycles (s.int F.TB_PEND_OFS_PEND_OFS).natAbs 0 (s.eff F.TB_SLEW_SLEW_MAX) * tapsPerCycle
          ∧ u.get F.TB_GEN_GEN = s.get F.TB_GEN_GEN))
  ∧ (∀ (b : Bytes) (e : Epoch) (l h : HistSlot) (hist : List HistSlot) (s : State), s.tb.cur = some e → hist.head? = some l →
      leAt b 0 10 % 2 ^ 73 ≤ s.raw →
      slotAt (leAt b 0 10 % 2 ^ 73) hist = some h → h.pub.index = e.index → (leAt b 10 1).testBit 0 = false →
    s.convertOne hist b = (convEntry false false false (s.on F.TB_STATUS_STEP_PEND) (b.take 10) h.pub
      (ztBytes (h.pub.convert (leAt b 0 10 % 2 ^ 73))), false, s))
  ∧ (∀ (c : Cmd) (s : State), s.tidy = true → c.admitted s true → c.reservedOk 0xFFFF 0 0 false = true →
      s.on F.TB_STATUS_STEP_PEND = true → s.tbState ≠ tbDegraded → c.a.toNat = s.get F.TB_PEND_ID_PEND_ID →
    ∃ u, exec (.acceptStep c) s = .next (c.done u stOk) ∧ u.on F.TB_STATUS_STEP_PEND = false ∧ u.tbState = tbAcquiring
      ∧ s.bytesKept u)

/-- The source selector and the servo's commands (R163 to R165, R169, R173): an eligible candidate qualifies; the end of the wait
selects the better one; SRV_SELECT forces a qualified candidate or releases; SRV_PROPOSE takes a rate, and in ACQUIRING an offset
within the refusal threshold; SRV_CLR_TAINT clears TAINT, or answers NOT_READY while it is held. -/
def Obligations.SourceSelectionCommandsComplete : Prop :=
  (∀ (k : Nat) (s : State), s.tidy = true → k < 8 → s.mainUp = true → s.eligible k = true →
    ∃ t, exec (.candidateQualify k) s = .next t ∧ t.qualified k = true ∧ s.bytesKept t ∧ t.tbState = s.tbState)
  ∧ (∀ (b : Nat) (s : State), s.tidy = true → s.bestSrc = some b → s.on F.SRV_STATUS_WTR_RUN = true → s.on F.SRV_CTRL_REVERT = true →
      s.on F.SRV_STATUS_FORCED = false → s.better b (s.get F.SRV_STATUS_SEL) = true →
    ∃ t, exec .wtrExpiry s = .next t ∧ t.get F.SRV_STATUS_SEL = b ∧ t.on F.SRV_STATUS_SEL_VALID = true
      ∧ t.on F.SRV_STATUS_WTR_RUN = false ∧ s.bytesKept t)
  ∧ (∀ (c : Cmd) (s : State), s.tidy = true → c.admitted s true → c.reservedOk 0xFF 0 0 false = true →
    (c.a.toNat = 0xFF → ∃ u, exec (.srvSelect c) s = .next (c.done u stOk) ∧ u.on F.SRV_STATUS_FORCED = false)
    ∧ (c.a.toNat < 8 → s.qualified c.a.toNat = true →
      ∃ u, exec (.srvSelect c) s = .next (c.done u stOk) ∧ u.on F.SRV_STATUS_FORCED = true ∧ u.get F.SRV_STATUS_SEL = c.a.toNat
        ∧ u.on F.SRV_STATUS_SEL_VALID = true))
  ∧ (∀ (c : Cmd) (s : State), s.tidy = true → c.admitted s true →
      c.reservedOk 3 (2 ^ 64 - 1) (2 ^ 40 - 1 + (2 ^ 32 - 1) * 2 ^ 64) false = true → s.swProposes = true →
    (c.a.toNat = 2 → s.tbState ≠ tbReroute → s.tbState ≠ tbDegraded → (signed 40 (c.cAt 0 5)).natAbs < 2 ^ 39 →
      ∃ u, exec (.srvPropose c) s = .next (c.done u stOk) ∧ u.srv.swRate = some (signed 40 (c.cAt 0 5)) ∧ u.tb = s.tb)
    ∧ (c.a.toNat = 1 → s.tbState = tbAcquiring → (c.b.toInt.natAbs : Int) ≤ s.jumpThr →
      ∃ u, exec (.srvPropose c) s = .next (c.done u stOk) ∧ u.get F.SRV_EST_EST = toBits F.SRV_EST_EST.width c.b.toInt
        ∧ u.srv.m = c.cAt 8 4))
  ∧ (∀ (c : Cmd) (s : State), s.tidy = true → c.admitted s true → c.reservedOk 0 0 0 false = true →
    (s.taintHeld = false → ∃ u, exec (.srvClrTaint c) s = .next (c.done u stOk) ∧ u.on F.SRV_STATUS_TAINT = false
      ∧ (c.begun s).fieldsKept u [F.SRV_STATUS_TAINT.place])
    ∧ (s.taintHeld = true → exec (.srvClrTaint c) s = .next (c.done (c.begun s) stNotReady)))

/-! ### Clocking -/

/-- Loss and return of REFIN and of SYN0's lock (R61, R179, R185 to R187, R189): a loss raises SYN_UNLOCK and degrades the timebase;
every reference cycle out of window is counted; four of them in a row end the lock of the ZN4832, a block with at least N/512 of them
that of the 484-ball parts; the relock starts with RELOCK_EN and ends with N reference cycles in window. -/
def Obligations.SynthesizerLockIsTracked : Prop :=
  (∀ s : State, s.tidy = true → s.mainUp = true →
    (∃ t, exec .refLoss s = .next t ∧ t.on F.CK_STATUS_SYN_UNLOCK = true ∧ t.on F.CK_STATUS_REF_LOSS = true
        ∧ t.on F.CK_STATUS_SYN_LOCK = s.on F.CK_STATUS_SYN_LOCK ∧ (s.tbState ≠ tbCold → t.tbState = tbDegraded)
        ∧ (s.tbState = tbCold → t.tbState = tbCold) ∧ t.tb.cur = s.tb.cur ∧ s.bytesKept t)
    ∧ (∀ errs : List Int, s.on F.CK_STATUS_RELOCKING = false →
      ∃ t, exec (.syn0Unlock errs) s = .next t ∧ t.on F.CK_STATUS_SYN_LOCK = (s.lockRun errs).lock
        ∧ t.get F.CK_PHERR_CNT_PHERR = satAdd F.CK_PHERR_CNT_PHERR.width (s.get F.CK_PHERR_CNT_PHERR) (s.lockRun errs).outs
        ∧ ((s.lockRun errs).lost = true → t.on F.CK_STATUS_SYN_UNLOCK = true ∧ (s.tbState ≠ tbCold → t.tbState = tbDegraded))
        ∧ ((s.lockRun errs).lost = false → s.timeKept t) ∧ t.tb.cur = s.tb.cur ∧ s.bytesKept t)
    ∧ (∀ errs : List Int, s.on F.CK_STATUS_SYN_LOCK = true → (∀ x ∈ errs, s.eff F.CK_LOCK_WIN < x.natAbs) →
        (s.fuses.variant = .zn4832 ∧ errs.length = 4
          ∨ s.fuses.variant ≠ .zn4832 ∧ s.ck.det.blk = 0 ∧ s.ck.det.blkOut = 0 ∧ errs.length = s.eff F.CK_LOCK_N) →
      (s.lockRun errs).lost = true ∧ (s.lockRun errs).lock = false ∧ (s.lockRun errs).outs = errs.length))
  ∧ (∀ (cycles : Nat) (s : State), s.tidy = true → s.mainUp = true →
      (s.on F.CK_STATUS_REF_LOSS = false ∨ s.tbState = tbCold ∨ s.tbState = tbDegraded) →
    ∃ t, exec (.refRestore cycles) s = .next t ∧ t.on F.CK_STATUS_REF_LOSS = false
      ∧ t.get F.CK_PHERR_CNT_PHERR = satAdd F.CK_PHERR_CNT_PHERR.width (s.get F.CK_PHERR_CNT_PHERR)
          (if s.on F.CK_STATUS_REF_LOSS then cycles else 0)
      ∧ s.timeKept t ∧ s.bytesKept t)
  ∧ (∀ s : State, s.tidy = true → s.on F.CK_CTRL_RELOCK_EN = true → s.on F.CK_STATUS_SYN_UNLOCK = true →
      s.on F.CK_STATUS_REF_LOSS = false →
    ∃ t, exec .syn0RelockStart s = .next t ∧ t.on F.CK_STATUS_RELOCKING = true ∧ s.fieldsKept t [F.CK_STATUS_RELOCKING.place]
      ∧ s.timeKept t ∧ s.boardKept t ∧ s.hostKept t ∧ s.bytesKept t ∧ t.ports = s.ports ∧ t.ta = s.ta ∧ t.cal = s.cal
      ∧ { t.ck with det := s.ck.det } = s.ck)
  ∧ (∀ (errs : List Int) (s : State), s.tidy = true → s.on F.CK_STATUS_RELOCKING = true → s.halted = false →
      s.on F.CK_STATUS_REF_LOSS = false → s.ck.det.blk = 0 → s.ck.det.blkOut = 0 → errs.length = s.eff F.CK_LOCK_N →
      (∀ x ∈ errs, x.natAbs ≤ s.eff F.CK_LOCK_WIN) →
    ∃ t, exec (.synRelock errs) s = .next t ∧ t.on F.CK_STATUS_RELOCKING = false ∧ t.on F.CK_STATUS_SYN_UNLOCK = false
      ∧ t.on F.CK_STATUS_SYN_LOCK = true ∧ t.on F.CK_EVT_SYN_RELOCK = true ∧ t.ck.forced = false
      ∧ (s.tbState = tbDegraded → t.tbState = if s.tb.fromSeeded then tbSeeded else tbHoldover) ∧ s.bytesKept t)

/-- The frequency checker (R188): a window beyond 200 ppm halts output; one within it shows FERR and counts good windows, of which
100 in a row end a halt; CHK_REF falls only with a comparison that agrees within 100 ppm and in which REF_LOSS stayed clear. An eligible frequency source qualifies and the end of the wait selects the better one; the DPLL locks and
unlocks by FERR; a stretched period is counted; a delay-locked line unlocks and relocks, and one of an unbonded resource stays idle
(R5, R181 to R184, R192). -/
def Obligations.FrequencySourcesAndCheckerAct : Prop :=
  ((∀ (err : Int) (ref : Option Int) (us : Nat) (s : State), s.tidy = true → s.mainUp = true → 200000 < err.natAbs →
      ∃ t, exec (.checkerWindowEnd err ref us) s = .next t ∧ t.halted = true ∧ t.on F.CK_EVT_HALT = true ∧ t.ck.goodWins = 0)
    ∧ (∀ (err : Int) (ref : Option Int) (us : Nat) (s : State), s.tidy = true → s.mainUp = true → err.natAbs ≤ 200000 → s.halted = false →
      ∃ t, exec (.checkerWindowEnd err ref us) s = .next t ∧ t.halted = false
        ∧ t.get F.CK_FERR_FERR = toBits F.CK_FERR_FERR.width err
        ∧ t.on F.CK_STATUS_CHK_REF = (match ref with
          | some d => s.on F.CK_STATUS_REF_LOSS || decide (100000 < d.natAbs) || (s.ck.refLost && s.on F.CK_STATUS_CHK_REF)
          | none => s.on F.CK_STATUS_REF_LOSS || s.on F.CK_STATUS_CHK_REF)
        ∧ t.ck.goodWins = (if err.natAbs ≤ 150000 then s.ck.goodWins + 1 else 0) ∧ s.timeKept t ∧ s.bytesKept t)
    ∧ (∀ (err : Int) (us : Nat) (s : State), s.tidy = true → s.mainUp = true → err.natAbs ≤ 150000 → s.halted = true →
        99 ≤ s.ck.goodWins →
      ∃ t, exec (.checkerWindowEnd err none us) s = .next t ∧ t.halted = false ∧ t.on F.CK_EVT_HALT_RELEASE = true))
  ∧ ((∀ (k : Nat) (s : State), k < 4 → s.mainUp = true → s.fsrcEligible k = true →
      ∃ t, exec (.fsrcQualify k) s = .next t ∧ t.ck.qual = s.ck.qual ||| 2 ^ k ∧ s.timeKept t ∧ s.bytesKept t)
    ∧ (∀ (b : Nat) (s : State), s.tidy = true → s.fsrcBest = some b → s.ck.wtrRun = true → s.on F.CK_FSEL_REVERT = true →
        s.fsrcBetter b (s.get F.CK_STATUS_FSEL) = true →
      ∃ t, exec .fsrcWtrExpiry s = .next t ∧ t.get F.CK_STATUS_FSEL = b ∧ t.on F.CK_STATUS_FSEL_VALID = true ∧ t.ck.wtrRun = false
        ∧ s.timeKept t ∧ s.bytesKept t)
    ∧ (∀ (ferr : Int) (l : List Int) (s : State), s.tidy = true → s.mainUp = true →
      ∃ t, exec (.dpllUpdate ferr l) s = .next t ∧ t.ck.measured = l
        ∧ (({ s with ck := { s.ck with measured := l } }.fsrcReview).get F.CK_STATUS_DPLL = dpllLocking → ferr.natAbs ≤ 10 →
            t.get F.CK_STATUS_DPLL = dpllLocked)
        ∧ (({ s with ck := { s.ck with measured := l } }.fsrcReview).get F.CK_STATUS_DPLL = dpllLocked → 100 < ferr.natAbs →
            t.get F.CK_STATUS_DPLL = dpllLocking)
        ∧ (s.tbState ≠ tbCold → t.get F.CK_SYN_ADJ_ADJ = s.get F.CK_SYN_ADJ_ADJ) ∧ s.timeKept t ∧ s.bytesKept t)
    ∧ (∀ s : State, s.tidy = true → s.mainUp = true →
      ∃ t, exec .guardStretch s = .next t ∧ t.on F.CK_EVT_GUARD = true
        ∧ t.get F.CK_GUARD_CNT_GUARD = satAdd F.CK_GUARD_CNT_GUARD.width (s.get F.CK_GUARD_CNT_GUARD) 1
        ∧ s.fieldsKept t [F.CK_EVT_GUARD.place, F.CK_GUARD_CNT_GUARD.place] ∧ s.restKept t)
    ∧ (∀ (d : Nat) (s : State), s.tidy = true → d < 88 →
      (s.dllLocked d = true → ∃ t, exec (.dllUnlock d) s = .next t ∧ t.dllLocked d = false ∧ t.on F.CK_EVT_DLL_UNLOCK = true
        ∧ (∀ j : Nat, j < 88 → j ≠ d → t.dllLocked j = s.dllLocked j) ∧ (s.cal.run = none → s.restKept t))
      ∧ (s.mainUp = true → s.fuses.variant.dllBonded d = true → ∃ t, exec (.dllRelock d) s = .next t ∧ t.dllLocked d = true
        ∧ (∀ j : Nat, j < 88 → j ≠ d → t.dllLocked j = s.dllLocked j) ∧ s.fieldsKept t [F.CK_DLL_LOCK_LOCK.place] ∧ s.restKept t)
      ∧ (s.fuses.variant.dllBonded d = false → exec (.dllRelock d) s = .next s)))

/-- A clock output and a period generator start (R195, R217): an enabled, waiting generator that is low rises at the first instant of
its grid at or after 2 us from its enable and now, with the timebase not COLD where it runs on ZTIME. -/
def Obligations.GeneratorsStart : Prop :=
  ∀ (g w : Nat) (s : State), s.tidy = true → g < 24 → (s.gen g).waiting = some w → (s.gen g).high = false → s.genEn g = true →
      s.halted = false → (s.genTime g = true → s.tbState ≠ tbCold) →
    ∃ t, exec (if g < 8 then .ckoStart g else .pgStart (g - 8)) s = .next t ∧ (t.gen g).waiting = none ∧ (t.gen g).high = true
      ∧ (t.gen g).lastRise = some (s.gridFrom g (s.genScale g (max w s.raw)))
      ∧ (g < 8 → t.on F.CK_CKO_STAT_ACTIVE g = true) ∧ (8 ≤ g → t.on F.TA_PG_CTRL_ACTIVE (g - 8) = true)
      ∧ t.tb.cur = s.tb.cur ∧ t.tb.hist = s.tb.hist ∧ t.ports = s.ports ∧ s.boardKept t ∧ s.bytesKept t

/-! ### Ports and frames -/

/-- Liveness and training move a bonded port (R83, R84): a direction that becomes live completes UP from ACQUIRE with the other live, and
from TRAINING with the other in block lock; one that is lost, or whose lock is, takes UP to ACQUIRE with DOWN, and the transmitter that a
lost direction fed sends local fault (R75); frame markers on a side out of block
lock start TRAINING with LT_PASS, in which the bits are retimed (R82), and LT_TO ends it. A port that came
to UP from TRAINING with a side not live leaves it when that side loses anything more (assumption 48). -/
def Obligations.PortsFollowTheirStreams : Prop :=
  (∀ (n : Nat) (sd : Side) (raw : Raw) (s : State), s.tidy = true → s.mainUp = true → s.bonded n = true → s.pstate n ≠ psDisabled →
    ∃ t, exec (.lineLive n sd raw) s = .next t ∧ t.live n sd = true ∧ t.live n sd.other = s.live n sd.other
      ∧ (t.rx n sd).lock = true
      ∧ t.pstate n = (if s.pstate n = psAcquire ∧ s.live n sd.other = true ∨ s.pstate n = psTraining ∧ (s.rx n sd.other).lock = true
          then psUp else s.pstate n)
      ∧ (s.pstate n = psAcquire ∨ s.pstate n = psTraining → t.pstate n = psUp → t.on F.STR_EVT_UP n = true)
      ∧ (∀ m : Nat, m < 32 → m ≠ n → t.pstate m = s.pstate m) ∧ s.bytesKept t)
  ∧ (∀ (n : Nat) (sd : Side) (x : LossCause) (raw : Raw) (s : State), s.tidy = true → s.mainUp = true → s.bonded n = true →
      s.live n sd = true →
    ∃ t, exec (.lineLivenessLoss n sd raw x) s = .next t ∧ t.live n sd = false ∧ t.live n sd.other = s.live n sd.other
      ∧ (x = .highBer → t.on (hiberFld sd) n = true)
      ∧ (s.pstate n = psUp ∨ s.pstate n = psAcquire → t.transmits n sd.other = .localFault)
      ∧ t.pstate n = (if s.pstate n = psUp then psAcquire else s.pstate n) ∧ (s.pstate n = psUp → t.on F.STR_EVT_DOWN n = true)
      ∧ (∀ m : Nat, m < 32 → m ≠ n → t.pstate m = s.pstate m) ∧ s.bytesKept t)
  ∧ (∀ (n : Nat) (sd : Side) (x : LossCause) (raw : Raw) (s : State), s.tidy = true → s.mainUp = true → s.bonded n = true →
      s.live n sd = false → (s.rx n sd).lock = true →
    ∃ t, exec (.lineLivenessLoss n sd raw x) s = .next t ∧ t.live n sd = false ∧ t.live n sd.other = s.live n sd.other
      ∧ (x = .blockLock ∨ x = .signal → (t.rx n sd).lock = false)
      ∧ t.pstate n = (if s.pstate n = psUp then psAcquire else s.pstate n) ∧ (s.pstate n = psUp → t.on F.STR_EVT_DOWN n = true)
      ∧ (∀ m : Nat, m < 32 → m ≠ n → t.pstate m = s.pstate m) ∧ s.bytesKept t)
  ∧ (∀ (n : Nat) (sd : Side) (s : State), s.tidy = true → s.mainUp = true → s.bonded n = true →
    (s.on F.STR_CTRL_LT_PASS n = true → (s.rx n sd).lock = false → s.pstate n = psAcquire ∨ s.pstate n = psUp →
      ∃ t, exec (.trainingEntry n sd) s = .next t ∧ t.pstate n = psTraining ∧ t.transmits n sd = .retime ∧ t.on F.STR_EVT_TRAIN n = true ∧ s.bytesKept t)
    ∧ (s.pstate n = psTraining →
      ∃ t, exec (.ltTimeout n) s = .next t ∧ t.on F.STR_EVT_LT_TIMEOUT n = true ∧ s.bytesKept t
        ∧ t.pstate n = (if s.live n .line = true ∧ s.live n .host = true then psUp else psAcquire)))

/-- A frame of class C4 without an /E/ passes unchanged and at once where the opposite egress is free with 5 octets of gap (R73, R77,
R88, R91), is held with its first cell where that egress is busy, the others falling due as it arrives (R91, R99), and one with EtherType 0x88B5 is never passed (R73). A sequence ordered
set passes and shows a fault; an identical repeat counts as idle, and idle columns follow the watermarks (R77). What a direction that
does not forward receives has no effect (R86), but in TRAINING the bits leave as they came (R82). Which codes are faults is not in the
spec (assumption 48).

Departures (R90 to R94, R113, R361): at a frame boundary with its gap of 9 octets and what the deficit count owes, the first held
frame starts, on the line side in the place that R141 gives it, and the egress is busy for its length; an
injected frame starts only behind all others, and its command completes with OK. SEND_FRAME puts its frame last, needs a
forwarding egress and cells, and does not complete before the frame departs. -/
def Obligations.FramesPassAndDepart : Prop :=
  ((∀ (n : Nat) (sd : Side) (f : RxFrame) (tx : Stamp) (s : State), s.mainUp = true → s.bonded n = true →
        s.receives n sd = true → s.pstate n ≠ psTraining → f.decoded (s.fec n sd) = [] → f.overflow = none →
        s.elasStart n ≤ f.fill → f.data.length ≤ s.eff F.STR_MAXFRM_MAXFRM n →
        frameClass (s.parseCfg n) f.data = 4 → (parseFrame (s.parseCfg n) f.data).etype ≠ 0x88B5 →
      let y := s.lineStart n sd.other f.fill tx
      (0 < idleBlocks (s.egress n sd.other).tail (s.gapAt n sd.other tx) → y = tx)
      ∧ (5 ≤ s.gapAt n sd.other y → s.frameWaits n sd.other = false →
          (s.reach f.stamp.w).guardOk n sd.other f.data.length y = true →
        ∃ t, exec (.frameIngress n sd (.frame f) tx) s = .next t
          ∧ t.out = s.out ++ [.frame n sd.other (s.txStamp n sd.other y) f.data []]
          ∧ t.hif = s.hif ∧ s.boardKept t ∧ s.bytesKept t)
      ∧ (s.tidy = true → s.gapAt n sd.other y < 5 → 0 < s.resvLeft n → s.grantCell ≠ none →
          (∀ x : Side, (s.egress n x).leaving = [] ∧ (s.egress n x).arriving = []) →
        ∃ t, exec (.frameIngress n sd (.frame f) tx) s = .next t ∧ t.out = s.out
          ∧ (t.egress n sd.other).held.map PFrame.data = (s.egress n sd.other).held.map PFrame.data ++ [f.data]
          ∧ (t.egress n sd.other).arriving = arrivals (s.octetTaps n) (s.startAt n tx) f.data.length
          ∧ t.get F.STR_POOL_STAT_RESV_USED n = s.get F.STR_POOL_STAT_RESV_USED n + 1
          ∧ t.get F.STR_POOL_STAT_SHR_USED n = s.get F.STR_POOL_STAT_SHR_USED n ∧ s.boardKept t ∧ s.bytesKept t))
    ∧ (∀ (n : Nat) (sd : Side) (f : RxFrame) (tx : Stamp) (s : State), s.mainUp = true → s.bonded n = true →
        s.receives n sd = true → s.pstate n ≠ psTraining → f.overflow = none → (parseFrame (s.parseCfg n) f.data).etype = 0x88B5 →
        f.data.length ≤ s.eff F.STR_MAXFRM_MAXFRM n →
      ∃ t, exec (.frameIngress n sd (.frame f) tx) s = .next t ∧ t.out = s.out ∧ (∀ m x, t.egress m x = s.egress m x)
        ∧ t.hif = s.hif ∧ s.boardKept t ∧ s.bytesKept t)
    ∧ (∀ (n : Nat) (sd : Side) (d : BitVec 24) (k fill : Nat) (tx : Stamp) (s : State), s.tidy = true → s.mainUp = true →
        s.bonded n = true → s.receives n sd = true → s.pstate n ≠ psTraining →
      (∃ t, exec (.frameIngress n sd (.control (.sequenceOs d) fill) tx) s = .next t ∧ t.on (faultFld sd) n = isFault d
        ∧ t.out = s.out ++ List.replicate
            (if (s.rx n sd).lastOs = some d then (if s.elasHigh n < fill then 0 else if fill < s.elasLow n then 2 else 1) else 1)
            (.control n sd.other (.sequenceOs d))
        ∧ s.timeKept t ∧ s.boardKept t ∧ t.hif = s.hif ∧ s.bytesKept t)
      ∧ (∃ t, exec (.frameIngress n sd (.control (.idle k) fill) tx) s = .next t ∧ t.on (faultFld sd) n = false
        ∧ t.out = s.out ++ [.control n sd.other (.idle (s.elasticColumns n fill k (s.rx n sd).gap).1)]
        ∧ t.get (fillFld sd) n = min 64 (s.elasticColumns n fill k (s.rx n sd).gap).2
        ∧ s.timeKept t ∧ s.boardKept t ∧ t.hif = s.hif ∧ s.bytesKept t))
    ∧ (∀ (n : Nat) (sd : Side) (b : List Bool) (tx : Stamp) (s : State), s.mainUp = true → s.bonded n = true → s.pstate n = psTraining →
      exec (.frameIngress n sd (.training b) tx) s = .next (s.emit (.retimed n sd.other b)))
    ∧ (∀ (n : Nat) (sd : Side) (x : Ingress) (tx : Stamp) (s : State), s.pstate n ≠ psTraining → s.receives n sd = false →
      exec (.frameIngress n sd x tx) s = .next s))
  ∧ ((∀ (n : Nat) (sd : Side) (st : Stamp) (f : PFrame) (r : List PFrame) (s : State), s.tidy = true → s.mainUp = true →
        s.bonded n = true → s.forwarding n sd = true →
        let y := s.lineStart n sd (s.get (fillFld sd.other) n) st
        9 + ((s.egress n sd).dic : Int) ≤ s.gapAt n sd y → (s.egress n sd).orig = [] →
        (∀ x : Side, (s.egress n x).arriving = []) → (s.reach st.w).guardOk n sd f.data.length y = true → f.stamp = none →
        (∀ k ∈ descKeys f.cells ++ cellKeys f.cells (frameWords f.data.length), s.wordErrs k = 0 ∧ s.poisoned k = false) →
      ((s.egress n sd).held = f :: r → f.src = .held →
        ∃ t d rest, exec (.egressFrameStart n sd st) s = .next t
          ∧ t.out = s.out ++ .frame n sd (s.txStamp n sd y) d f.errs :: rest
          ∧ (frameClass (s.parseCfg n) f.data ≠ 0 → d = f.data)
          ∧ (t.egress n sd).held = r ∧ (t.egress n sd).busyUntil = s.startAt n y + s.wireTaps n d.length ∧ s.bytesKept t)
      ∧ (∀ (src : Src) (tag : Nat) (quiet : Bool), (s.egress n sd).held = [] → (s.egress n sd).inj = f :: r →
          f.src = .host src tag quiet → (f.cap = true ∨ (s.frameOps n sd f).capture = false) →
        ∃ (u : State) (d : Bytes) (result : Nat), exec (.egressFrameStart n sd st) s = .next (u.finish src tag stOk quiet result)
          ∧ u.out = s.out ++ [.frame n sd (s.txStamp n sd y) d f.errs] ∧ (u.egress n sd).inj = r ∧ u.hif = s.hif))
    ∧ (∀ (c : Cmd) (r : Fin 32) (s : State), c.src = .ring r → c.admitted s true → c.reservedOk 0x3FFF01FF 0 0 true = true →
        64 ≤ bits c.a.toNat 16 14 → bits c.a.toNat 16 14 ≤ s.eff F.STR_MAXFRM_MAXFRM (bits c.a.toNat 0 5) →
        s.bonded (bits c.a.toNat 0 5) = true →
      (s.forwarding (bits c.a.toNat 0 5) (if c.a.toNat.testBit 5 then .host else .line) = false →
        exec (.sendFrame c) s = .next (c.done (c.begun s) stAborted))
      ∧ (s.forwarding (bits c.a.toNat 0 5) (if c.a.toNat.testBit 5 then .host else .line) = true → c.dmaErr = false →
        (∀ cells u, (c.begun s).takeFrame (bits c.a.toNat 0 5) (bits c.a.toNat 16 14) = some (cells, u) →
          exec (.sendFrame c) s = .next (u.modEgress (bits c.a.toNat 0 5) (if c.a.toNat.testBit 5 then .host else .line)
            (fun e => { e with inj := e.inj ++ [⟨padTo (bits c.a.toNat 16 14) c.data, [], cells, bits c.a.toNat 6 2,
              c.a.toNat.testBit 8, none, .host c.src c.tag.toNat c.quiet⟩] })))
        ∧ ((c.begun s).takeFrame (bits c.a.toNat 0 5) (bits c.a.toNat 16 14) = none →
          exec (.sendFrame c) s = .next (c.done (c.begun s) stBusy)))))

/-! ### PTP termination -/

/-- Messages received (R153, R157, R161): one that the role does not consume changes no more than the time reached; a two-step
Sync from the master so far is held with its sequence, source, arrival and correction; one that fails authentication is counted; a
malformed message counts as such and as a partner violation. Announces that are no longer current leave a candidate's port without one
that it takes (R163); PTP_SET_ANNOUNCE replaces the template (R175).

Messages that fall due (R155): sequenceId advances even where nothing is sent, as in COLD; a Delay_Req of a slave port joins the
originated frames and is remembered until its answer. -/
def Obligations.PtpMessagesComeAndGo : Prop :=
  ((∀ (n : Nat) (f : RxFrame) (p : Parsed) (m : Bytes) (now : Raw) (s : State), s.tidy = true → s.mainUp = true → s.bonded n = true →
        s.spxLive n = true → s.damaged n .line f = false → fcsOk f.data = true → p = parseFrame (s.parseCfg n) f.data →
        m = sub f.data p.ptpOff (p.msgLen f.data) → now = s.rxStamp n .line f.stamp →
      (s.consumes n (p.msgType f.data) = false → exec (.ptpMessageRx n f) s = .next (s.reach now))
      ∧ (frameClass (s.parseCfg n) f.data ≤ 1 → p.encap = some .ethernet → beAt f.data (p.ptpOff + 4) 1 = s.get F.PTP_CTRL_DOMAIN →
          beAt f.data p.ptpOff 1 / 16 = s.majorSdo → beAt f.data (p.ptpOff + 5) 1 = s.get F.PTP_CTRL_MINOR_SDO →
          s.consumes n (p.msgType f.data) = true →
        (∀ tlv, checkPtp m = some tlv → s.authPass m tlv = true → beAt m 0 1 % 16 = 0 → (beAt m 6 1).testBit 1 = true →
            (s.ptp n).master = some (sub m 20 10) →
          ∃ t, exec (.ptpMessageRx n f) s = .next t
            ∧ (t.ptp n).sync = some ⟨beAt m 30 2, sub m 20 10, now, signed 64 (beAt m 8 8)⟩
            ∧ (t.ptp n).ds = (s.ptp n).ds ∧ (t.ptp n).mpd = (s.ptp n).mpd
            ∧ t.get F.PTP_CNT_RX_TERM_RX_TERM n = satAdd F.PTP_CNT_RX_TERM_RX_TERM.width (s.get F.PTP_CNT_RX_TERM_RX_TERM n) 1
            ∧ t.out = s.out ∧ s.boardKept t ∧ s.bytesKept t)
        ∧ (∀ tlv, checkPtp m = some tlv → s.authPass m tlv = false →
          ∃ t, exec (.ptpMessageRx n f) s = .next t ∧ t.ports = s.ports ∧ t.out = s.out
            ∧ t.get F.PTP_CNT_AUTH_FAIL_AUTH_FAIL n
              = satAdd F.PTP_CNT_AUTH_FAIL_AUTH_FAIL.width (s.get F.PTP_CNT_AUTH_FAIL_AUTH_FAIL n) 1)
        ∧ (checkPtp m = none →
          ∃ t, exec (.ptpMessageRx n f) s = .next t ∧ t.get F.PTP_CNT_MALFORMED_MALFORMED n
              = satAdd F.PTP_CNT_MALFORMED_MALFORMED.width (s.get F.PTP_CNT_MALFORMED_MALFORMED n) 1
            ∧ t.get F.SPX_CNT_V_PTP_N n = satAdd F.SPX_CNT_V_PTP_N.width (s.get F.SPX_CNT_V_PTP_N n) 1 ∧ s.boardKept t ∧ s.bytesKept t)))
    ∧ (∀ (k : Nat) (s : State), s.tidy = true → s.mainUp = true → k < 8 → s.bonded (s.srcPort k) = true →
      ∃ t, exec (.announceExpiry k) s = .next t ∧ t.annWithin (s.srcPort k) (s.get F.SRV_SRC_CLASS_MAX k) = false
        ∧ (∀ m : Nat, m ≠ s.srcPort k → t.ptp m = s.ptp m) ∧ t.out = s.out ∧ s.boardKept t ∧ s.bytesKept t)
    ∧ (∀ (c : Cmd) (t : Bytes) (s : State), c.admitted s true → c.reservedOk 0 0 0 true = true → c.readOk (c.begun s) 64 →
        t = c.input (c.afterRead (c.begun s) 64) 64 →
      (leAt t 0 1 % 16 = 0xB → beAt t 2 2 = 64 → exec (.ptpSetAnnounce c) s = .next (c.done
        { c.afterRead (c.begun s) 64 with srv := { (c.afterRead (c.begun s) 64).srv with tmpl := t } } stOk))
      ∧ (leAt t 0 1 % 16 ≠ 0xB ∨ beAt t 2 2 ≠ 64 →
        exec (.ptpSetAnnounce c) s = .next (c.done (c.afterRead (c.begun s) 64) stBadParam))))
  ∧ ((∀ (n : Nat) (s : State), s.tidy = true → s.mainUp = true → s.bonded n = true → s.role n = 2 → s.tbState = tbCold →
        (s.egress n .line).backlog ≤ s.get F.STR_INJ_INJ_HOLD n →
      (∃ t, exec (.ptpMessageDue n 0) s = .next t ∧ (t.ptp n).seqSync = ((s.ptp n).seqSync + 1) % 65536
        ∧ t.egress n .line = s.egress n .line ∧ s.fieldsKept t [] ∧ s.timeKept t ∧ s.hostKept t ∧ s.bytesKept t)
      ∧ (∃ t, exec (.ptpMessageDue n 11) s = .next t ∧ (t.ptp n).seqAnn = ((s.ptp n).seqAnn + 1) % 65536
        ∧ t.egress n .line = s.egress n .line ∧ s.fieldsKept t [] ∧ s.timeKept t ∧ s.hostKept t ∧ s.bytesKept t))
    ∧ (∀ (n : Nat) (s : State), s.tidy = true → s.mainUp = true → s.bonded n = true → s.role n = 1 → s.p2p n = false →
        (s.egress n .line).backlog ≤ s.get F.STR_INJ_INJ_HOLD n → s.forwarding n .line = true → s.on F.PTP_AUTH_GEN = false →
        0 < s.resvLeft n → s.grantCell ≠ none → (∀ x : Side, (s.egress n x).arriving = []) →
      ∃ t, exec (.ptpMessageDue n 1) s = .next t ∧ (t.ptp n).seqDreq = ((s.ptp n).seqDreq + 1) % 65536
        ∧ (t.ptp n).dreq = some ⟨(s.ptp n).seqDreq, none, none, none⟩
        ∧ (t.egress n .line).orig.map (·.src) = (s.egress n .line).orig.map (·.src) ++ [.ptp 1 (s.ptp n).seqDreq false]
        ∧ t.get F.PTP_CNT_TX_ORIG_TX_ORIG n = satAdd F.PTP_CNT_TX_ORIG_TX_ORIG.width (s.get F.PTP_CNT_TX_ORIG_TX_ORIG n) 1
        ∧ s.timeKept t ∧ s.hostKept t ∧ s.bytesKept t))


/-! ### Strait Phase Exchange -/

/-- Timers of a session (R128): HELLOs in PROBE until eight have gone, then WAIT with DISC_FAIL; CAPS that fails ends in WAIT;
WAIT, FALLBACK and a silent RUN lead to PROBE with a new nonce and no partner record, the partner's nonce kept for the echo (R126);
starving marks RUN.

Discovery, capability words and EN (R126 to R130): a BYE ends CAPS or RUN in WAIT; a HELLO that echoes this port's nonce leads
from PROBE to CAPS; a frame of another type is a partner violation; the four words are sent in CAPS and, with the partner's words
held, lead to RUN where its W3 acknowledges; a bad word ends in WAIT; EN = 0 ends the session and EN = 1 opens one on a live port. That
the eighth HELLO leaves the port in PROBE and the next timer gives WAIT is the model's reading (assumption 22). -/
def Obligations.SpxSessionsOpenAndClose : Prop :=
  ((∀ (n : Nat) (s : State), s.tidy = true → s.bonded n = true → s.sess n = sessProbe →
      (8 ≤ (s.spx n).hellos → ∃ t, exec (.helloTimer n) s = .next t ∧ t.sess n = sessWait ∧ t.on F.SPX_EVT_DISC_FAIL n = true
        ∧ t.out = s.out ∧ s.boardKept t ∧ s.bytesKept t)
      ∧ ((s.spx n).hellos < 8 → s.forwarding n .line = true → (s.egress n .line).backlog ≤ s.get F.STR_INJ_INJ_HOLD n →
          0 < s.resvLeft n → s.grantCell ≠ none → (∀ x : Side, (s.egress n x).arriving = []) →
        ∃ t, exec (.helloTimer n) s = .next t ∧ t.sess n = sessProbe ∧ (t.spx n).hellos = (s.spx n).hellos + 1
          ∧ (t.egress n .line).orig.map (·.src) = (s.egress n .line).orig.map (·.src) ++ [.disc]
          ∧ t.get F.SPX_CNT_DISC_TX_N n = satAdd F.SPX_CNT_DISC_TX_N.width (s.get F.SPX_CNT_DISC_TX_N n) 1
          ∧ s.timeKept t ∧ s.hostKept t ∧ s.boardKept t ∧ s.bytesKept t))
    ∧ (∀ (n : Nat) (s : State), s.tidy = true → s.bonded n = true →
      (s.sess n = sessCaps →
        ∃ t, exec (.capsTimeout n) s = .next t ∧ t.sess n = sessWait ∧ t.on F.SPX_EVT_CAPS_FAIL n = true ∧ t.out = s.out
          ∧ s.boardKept t ∧ s.bytesKept t)
      ∧ (s.sess n = sessRun →
        (∃ t, exec (.spxStarved n) s = .next t ∧ t.sess n = sessRun ∧ t.on F.SPX_STATUS_STARVED n = true
          ∧ t.on F.SPX_EVT_STARVED n = true ∧ t.ports = s.ports ∧ t.out = s.out ∧ s.boardKept t ∧ s.bytesKept t)
        ∧ (∃ t, exec (.markSilence n) s = .next t ∧ t.sess n = sessProbe ∧ t.on F.SPX_EVT_SESS_DOWN n = true
          ∧ (t.spx n).nonce ≠ 0 ∧ (t.spx n).partnerNonce = (s.spx n).partnerNonce ∧ (t.spx n).marks = [] ∧ t.on F.SPX_STATUS_REC_VALID n = false))
      ∧ (∀ p ∈ [(sessWait, Instr.waitExpiry n), (sessFallback, .fallbackExpiry n)], s.sess n = p.1 →
        ∃ t, exec p.2 s = .next t ∧ t.sess n = sessProbe ∧ (t.spx n).nonce ≠ 0 ∧ (t.spx n).partnerNonce = (s.spx n).partnerNonce
          ∧ (t.spx n).marks = [] ∧ t.on F.SPX_STATUS_REC_VALID n = false)))
  ∧ ((∀ (n : Nat) (f : RxFrame) (s : State), s.tidy = true → s.mainUp = true → s.bonded n = true → s.spxLive n = true →
        s.damaged n .line f = false → fcsOk f.data = true → f.data.length = 64 → beAt f.data 14 2 = 0x5350 → beAt f.data 16 1 = 1 → beAt f.data 28 4 ≠ 0 →
        (sub f.data 38 22).all (fun b => decide (b = 0)) = true →
      (beAt f.data 17 1 = discBye → s.sess n = sessCaps ∨ s.sess n = sessRun →
        ∃ t, exec (.discoveryFrameRx n f) s = .next t ∧ t.sess n = sessWait ∧ t.on F.SPX_EVT_SESS_DOWN n = true
          ∧ t.get F.SPX_CNT_DISC_RX_N n = satAdd F.SPX_CNT_DISC_RX_N.width (s.get F.SPX_CNT_DISC_RX_N n) 1 ∧ t.out = s.out
          ∧ s.boardKept t ∧ s.bytesKept t)
      ∧ (beAt f.data 17 1 = discHello → s.sess n = sessProbe → beAt f.data 32 4 = (s.spx n).nonce →
        ∃ t, exec (.discoveryFrameRx n f) s = .next t ∧ t.sess n = sessCaps ∧ (t.spx n).partnerNonce = beAt f.data 28 4
          ∧ t.get F.SPX_PSER_PSER n = beAt f.data 18 8 ∧ (t.spx n).caps = [] ∧ s.boardKept t ∧ s.bytesKept t)
      ∧ (beAt f.data 17 1 ≠ discBye → beAt f.data 17 1 ≠ discHello →
        ∃ t, exec (.discoveryFrameRx n f) s = .next t
          ∧ t.get F.SPX_CNT_V_DISC_N n = satAdd F.SPX_CNT_V_DISC_N.width (s.get F.SPX_CNT_V_DISC_N n) 1
          ∧ t.get F.SPX_CNT_DISC_RX_N n = s.get F.SPX_CNT_DISC_RX_N n))
    ∧ (∀ (n : Nat) (s : State), s.tidy = true → s.bonded n = true → s.sess n = sessCaps → s.forwarding n .line = true →
      ((s.spx n).holdsWords = false →
        ∃ t, exec (.capsSendTimer n) s = .next t ∧ t.sess n = sessCaps ∧ s.fieldsKept t []
          ∧ t.out = s.out ++ (s.capsWords n false).zipIdx.map (fun p => .spx n (spxLayout 3 p.2 p.1) s.raw)
          ∧ s.timeKept t ∧ s.boardKept t ∧ s.bytesKept t)
      ∧ ((s.spx n).holdsWords = true → (s.spx n).caps.any (fun p => p.1 = 3 && p.2.testBit 0) = true →
        ∃ t, exec (.capsSendTimer n) s = .next t ∧ t.sess n = sessRun ∧ t.on F.SPX_EVT_SESS_UP n = true
          ∧ t.on F.SPX_STATUS_RANGING n = true ∧ t.on F.SPX_STATUS_FALLBACK n = false
          ∧ t.out = s.out ++ (s.capsWords n true).zipIdx.map (fun p => .spx n (spxLayout 3 p.2 p.1) s.raw)
          ∧ s.boardKept t ∧ s.bytesKept t))
    ∧ (∀ (n : Nat) (b : SpxBlock) (s : State), s.tidy = true → s.mainUp = true → s.bonded n = true → s.sess n = sessCaps →
        b.isSpx = true → b.kind = 3 → b.tail = false → s.get F.TST_SPXDROP_K n = 0 →
      (b.seq = 1 → capsBad 1 b.payload = false → (s.spx n).ackSent = false →
        exec (.capsRx n b) s = .next (s.modSpx n (fun x => { x with caps := Store.set 65536 x.caps 1 b.payload })))
      ∧ (capsBad b.seq b.payload = true →
        ∃ t, exec (.capsRx n b) s = .next t ∧ t.sess n = sessWait ∧ t.on F.SPX_EVT_CAPS_FAIL n = true ∧ t.out = s.out
          ∧ s.boardKept t ∧ s.bytesKept t))
    ∧ (∀ (ag : Agent) (i : Nat) (v : Word) (s : State), s.tidy = true → i < 32 → s.reaches ag (0xA0000 + 0x400 * i) →
      (v.toNat.testBit 0 = false →
        ∃ t, exec (.spxEnWrite ag i v) s = .next t ∧ t.on F.SPX_CTRL_EN i = false ∧ t.sess i = sessOff ∧ s.boardKept t ∧ s.bytesKept t)
      ∧ (v.toNat.testBit 0 = true → s.sess i = sessOff → s.spxLive i = true →
        ∃ t, exec (.spxEnWrite ag i v) s = .next t ∧ t.on F.SPX_CTRL_EN i = true ∧ t.sess i = sessProbe ∧ (t.spx i).nonce ≠ 0
          ∧ s.boardKept t ∧ s.bytesKept t)))

/-- Exchanges (R131 to R136, R149). The 66 bits of a block give back its fields. A MARK that is due goes out in an idle block, and the six
blocks that follow it carry its departure time and the arrival of the partner's last MARK; in each idle block a NACK that waits goes
before the next block of the exchange. A whole exchange without a report counts and makes no measurement; a fragment without a MARK is a
partner violation. STATUS words collect into the partner's record; a NACK marks history entries unreported, one of count 0 a single
sequence's (the model's choice, assumption 48).

Receive phase, routes and the SPX commands (R139, R145, R146): an average moves PHASE by its change, unwrapped; RR_FAIL ends a
pending route; SPX_SET_ASYM sets FIX and UNC, and with CLR the unknown part to none; SPX_ACCEPT_ROUTE ends RRT_HOLD. -/
def Obligations.SpxExchangesRun : Prop :=
  ((∀ (n : Nat) (st : Stamp) (tx : Raw) (s : State), s.tidy = true → s.bonded n = true → s.sess n = sessRun →
        s.forwarding n .line = true → (s.spx n).nackDue = [] → (s.spx n).exchange = [] → s.blockIdle n st = true →
        tx = s.txStamp n .line st.laneZero → (∀ t, (s.spx n).lastMark = some t → t + s.spxPeriod n ≤ st.w) →
      ∃ t pay, exec (.spxMarkDue n st) s = .next t
        ∧ t.out = s.out ++ [.spx n (spxLayout 1 (s.spx n).txSeq pay) tx]
        ∧ (t.spx n).exchange = (List.range 3).map (fun i => (8 + i, (s.spx n).txSeq, tx / 65536 ^ i))
          ++ (List.range 3).map (fun i => (11 + i, ((s.spx n).rxMark.map Prod.fst).getD 0,
              ((s.spx n).rxMark.map Prod.snd).getD 0 / 65536 ^ i))
        ∧ pay.testBit 15 = (s.spx n).rxMark.isSome ∧ pay % 256 = t.get F.TB_GEN_GEN % 256 ∧ pay / 256 % 4 = 0
        ∧ (t.spx n).marks = (⟨(s.spx n).markIx, (s.spx n).txSeq, tx, s.on F.SPX_STATUS_RANGING n, false⟩ :: (s.spx n).marks).take 256
        ∧ (t.spx n).txSeq = ((s.spx n).txSeq + 1) % 16
        ∧ t.get F.SPX_CNT_MARK_TX_N n = satAdd F.SPX_CNT_MARK_TX_N.width (s.get F.SPX_CNT_MARK_TX_N n) 1 ∧ s.boardKept t ∧ s.bytesKept t)
    ∧ (∀ (n : Nat) (st : Stamp) (tx : Raw) (s : State), s.tidy = true → s.mainUp = true → s.bonded n = true → s.sess n = sessRun →
        s.forwarding n .line = true → s.frameWaits n .line = false → s.blockIdle n st = true → tx = s.txStamp n .line st.laneZero →
      (∀ p q, (s.spx n).nackDue = p :: q →
        ∃ t, exec (.egressFrameStart n .line st) s = .next t ∧ t.out = s.out ++ [.spx n (spxLayout 4 p.1 p.2) tx]
          ∧ (t.spx n).nackDue = q ∧ (t.spx n).exchange = (s.spx n).exchange
          ∧ t.get F.SPX_CNT_NACK_TX_N n = satAdd F.SPX_CNT_NACK_TX_N.width (s.get F.SPX_CNT_NACK_TX_N n) 1)
      ∧ (∀ p q, (s.spx n).nackDue = [] → (s.spx n).exchange = p :: q →
        ∃ t, exec (.egressFrameStart n .line st) s = .next t ∧ t.out = s.out ++ [.spx n (spxLayout p.1 p.2.1 p.2.2) tx]
          ∧ (t.spx n).exchange = q))
    ∧ (∀ (k q p : Nat) (w : Raw) (slot : Nat × Nat), (⟨spxLayout k q p, w, slot⟩ : SpxBlock).isSpx = true
        ∧ (⟨spxLayout k q p, w, slot⟩ : SpxBlock).kind = k % 16 ∧ (⟨spxLayout k q p, w, slot⟩ : SpxBlock).seq = q % 16
        ∧ (⟨spxLayout k q p, w, slot⟩ : SpxBlock).payload = p % 65536 ∧ (⟨spxLayout k q p, w, slot⟩ : SpxBlock).tail = false)
    ∧ (∀ (n : Nat) (b : SpxBlock) (fr : List SpxBlock) (r : Nat) (s : State), s.tidy = true → s.mainUp = true →
        s.bonded n = true → s.sess n = sessRun → s.get F.TST_SPXDROP_K n = 0 → s.on F.SPX_STATUS_STARVED n = false →
        (s.spx n).asm = none → (∀ l, (s.spx n).rxSeq = some l → b.seq = (l + 1) % 16) →
        b.kind = 1 → bits b.payload 8 2 = 0 → b.payload.testBit 15 = false →
        s.get F.SPX_PINFO_SRC n = bits b.payload 10 1 → (b :: fr).all (fun x => x.isSpx && !x.tail) = true →
        fr.map (·.kind) = [8, 9, 10, 11, 12, 13] → fr.map (·.seq) = List.replicate 3 b.seq ++ List.replicate 3 r →
      ∃ t, exec (.spxExchangeRx n (b :: fr)) s = .next t
        ∧ t.get F.SPX_CNT_MARK_RX_N n = satAdd F.SPX_CNT_MARK_RX_N.width (s.get F.SPX_CNT_MARK_RX_N n) 1
        ∧ t.get F.SPX_STATUS_VIOL_RUN n = 0 ∧ t.get F.SPX_CNT_MEAS_N n = s.get F.SPX_CNT_MEAS_N n ∧ (t.spx n).asm = none
        ∧ (t.spx n).rxMark = some (b.seq, s.rxStamp n .line (s.blockStamp n b)) ∧ t.out = s.out ∧ s.boardKept t ∧ s.bytesKept t)
    ∧ (∀ (n : Nat) (b : SpxBlock) (s : State), s.tidy = true → s.mainUp = true → s.bonded n = true → s.sess n = sessRun →
        s.get F.TST_SPXDROP_K n = 0 → b.isSpx = true → b.tail = false →
      ((s.spx n).asm = none → b.kind = 9 →
        ∃ t, exec (.spxExchangeRx n [b]) s = .next t
          ∧ t.get F.SPX_CNT_V_FRAG_N n = satAdd F.SPX_CNT_V_FRAG_N.width (s.get F.SPX_CNT_V_FRAG_N n) 1)
      ∧ (b.kind = 2 → b.seq = (s.spx n).words.length →
        (b.seq < 15 → exec (.spxStatusWordRx n b) s
          = .next (s.modSpx n (fun x => { x with words := x.words ++ [b.payload] })))
        ∧ (b.seq = 15 →
          ∃ t, exec (.spxStatusWordRx n b) s = .next t ∧ t.on F.SPX_STATUS_REC_VALID n = true ∧ (t.spx n).words = []
            ∧ (t.spx n).record = some (parseRecord ((s.spx n).words ++ [b.payload])) ∧ t.out = s.out ∧ s.boardKept t
            ∧ s.bytesKept t))
      ∧ (b.kind = 4 → ∃ t, exec (.spxNackRx n b) s = .next t
          ∧ t.get F.SPX_CNT_NACK_RX_N n = satAdd F.SPX_CNT_NACK_RX_N.width (s.get F.SPX_CNT_NACK_RX_N n) 1
          ∧ (t.spx n).marks = unreport ((List.range (max 1 (bits b.payload 4 4))).map (fun i => (b.seq + i) % 16))
              (s.spx n).marks
          ∧ s.fieldsKept t [F.SPX_CNT_NACK_RX_N.place n] ∧ t.out = s.out ∧ s.boardKept t ∧ s.bytesKept t)))
  ∧ ((∀ (n : Nat) (raw : Raw) (avg : Int) (s : State), s.tidy = true → s.mainUp = true → s.bonded n = true → s.live n .line = true →
      ∃ t, exec (.phaseAverage n raw avg) s = .next t ∧ (t.spx n).phBase = some avg
        ∧ ((s.spx n).phBase = none → t.get F.SPX_PHASE_PHASE n = toBits 64 (s.int F.SPX_PHASE_PHASE n + avg))
        ∧ (∀ b, (s.spx n).phBase = some b → 2 * (avg - b).natAbs < s.wordTaps n →
            t.get F.SPX_PHASE_PHASE n = toBits 64 (s.int F.SPX_PHASE_PHASE n + (avg - b)))
        ∧ s.fieldsKept t [F.SPX_PHASE_PHASE.place n, F.SPX_EVT_PH_STEP.place n] ∧ t.out = s.out ∧ s.boardKept t ∧ s.bytesKept t)
    ∧ (∀ (n : Nat) (s : State), s.tidy = true → s.on F.SPX_STATUS_ROUTE_PEND n = true → s.on F.SPX_STATUS_RRT_HOLD n = false →
      ∃ t, exec (.rrFail n) s = .next t ∧ t.on F.SPX_STATUS_RR_FAIL n = true ∧ t.on F.SPX_EVT_RR_FAIL n = true
        ∧ t.on F.SPX_STATUS_ROUTE_PEND n = false ∧ s.restKept t
        ∧ s.fieldsKept t [F.SPX_STATUS_RR_FAIL.place n, F.SPX_EVT_RR_FAIL.place n, F.SPX_STATUS_ROUTE_PEND.place n])
    ∧ (∀ (c : Cmd) (s : State), s.tidy = true → c.admitted s true →
      (c.reservedOk 0x11F 0 (2 ^ 64 - 1) false = true → s.bonded (c.a.toNat % 32) = true → c.cAt 4 4 ≤ 65535 →
        ∃ u, exec (.spxSetAsym c) s = .next (c.done u stOk) ∧ u.get F.SPX_FIX_FIX (c.a.toNat % 32) = c.cAt 0 4
          ∧ u.get F.SPX_UNC_UNC (c.a.toNat % 32) = c.cAt 4 4
          ∧ (c.a.toNat.testBit 8 = true → (u.spx (c.a.toNat % 32)).uRoute = 0
              ∧ u.on F.SPX_STATUS_ASYM_UNKNOWN (c.a.toNat % 32) = false)
          ∧ (c.a.toNat.testBit 8 = false → u.ports = s.ports) ∧ s.timeKept u ∧ s.boardKept u ∧ s.bytesKept u)
      ∧ (c.reservedOk 0x1F 0 0 false = true → s.bonded c.a.toNat = true →
        (s.on F.SPX_STATUS_RRT_HOLD c.a.toNat = false → exec (.spxAcceptRoute c) s = .next (c.done (c.begun s) stNotReady))
        ∧ (s.on F.SPX_STATUS_RRT_HOLD c.a.toNat = true →
          ∃ u, exec (.spxAcceptRoute c) s = .next (c.done u stOk) ∧ u.on F.SPX_STATUS_RRT_HOLD c.a.toNat = false
            ∧ (u.spx c.a.toNat).acceptRef = (s.spx c.a.toNat).lastAgreed ∧ s.timeKept u ∧ s.boardKept u ∧ s.bytesKept u))))


/-! ### Timed actions, launch queues, capture -/

/-- The firing stage (R203 to R208). An occurrence is committed, one per 4 SCLK, with its target and count, and its entry moves on; an unreadable
entry is skipped with NORES. The occurrence due leaves the stage: while output is halted it is skipped with HALT; one that is due now,
with no reason to skip it, executes, and an EDGE part raises its ball at its raw time.

Event capture (R219 to R221, R329): an edge that a unit takes enters its FIFO with its corrected time, its sequence and the count of
lost edges, and one that meets its ball's input blind is lost; the unit whose turn it is delivers the head of its FIFO to its event ring. -/
def Obligations.OccurrencesAndCapturesRun : Prop :=
  ((∀ (raw tgt : Raw) (i : Nat) (a : Action) (s : State), s.tidy = true → s.mainUp = true → s.ta.stage.length < 256 →
        (s.reach raw).intakeFree = true → (s.reach raw).commitPick raw = some (i, a, tgt) →
      ((s.readWords (actionKey i) 4).1 = false →
        ∃ t, exec (.taCommit raw) s = .next t
          ∧ t.ta.stage = s.ta.stage ++ [⟨i, a, a.targetOf a.k, a.begun.count, !a.begun.valid, s.reserve a.parts⟩]
          ∧ t.ta.lastIn = some t.cyc ∧ t.get F.TA_STATUS_STAGE = s.ta.stage.length + 1 ∧ t.action i = a.begun ∧ (∀ j : Nat, j ≠ i → t.action j = s.action j)
          ∧ t.out = s.out ∧ s.boardKept t ∧ s.bytesKept t)
      ∧ ((s.readWords (actionKey i) 4).1 = true →
        ∃ t, exec (.taCommit raw) s = .next t ∧ t.ta.stage = s.ta.stage ∧ (t.action i).valid = false ∧ t.out = s.out
          ∧ t.get F.TA_CNT_NORES_NORES = satAdd F.TA_CNT_NORES_NORES.width (s.get F.TA_CNT_NORES_NORES) 1))
    ∧ (∀ (raw : Raw) (u : Raw × Nat × Nat) (k : Nat) (g : Staged) (tx : List Stamp) (s : State), s.tidy = true → s.mainUp = true →
        (s.reach raw).duePick raw = some (u, k) → s.ta.stage[k]? = some g →
      ∃ t, exec (.taExecute raw tx) s = .next t ∧ t.ta.stage = s.ta.stage.eraseIdx k ∧ s.bytesKept t
        ∧ (s.halted = true → t.get F.TA_CNT_HALT_HALT = satAdd F.TA_CNT_HALT_HALT.width (s.get F.TA_CNT_HALT_HALT) 1
            ∧ t.get F.TA_CNT_OCCUR_OCCUR = s.get F.TA_CNT_OCCUR_OCCUR)
        ∧ ((s.reach raw).dueRaw g = raw → s.skipReason g = 0 → s.ta.later = [] → g.entry.parts.all (fun p => decide (p.op ≠ opLaunch)) = true →
            t.get F.TA_CNT_OCCUR_OCCUR = satAdd F.TA_CNT_OCCUR_OCCUR.width (s.get F.TA_CNT_OCCUR_OCCUR) 1
            ∧ t.get F.TA_CNT_LATE_LATE = s.get F.TA_CNT_LATE_LATE
            ∧ (∀ b ofs : Nat, g.entry.parts = [⟨opEdgeHi, b, ofs, 0⟩] → g.entry.evt = false → g.last = false →
                s.on F.TA_TIO_CTRL_LEVEL b = false → Store.get 0 s.ta.lastEdge b ≠ raw / 512 + 1 → s.ta.falls = [] →
                (s.reach raw).laterAt ⟨g, 0, ⟨opEdgeHi, b, ofs, 0⟩, false, false, 0⟩ = (raw, false) →
              t.on F.TA_TIO_CTRL_LEVEL b = true
                ∧ t.out = s.out ++ [.edge b (!s.on F.TA_TIO_CTRL_INV b) (s.tioPlace b raw)]))))
  ∧ ((∀ (ball k : Nat) (rising : Bool) (w : Raw) (s : State), s.tidy = true → s.mainUp = true → ball < s.fuses.variant.tios →
        s.get F.TA_TIO_CTRL_MODE ball ≠ 0 → k < 16 → s.on F.TA_CU_CTRL_EN k = true → s.get F.TA_CU_CTRL_SRC k = ball →
        s.cuEdge k rising = true → (s.cu k).lastRaw = none →
      ((s.reach w).tioBlind ball w = true →
        ∃ t, exec (.captureEdge ball rising w) s = .next t ∧ (t.cu k).fifo = (s.cu k).fifo
          ∧ (t.cu k).lost = satAdd 16 (s.cu k).lost 1 ∧ (t.cu k).seq = ((s.cu k).seq + 1) % 65536 ∧ t.out = s.out)
      ∧ ((s.reach w).tioBlind ball w = false → (s.cu k).phase = 0 → (s.cu k).fifo.length < 64 →
        ∃ t, exec (.captureEdge ball rising w) s = .next t
          ∧ (t.cu k).fifo = (s.cu k).fifo ++ [⟨rising, ((s.cu k).seq + 1) % 65536, (s.cu k).lost,
              (s.calCapture (8 + ball) (calTioIn ball) true w + s.tioSkew ball).toNat⟩]
          ∧ (t.cu k).lost = 0 ∧ t.get F.TA_CU_STAT_FILL k = (s.cu k).fifo.length + 1
          ∧ (∀ j : Nat, s.on F.TA_CU_CTRL_EN j = false → t.cu j = s.cu j) ∧ t.out = s.out ∧ s.boardKept t ∧ s.bytesKept t))
    ∧ (∀ (k : Nat) (x : Capture) (r : List Capture) (s : State), s.tidy = true → s.mainUp = true → k < 16 →
        (∀ j : Nat, j < 16 → s.cuReady j = decide (j = k)) → (s.cu k).fifo = x :: r →
      ∃ t rest, exec .captureDelivery s = .next t ∧ (t.cu k).fifo = r ∧ t.ta.cuTurn = k
        ∧ t.get F.TA_CU_DELIV_DELIV k = satAdd F.TA_CU_DELIV_DELIV.width (s.get F.TA_CU_DELIV_DELIV k) 1
        ∧ t.out = s.out ++ .dma (s.get F.HIF_RING_BASE_BASE (128 + s.get F.TA_CU_CTRL_RING k)
              + s.get F.HIF_RING_PTR_DEVPTR (128 + s.get F.TA_CU_CTRL_RING k) * 32)
            (eventEntry 1 (s.ringPhase (128 + s.get F.TA_CU_CTRL_RING k)) (b2n x.rising) k
              (Store.get 0 s.hif.evSeq (s.get F.TA_CU_CTRL_RING k)) (rawBytes x.raw ++ le 2 x.seq ++ le 2 x.lost)) :: rest
        ∧ s.timeKept t ∧ s.boardKept t ∧ s.bytesKept t))

/-- The timed-action commands (R202, R210, R214, R225, R226). TA_ARM enters its images or names the resource in conflict;
TA_DISARM clears VALID and counts; TA_QUERY delivers images; LQ_ENQUEUE appends a frame while the queue has room, LQ_FLUSH
discards what no committed occurrence takes; TA_CLAIM_BREAK frees a resource. That a period generator goes with every ball that
selects it is the model's reading (assumption 44). -/
def Obligations.TimedActionCommandsComplete : Prop :=
  (∀ (c : Cmd) (first n : Nat) (w : State) (l : List (Bool × Action)) (s : State), s.tidy = true → c.admitted s true →
      c.reservedOk 0x7FFF3FFF 0 0 true = true → actionRange c.a.toNat 256 = some (first, n) → c.readOk (c.begun s) (64 * n) →
      w = c.afterRead (c.begun s) (64 * n) →
      l = (List.range n).map (fun i => w.parseAction (sub (c.input w (64 * n)) (64 * i) 64)) →
    (l.any (fun x => !x.1) = true → exec (.taArm c) s = .next (c.done w stBadParam))
    ∧ (l.any (fun x => !x.1) = false →
      (∀ p, w.partConflict c.agent (l.map Prod.snd) = some p → exec (.taArm c) s
        = .next (c.done w stClaimConflict (s.owner p.claim + 65536 * p.claim)))
      ∧ (w.partConflict c.agent (l.map Prod.snd) = none →
        ∃ u, exec (.taArm c) s = .next (c.done u stOk) ∧ (∀ i : Nat, i < n → some (u.action (first + i)) = (l.map Prod.snd)[i]?)
          ∧ (∀ j : Nat, j < first ∨ first + n ≤ j → u.action j = s.action j) ∧ s.timeKept u ∧ s.boardKept u)))
  ∧ (∀ (c : Cmd) (first n : Nat) (s : State), s.tidy = true → c.admitted s true → c.reservedOk 0x7FFF3FFF 0 0 false = true →
      actionRange c.a.toNat 16384 = some (first, n) →
    ∃ u, exec (.taDisarm c) s = .next (c.done u stOk
        ((s.ta.table.filter (fun p => decide (first ≤ p.1) && decide (p.1 < first + n) && p.2.valid)).length))
      ∧ (∀ j : Nat, first ≤ j → j < first + n → (u.action j).valid = false)
      ∧ (∀ j : Nat, j < first ∨ first + n ≤ j → u.action j = s.action j) ∧ s.timeKept u ∧ s.boardKept u ∧ s.bytesKept u)
  ∧ (∀ (c : Cmd) (r : Fin 32) (first n : Nat) (s : State), c.src = .ring r → c.admitted s true → c.dmaErr = false →
      c.reservedOk 0x7FFF3FFF 0 0 true = true → actionRange c.a.toNat 256 = some (first, n) →
    (((c.begun s).readWords (actionKey first) (4 * n)).1 = false → exec (.taQuery c) s = .next (c.done
      (((c.begun s).readWords (actionKey first) (4 * n)).2.emit
        (.dma c.b.toNat ((List.range n).flatMap (fun i => (s.action (first + i)).bytes)))) stOk))
    ∧ (((c.begun s).readWords (actionKey first) (4 * n)).1 = true → exec (.taQuery c) s
      = .next (c.done ((c.begun s).readWords (actionKey first) (4 * n)).2 stAborted 2)))
  ∧ (∀ (c : Cmd) (r : Fin 32) (s : State), s.tidy = true → c.src = .ring r → c.admitted s true → c.dmaErr = false →
      c.reservedOk 0x3FFF007F 0 0x0FFFC00F true = true → s.bonded (bits c.a.toNat 0 7 / 4) = true →
      64 ≤ bits c.a.toNat 16 14 → bits c.a.toNat 16 14 ≤ s.eff F.STR_MAXFRM_MAXFRM (bits c.a.toNat 0 7 / 4) →
      s.on F.TA_LQ_CTRL_EN (bits c.a.toNat 0 7) = true → (c.cAt 0 4).testBit 3 = false →
    (s.eff F.TA_LQ_CTRL_DEPTH (bits c.a.toNat 0 7) ≤ (s.lq (bits c.a.toNat 0 7)).frames.length →
      exec (.lqEnqueue c) s = .next (c.done (c.begun s) stBusy))
    ∧ ((s.lq (bits c.a.toNat 0 7)).frames.length < s.eff F.TA_LQ_CTRL_DEPTH (bits c.a.toNat 0 7) →
      (c.begun s).takeFrame (bits c.a.toNat 0 7 / 4) (bits c.a.toNat 16 14) ≠ none →
      ∃ u cells, exec (.lqEnqueue c) s = .next (c.done u stOk) ∧ cells.length = cellsFor (bits c.a.toNat 16 14)
        ∧ (u.lq (bits c.a.toNat 0 7)).frames = (s.lq (bits c.a.toNat 0 7)).frames ++ [⟨padTo (bits c.a.toNat 16 14) c.data, [],
            cells, bits (c.cAt 0 4) 0 2, (c.cAt 0 4).testBit 2, none, .launch (bits c.a.toNat 0 7)⟩]
        ∧ s.timeKept u ∧ s.boardKept u ∧ s.bytesKept u))
  ∧ (∀ (c : Cmd) (r : Fin 32) (s : State), s.tidy = true → c.src = .ring r → c.admitted s true → c.reservedOk 0x7F 0 0 false = true →
      s.bonded (c.a.toNat / 4) = true →
    ∃ u, exec (.lqFlush c) s = .next (c.done u stOk (((s.lq c.a.toNat).frames.drop (s.lqCommitted c.a.toNat)).length
        + b2n (s.lq c.a.toNat).last.isSome))
      ∧ u.lq c.a.toNat = ⟨(s.lq c.a.toNat).frames.take (s.lqCommitted c.a.toNat), none⟩ ∧ s.timeKept u ∧ s.boardKept u ∧ s.bytesKept u)
  ∧ (∀ (c : Cmd) (s : State), s.tidy = true → c.admitted s true → c.reservedOk 0xFF 0 0 false = true →
    (s.claimable c.a.toNat = false → exec (.taClaimBreak c) s = .next (c.done (c.begun s) stBadParam))
    ∧ (s.claimable c.a.toNat = true →
      ∃ u, exec (.taClaimBreak c) s = .next (c.done u stOk) ∧ u.owner c.a.toNat = 0 ∧ u.on F.TA_CLAIM_HELD c.a.toNat = false
        ∧ s.bytesKept u))

/-! ### Register writes and reads -/

/-- A write that reaches a register has the register's own effect, the same from each row that names the register (R13). In the
timebase, recorder and calibration blocks, the word at their offset 0 apart, and in the registers listed, that effect is each
field's access code (R15, R16): RW takes the bits written, a 1 clears a W1C bit, RO keeps its value; RWI takes them while its block is
idle and otherwise keeps its value and is counted; an expert field takes them while XEN is 1. W1S sets where a 1 is written, and WO takes
no effect from a 0. Before a write clears flags, vector 127 has fired for them (R370). Before the end of step 8 a host write is ignored
and counted, and before step 10 a ring command completes with NOT_READY (R32). The host writes the mailbox through BAR2 and nothing else
there (R348, R391); that BAR2 is the host's address space from 0x20_0000 to 0xA0_0000 is the model's (assumption 40). -/
def Obligations.WritesFollowAccessCodes : Prop :=
  (∀ (ag : Agent) (a : Nat) (v : Word) (w : State) (s : State), s.reaches ag a →
      w = (if ag = .host ∨ ag = .sideband then s.beforeClear a else s).nativeWrite ag a v.toNat →
    exec (.registerWrite ag a v) s = .next w ∧ exec (.wideLoWrite ag a v) s = .next w ∧ exec (.wideUpperWrite ag a v) s = .next w)
  ∧ (∀ (ag : Agent) (i : Nat) (v : Word) (s : State),
    (∀ (a n : Nat) (c : Instr), (a, n, c) ∈ [(0x11008 + 32 * i, 132, Instr.ringEnable ag i v), (0x80000 + 0x1000 * i, 32, .strCtrlEnWrite ag i v),
        (0x80030 + 0x1000 * i, 32, .strPoolResvWrite ag i v), (0x40100 + 32 * i, 8, .ckoEnWrite ag i v), (0x50100 + 16 * i, 16, .tioModeWrite ag i v),
        (0x50300 + 32 * i, 16, .pgEnWrite ag i v), (0x50500 + 16 * i, 16, .cuEnWrite ag i v), (0x51000 + 16 * i, 128, .lqEnWrite ag i v),
        (0xC0080 + 16 * i, 4, .alarmEnWrite ag i v), (0xA0000 + 0x400 * i, 32, .spxEnWrite ag i v)] →
      i < n → exec (.registerWrite ag a v) s = exec c s)
    ∧ (∀ (a : Nat) (c : Instr), (a, c) ∈ [(0xE0010, Instr.monStickyClear ag v), (0xC0004, .wakeRelease ag v), (0x80, .snvmKeyWrite ag v),
        (0x98, .snvmProg ag v), (0x98, .snvmRead ag v), (0x110000, .tstKeyWrite ag v), (0x110034, .forceUnlock ag v), (0x110024, .eccArm ag v),
        (0x1C0000, .psmCtrlWrite ag v), (0xE0018, .jmaxClr ag v)] →
      exec (.registerWrite ag a v) s = exec c s)
    ∧ (∀ (a n : Nat) (c : Instr), (a, n, c) ∈ [(0x8003C + 0x1000 * i, 32, Instr.strCntClr ag i v), (0xA007C + 0x400 * i, 32, .spxCntClr ag i v),
        (0x6103C + 64 * i, 32, .ptpPcntClr ag i v), (0x4007C, 132, .ckCntClr ag v), (0x5007C, 132, .taCntClr ag v), (0x200FC, 132, .memCntClr ag v),
        (0x20208, 132, .memPoolClr ag v)] →
      i < n → exec (.registerWrite ag a v) s = exec c s
        ∧ (v.toNat.testBit 0 = false → s.reaches ag a → exec c s = .next s)))
  ∧ (∀ (ag : Agent) (a i : Nat) (v : Word) (r : Reg) (x : Slice) (s : State), s.tidy = true → s.reaches ag a →
      (a / 0x10000 = 3 ∨ a / 0x10000 = 15 ∨ a / 0x10000 = 16) ∧ a % 0x10000 ≠ 0
        ∨ a ∈ [0x10004, 0x20004, 0x200B0, 0x40024, 0x50008, 0xD0010, 0xD0014, 0xD0018, 0xD001C]
        ∨ (∃ n : Nat, n < 32 ∧ (a = 0x8000C + 0x1000 * n ∨ a = 0x80010 + 0x1000 * n ∨ a = 0xA0020 + 0x400 * n))
        ∨ (∃ n : Nat, n < 132 ∧ a = 0x1100C + 32 * n) →
      findReg a = some (r, i) → r.wide = none →
      x ∈ r.slices → x.src = 0 → x.width = x.fld.width → (r.slices.map (fun y => y.fld.place i)).Nodup →
    ∃ t, exec (.registerWrite ag a v) s = .next t
      ∧ (summarySource a = false ∨ s.on F.HIF_CTRL_SUM_IRQ = false → s.restKept t)
      ∧ (x.fld.acc = .rw → t.get x.fld i = bits v.toNat x.lo x.width)
      ∧ (x.fld.acc = .w1c → ∀ b : Nat, b < x.width →
          (t.get x.fld i).testBit b = ((s.get x.fld i).testBit b && !(bits v.toNat x.lo x.width).testBit b))
      ∧ (x.fld.acc = .ro → t.get x.fld i = s.get x.fld i)
      ∧ (x.fld.acc = .rwi →
          (s.idleAt x.fld.addr i = true → t.get x.fld i = bits v.toNat x.lo x.width)
          ∧ (s.idleAt x.fld.addr i = false → t.get x.fld i = s.get x.fld i
            ∧ (a < 0x80000 → t.get F.HIF_CNT_WIGN_WIGN = satAdd F.HIF_CNT_WIGN_WIGN.width (s.get F.HIF_CNT_WIGN_WIGN) 1)
            ∧ (0x80000 ≤ a → t.get F.STR_STATUS_WIGN i = satAdd F.STR_STATUS_WIGN.width (s.get F.STR_STATUS_WIGN i) 1)))
      ∧ (∀ xa st lo : Nat, x.fld.acc = .rwx xa st lo →
          t.get x.fld i = (if Store.get 0 (s.tbl x.fld.dom) ((xa + st * i) * 32 + lo) = 1 then bits v.toNat x.lo x.width else s.get x.fld i)))
  ∧ (∀ (ag : Agent) (v : Word) (s : State), s.tidy = true → s.reaches ag 0x110024 → s.on F.TST_STATUS_UNLOCKED = true →
    ∃ t, exec (.registerWrite ag 0x110024 v) s = .next t ∧ t.on F.TST_ECC_CTRL_ARM = (s.on F.TST_ECC_CTRL_ARM || v.toNat.testBit 10)
      ∧ t.get F.TST_ECC_CTRL_P = bits v.toNat 2 8 ∧ s.restKept t)
  ∧ (∀ (a : Nat) (v : Word) (s : State), s.tidy = true → s.mainUp = true → s.pwr.step8 = false → a % 4 = 0 → a < 0x200000 →
    ∃ t, exec (.registerWrite .host a v) s = .next t ∧ t.on F.HIF_EVT_WR_IGN = true
      ∧ t.get F.HIF_CNT_WIGN_WIGN = satAdd F.HIF_CNT_WIGN_WIGN.width (s.get F.HIF_CNT_WIGN_WIGN) 1
      ∧ s.fieldsKept t [F.HIF_EVT_WR_IGN.place, F.HIF_CNT_WIGN_WIGN.place] ∧ s.restKept t)
  ∧ (∀ (o : Nat) (v : Word) (s : State), s.tidy = true → s.mainUp = true → o % 4 = 0 →
    (o < 0x10000 → ∃ t, exec (.registerWrite .host (0x200000 + o) v) s = .next t
      ∧ (∀ i : Nat, i < 4 → some (t.mem.mailbox.read (o + i)) = (le 4 v.toNat)[i]?)
      ∧ (∀ a : Nat, (∀ i : Nat, i < 4 → a ≠ o + i) → t.mem.mailbox.read a = s.mem.mailbox.read a)
      ∧ (∀ a : Nat, t.snvm.data.read a = s.snvm.data.read a) ∧ s.timeKept t ∧ s.lineKept t ∧ s.boardKept t ∧ s.hostKept t)
    ∧ (0x10000 ≤ o → o < 0x800000 → exec (.registerWrite .host (0x200000 + o) v) s = .next s))
  ∧ (∀ (c : Cmd) (r : Fin 32) (s : State), c.src = .ring r → s.mainUp = true → s.pwr.step10 = false →
      s.mayBegin r.val c.tag.toNat c.fence = true →
    ∀ p ∈ [Instr.nop c, .reset c, .profSelect c, .tbRead c, .convert c, .acceptStep c, .sendFrame c, .spxSetAsym c,
        .spxAcceptRoute c, .srvSelect c, .srvPropose c, .srvClrTaint c, .ptpSetAnnounce c, .taArm c, .taDisarm c, .taQuery c,
        .lqEnqueue c, .lqFlush c, .taClaimBreak c, .atSetTime c, .atSetUtc c, .atKeyWrite c, .atZeroize c, .atTblClear c,
        .sqPowerOn c, .sqPowerOff c, .sqBtnAck c, .sqClearFault c, .sqRailOn c, .monSelftest c, .monRaise c, .recRead c, .recMark c,
        .recSnap c, .calRun c],
      exec p s = .next (c.done (c.begun s) stNotReady))

/-- Wide registers and clears (R14, R100, R101, R151, R177, R197, R227, R305, R393, R417): the upper word of an idle ring's BASE is
staged for its agent and the lower word commits both at once, while a ring in use ignores and counts the write; a read of a lower
word latches the upper ones; a read of the mailbox through BAR2 returns its octets, poisoned where the word is, and one of reserved space
there returns 0 (R348, R386); that BAR2 is read from 0x20_0000 on, and that the ignored write counts in HIF_CNT_WIGN, are the model's
(assumptions 40 and 17); a CNT_CLR clears the registers of its set and nothing else; CLR_MIN and JMAX_CLR restart their extremes. -/
def Obligations.WideRegistersAndClears : Prop :=
  (∀ (ag : Agent) (i : Nat) (hi lo : Word) (s : State), s.tidy = true → i < 132 →
      s.reaches ag (0x11000 + 32 * i) → s.reaches ag (0x11004 + 32 * i) →
    (s.idleAt 0x11000 i = true →
      exec (.wideUpperWrite ag (0x11004 + 32 * i) hi) s = .next (s.stage false (0x11004 + 32 * i) hi.toNat)
      ∧ ∃ t, exec (.wideLoWrite ag (0x11000 + 32 * i) lo) (s.stage false (0x11004 + 32 * i) hi.toNat) = .next t
          ∧ t.get F.HIF_RING_BASE_BASE i = lo.toNat + 2 ^ 32 * hi.toNat ∧ s.fieldsKept t [F.HIF_RING_BASE_BASE.place i] ∧ s.restKept t)
    ∧ (s.on F.HIF_RING_CFG_EN i = true →
      ∃ t, exec (.wideLoWrite ag (0x11000 + 32 * i) lo) s = .next t ∧ s.fieldsKept t [F.HIF_CNT_WIGN_WIGN.place] ∧ s.restKept t
        ∧ t.get F.HIF_CNT_WIGN_WIGN = satAdd F.HIF_CNT_WIGN_WIGN.width (s.get F.HIF_CNT_WIGN_WIGN) 1))
  ∧ (∀ (o : Nat) (s : State), s.mainUp = true → o % 4 = 0 →
    (o < 0x10000 → (s.wordErrs (mailboxKey (o / 16)) = 0 ∨ s.poisoned (mailboxKey (o / 16)) = true) →
      exec (.wideLoRead .host (0x200000 + o)) s = .next (s.emit (.hostData
        ((List.range 4).foldl (fun a i => a + (s.mem.mailbox.read (o + i)).toNat * 2 ^ (8 * i)) 0) (s.poisoned (mailboxKey (o / 16))))))
    ∧ (0x11000 ≤ o → o < 0x20000 → exec (.wideLoRead .host (0x200000 + o)) s = .next (s.emit (.hostData 0 false))))
  ∧ (∀ (a : Nat) (s : State), s.mainUp = true → a % 4 = 0 → a < 0x200000 →
    ∃ t, exec (.wideLoRead .host a) s = .next t ∧ t.out = s.out ++ [.hostData (s.readReg false a).1 false] ∧ s.fieldsKept t []
      ∧ (Store.get none s.lat.read (latchKey false a) = none → (s.readReg false a).1 = s.peek a)
      ∧ (∀ b ∈ latched a, Store.get none t.lat.read (latchKey false b) = some (s.peek b)) ∧ s.timeKept t ∧ s.bytesKept t)
  ∧ (∀ (ag : Agent) (i : Nat) (v : Word) (s : State), s.tidy = true → i < 32 → v.toNat.testBit 0 = true →
    ∀ (c : Instr) (a lo hi j : Nat),
      (c, a, lo, hi, j) ∈ [(Instr.strCntClr ag i v, 0x8003C + 0x1000 * i, 0x80100, 0x80158, i),
        (.spxCntClr ag i v, 0xA007C + 0x400 * i, 0xA0100, 0xA0140, i), (.ptpPcntClr ag i v, 0x6103C + 64 * i, 0x61020, 0x61034, i),
        (.ckCntClr ag v, 0x4007C, 0x40054, 0x4005C, 0), (.taCntClr ag v, 0x5007C, 0x50040, 0x5005C, 0)] →
      s.reaches ag a →
      ∃ t, exec c s = .next t ∧ s.restKept t
        ∧ (∀ r ∈ blockRegs lo, lo ≤ r.addr → r.addr ≤ hi → ∀ x ∈ r.slices, t.get x.fld j = 0)
        ∧ (∀ (f : Fld) (k : Nat), (∀ r ∈ blockRegs lo, lo ≤ r.addr → r.addr ≤ hi → ∀ x ∈ r.slices, f.place k ≠ x.fld.place j) →
            t.get f k = s.get f k))
  ∧ (∀ (ag : Agent) (v : Word) (s : State), s.tidy = true →
    (v.toNat.testBit 0 = true → s.reaches ag 0x200FC →
      ∃ t, exec (.memCntClr ag v) s = .next t ∧ (∀ m : Nat, m < 8 → t.get F.MEM_CONF_CONF m = 0) ∧ t.get F.MEM_COLL_COUNT = 0
        ∧ (∀ k : Nat, k < 4 → t.get F.MEM_ECC_CE_CE k = 0 ∧ t.get F.MEM_ECC_UE_UE k = 0)
        ∧ t.get F.MEM_COLL_ADDR = s.get F.MEM_COLL_ADDR ∧ s.restKept t)
    ∧ (v.toNat.testBit 0 = true → s.reaches ag 0x20208 →
      ∃ t, exec (.memPoolClr ag v) s = .next t ∧ t.get F.MEM_POOL_FREE_MIN_FREE = s.get F.MEM_POOL_FREE_FREE
        ∧ s.fieldsKept t [F.MEM_POOL_FREE_MIN_FREE.place] ∧ s.restKept t)
    ∧ (v.toNat.testBit 31 = true → s.reaches ag 0xE0018 →
      ∃ t, exec (.jmaxClr ag v) s = .next t ∧ t.get F.MON_JTEMP_JMAX = s.get F.MON_JTEMP_JTEMP
        ∧ t.get F.MON_JTEMP_JTEMP = s.get F.MON_JTEMP_JTEMP ∧ s.timeKept t ∧ s.lineKept t ∧ s.bytesKept t))

/-- EN writes and claims (R84, R195, R209, R219, R222 to R225): another agent's resource is refused, with its owner shown and nothing
else changed; a free one is claimed with its feature code and enabled; the end of EN frees it. The host's EN takes a DISABLED port
to ACQUIRE, and the end of EN takes it to DISABLED unless it is in CAL.

Other enables (R96, R215, R217, R250): STR_POOL gives a DISABLED port its reservation out of the shared area, within its limits (that FREE stops at 0 is the model's, assumption
48);
MODE 2 of a free ball claims it and drives IDLE, and MODE 0 frees it; EN of a period generator arms its start 2 us later, after an active
phase in progress, or stops it after that phase; an alarm enabled past its match fires at the next second unless it repeats, and one
enabled before it does not. -/
def Obligations.EnablesClaimAndAct : Prop :=
  ((∀ (ag : Agent) (i : Nat) (v : Word) (s : State), s.tidy = true →
      ∀ (c : Instr) (a n cl feat : Nat) (en rf ow ev : Fld) (j : Nat),
        (c, a, n, cl, feat, en, rf, ow, ev, j) ∈
          [(Instr.strCtrlEnWrite ag i v, 0x80000 + 0x1000 * i, 32, claimPort i, 1, F.STR_CTRL_EN, F.STR_CTRL_CLAIM_REF, F.STR_CTRL_OWNER,
            F.STR_EVT_CLAIM_REFUSED, i),
          (.ckoEnWrite ag i v, 0x40100 + 32 * i, 8, claimCko i, 2, F.CK_CKO_CTRL_EN, F.CK_CKO_STAT_CLAIM_REF, F.CK_CKO_STAT_OWNER,
            F.CK_EVT_CLAIM_REFUSED, 0),
          (.cuEnWrite ag i v, 0x50500 + 16 * i, 16, claimCu i, 6, F.TA_CU_CTRL_EN, F.TA_CU_CTRL_CLAIM_REF, F.TA_CU_CTRL_OWNER,
            F.TA_EVT_CLAIM_REFUSED, 0),
          (.lqEnWrite ag i v, 0x51000 + 16 * i, 128, claimLq i, 7, F.TA_LQ_CTRL_EN, F.TA_LQ_CTRL_CLAIM_REF, F.TA_LQ_CTRL_OWNER,
            F.TA_EVT_CLAIM_REFUSED, 0)] →
        i < n → s.reaches ag a →
        (s.mayTake ag cl = false → s.on en i = true ∨ v.toNat.testBit 0 = true →
          ∃ t, exec c s = .next t ∧ t.on rf i = true ∧ t.get ow i = s.owner cl ∧ t.on ev j = true
            ∧ s.fieldsKept t [rf.place i, ow.place i, ev.place j] ∧ s.restKept t)
        ∧ (s.owner cl = 0 → v.toNat.testBit 0 = true → feat ≠ 6 ∨ s.get F.TA_TIO_CTRL_MODE (bits v.toNat 1 4) ≠ 0 →
          ∃ t, exec c s = .next t ∧ t.owner cl = 64 * ag.code + feat ∧ t.on en i = true ∧ s.bytesKept t)
        ∧ (s.mayTake ag cl = true → s.on en i = true → v.toNat.testBit 0 = false →
          ∃ t, exec c s = .next t ∧ t.owner cl = 0 ∧ t.on en i = false ∧ s.bytesKept t))
    ∧ (∀ (i : Nat) (v : Word) (s : State), s.tidy = true → i < 32 → s.reaches .host (0x80000 + 0x1000 * i) →
        s.mayTake .host (claimPort i) = true →
      (v.toNat.testBit 0 = true → v.toNat.testBit 6 = false → s.pstate i = psDisabled →
        ∃ t, exec (.strCtrlEnWrite .host i v) s = .next t ∧ t.pstate i = psAcquire ∧ s.bytesKept t)
      ∧ (v.toNat.testBit 0 = false →
        ∃ t, exec (.strCtrlEnWrite .host i v) s = .next t ∧ t.pstate i = (if s.pstate i = psCal then psCal else psDisabled)
          ∧ s.bytesKept t)))
  ∧ ((∀ (ag : Agent) (i : Nat) (v : Word) (s : State), s.tidy = true → i < 32 → s.reaches ag (0x80030 + 0x1000 * i) →
      (s.pstate i ≠ psDisabled →
        ∃ t, exec (.strPoolResvWrite ag i v) s = .next t ∧ t.get F.STR_POOL_RESV i = s.get F.STR_POOL_RESV i
          ∧ t.get F.STR_STATUS_WIGN i = satAdd F.STR_STATUS_WIGN.width (s.get F.STR_STATUS_WIGN i) 1 ∧ s.restKept t)
      ∧ (s.pstate i = psDisabled → 2048 < v.toNat % 4096 ∨ 16384 < s.otherResv i + v.toNat % 4096 →
        ∃ t, exec (.strPoolResvWrite ag i v) s = .next t ∧ t.on F.STR_EVT_RESV_REFUSED i = true
          ∧ s.fieldsKept t [F.STR_EVT_RESV_REFUSED.place i] ∧ s.restKept t)
      ∧ (s.pstate i = psDisabled → v.toNat % 4096 ≤ 2048 → s.otherResv i + v.toNat % 4096 ≤ 16384 → v.toNat % 4096 ≠ 0 →
          s.owner (claimPool i) = 0 →
        ∃ t, exec (.strPoolResvWrite ag i v) s = .next t ∧ t.get F.STR_POOL_RESV i = v.toNat % 4096
          ∧ t.owner (claimPool i) = 64 * ag.code + 8 ∧ s.restKept t
          ∧ t.get F.MEM_POOL_FREE_FREE = (s.get F.MEM_POOL_FREE_FREE + s.get F.STR_POOL_RESV i - v.toNat % 4096) % 2 ^ 16))
    ∧ (∀ (ag : Agent) (i : Nat) (v : Word) (s : State), s.tidy = true → i < 16 → s.reaches ag (0x50100 + 16 * i) →
        s.mayTake ag (claimTio i) = true →
      (v.toNat % 4 = 2 → s.get F.TA_TIO_CTRL_MODE i = 0 → s.owner (claimTio i) = 0 →
        ∃ t, exec (.tioModeWrite ag i v) s = .next t ∧ t.get F.TA_TIO_CTRL_MODE i = 2 ∧ t.owner (claimTio i) = 64 * ag.code + 3
          ∧ t.on F.TA_TIO_CTRL_LEVEL i = v.toNat.testBit 7
          ∧ t.out = s.out ++ [.edge i (v.toNat.testBit 7 != v.toNat.testBit 6) (s.tioPlace i s.raw)]
          ∧ s.timeKept t ∧ s.lineKept t ∧ s.boardKept t ∧ s.bytesKept t)
      ∧ (v.toNat % 4 = 0 → s.get F.TA_TIO_CTRL_MODE i = 2 →
        ∃ t, exec (.tioModeWrite ag i v) s = .next t ∧ t.get F.TA_TIO_CTRL_MODE i = 0 ∧ t.owner (claimTio i) = 0 ∧ s.restKept t))
    ∧ (∀ (ag : Agent) (i : Nat) (v : Word) (s : State), s.tidy = true → i < 16 → s.reaches ag (0x50300 + 32 * i) →
      (v.toNat.testBit 0 = true → s.on F.TA_PG_CTRL_EN i = false →
        ∃ t, exec (.pgEnWrite ag i v) s = .next t ∧ t.on F.TA_PG_CTRL_EN i = true
          ∧ t.gen (8 + i) = { (if (s.gen (8 + i)).high then { s.gen (8 + i) with stopping := true } else Gen.idle) with
              waiting := some (s.raw + 800000), left := s.get F.TA_PG_COUNT_COUNT i }
          ∧ t.out = s.out ∧ s.timeKept t ∧ s.boardKept t ∧ s.bytesKept t)
      ∧ (v.toNat.testBit 0 = false → s.on F.TA_PG_CTRL_EN i = true → (s.gen (8 + i)).high = true →
        ∃ t, exec (.pgEnWrite ag i v) s = .next t ∧ t.gen (8 + i) = { s.gen (8 + i) with waiting := none, stopping := true } ∧ t.out = s.out
          ∧ s.timeKept t ∧ s.boardKept t ∧ s.bytesKept t))
    ∧ (∀ (ag : Agent) (i : Nat) (v : Word) (s : State), s.tidy = true → i < 4 → s.reaches ag (0xC0080 + 16 * i) →
        s.pwr.aonUp = true → (ag ≠ .sideband → (Store.get (0, 0) s.ato.x6 (0xC0080 + 16 * i)).2 = 0) →
        v.toNat.testBit 0 = true → s.on F.AT_AL_CTRL_EN i = false →
      ∃ t, exec (.alarmEnWrite ag i v) s = .next t ∧ t.on F.AT_AL_CTRL_EN i = true
        ∧ t.ato.past.testBit i = (decide (s.get F.AT_AL_TIME_TIME i ≤ s.tai) && decide (s.get F.AT_AL_REP_REP i = 0))
        ∧ { t.ato with past := s.ato.past, x6 := s.ato.x6 } = s.ato
        ∧ (s.tai < s.get F.AT_AL_TIME_TIME i → t.get F.AT_AL_TIME_TIME i = s.get F.AT_AL_TIME_TIME i)
        ∧ (s.get F.AT_AL_TIME_TIME i ≤ s.tai → s.get F.AT_AL_REP_REP i ≠ 0 → s.tai < 2 ^ 47 → s.tai < t.get F.AT_AL_TIME_TIME i)
        ∧ s.timeKept t ∧ s.lineKept t ∧ s.bytesKept t))


/-! ### Host interface -/

/-- Rings (R349 to R355): a doorbell moves its pointer, or is counted as bad and ignored; a fetched descriptor is in flight behind
the others, a bad opcode or a failed fetch completes at once; a held completion is written with the phase of its entry; EN starts a ring
at pointer 0 and phase 1; moderation fires the vector or its pending bit (R368), and nothing while MSI-X is not enabled (assumption 52); link training shows its speed and width (R347). -/
def Obligations.RingsMoveAsTabled : Prop :=
  (∀ (r : Nat) (v : Word) (s : State), s.tidy = true → s.mainUp = true → r < 132 →
    (s.doorbellOk r v.toNat = true → exec (.doorbellWrite r v) s = .next { s with hif := { s.hif with
      db := Store.set 0 s.hif.db r v.toNat, swPtr := Store.set 0 s.hif.swPtr r v.toNat } })
    ∧ (s.doorbellOk r v.toNat = false → ∃ t, exec (.doorbellWrite r v) s = .next t ∧ t.on F.HIF_EVT_DB_BAD = true
      ∧ t.get F.HIF_CNT_DBBAD_DBBAD = satAdd F.HIF_CNT_DBBAD_DBBAD.width (s.get F.HIF_CNT_DBBAD_DBBAD) 1
      ∧ s.fieldsKept t [F.HIF_EVT_DB_BAD.place, F.HIF_CNT_DBBAD_DBBAD.place] ∧ s.restKept t))
  ∧ (∀ (d : Bytes) (r : Nat) (s : State), s.tidy = true → s.mainUp = true → s.hif.inflight.length < s.eff F.HIF_XCTRL_INFLIGHT_MAX →
      s.nextCr = some r → s.on F.TST_ECC_CTRL_ARM = false →
    (s.ready = true → opcodes.contains (leAt d 0 1) = true →
      ∃ t, exec (.descriptorFetch d false) s = .next t ∧ t.out = s.out
        ∧ t.get F.HIF_RING_PTR_DEVPTR r = (s.get F.HIF_RING_PTR_DEVPTR r + 1) % s.ringSize r
        ∧ t.hif.inflight = s.hif.inflight ++ [⟨r, leAt d 2 2, leAt d 1 1, (s.get F.HIF_RING_PTR_DEVPTR r + 1) % s.ringSize r,
            .fetched (leAt d 0 1)⟩]
        ∧ s.fieldsKept t [F.HIF_RING_PTR_DEVPTR.place r] ∧ s.timeKept t ∧ s.lineKept t ∧ s.boardKept t ∧ s.bytesKept t)
    ∧ (s.ready = true → opcodes.contains (leAt d 0 1) = false →
      ∃ u : State, exec (.descriptorFetch d false) s = .next (u.completeRing r (leAt d 2 2) stBadOpcode 0 false)
        ∧ u.inFlight r (leAt d 2 2) = true)
    ∧ (∃ (u : State) (tag : Nat), exec (.descriptorFetch d true) s = .next (u.completeRing r tag stAborted 1 false)
        ∧ tag < 65536 ∧ u.on F.HIF_EVT_DMA_ERR = true))
  ∧ (∀ (r : Nat) (f : Flight) (e : Bytes) (l : List Flight) (s : State), s.ringFull r = false → s.hif.inflight = f :: l →
      f.stage = .held r e →
    ∃ t rest, exec (.heldCompletionWrite r) s = .next t ∧ t.hif.inflight = l
      ∧ t.out = s.out ++ .dma (s.get F.HIF_RING_BASE_BASE r + s.get F.HIF_RING_PTR_DEVPTR r * ringEntry r)
          (putAt e 13 [BitVec.ofNat 8 (s.ringPhase r)]) :: rest
      ∧ s.timeKept t ∧ s.lineKept t ∧ s.boardKept t ∧ s.bytesKept t)
  ∧ (∀ (r : Nat) (s : State), s.tidy = true → Store.get 0 s.hif.unsig r ≠ 0 → s.get F.HIF_RING_PTR_MOD_US r ≠ 0 →
    (s.hif.cfg.msixOn = false → exec (.msixModerationTimer r) s
      = .next { s with hif := { s.hif with unsig := Store.set 0 s.hif.unsig r 0 } })
    ∧ (s.hif.cfg.msixOn = true → s.hif.cfg.mask = false → s.on F.MSIX_CTRL_MASK (s.get F.HIF_RING_CFG_VEC r) = false → exec (.msixModerationTimer r) s = .next
      ({ s with hif := { s.hif with unsig := Store.set 0 s.hif.unsig r 0 } }.emit (.msix (s.get F.HIF_RING_CFG_VEC r))))
    ∧ (s.hif.cfg.msixOn = true → s.hif.cfg.mask = true ∨ s.on F.MSIX_CTRL_MASK (s.get F.HIF_RING_CFG_VEC r) = true →
      ∃ t, exec (.msixModerationTimer r) s = .next t ∧ t.out = s.out
        ∧ (t.get F.MSIX_PBA_PEND (s.get F.HIF_RING_CFG_VEC r / 32)).testBit (s.get F.HIF_RING_CFG_VEC r % 32) = true
        ∧ s.fieldsKept t [F.MSIX_PBA_PEND.place (s.get F.HIF_RING_CFG_VEC r / 32)]))
  ∧ (∀ (ag : Agent) (i : Nat) (v : Word) (s : State), s.tidy = true → i < 132 → s.reaches ag (0x11008 + 32 * i) →
      v.toNat.testBit 0 = true → s.on F.HIF_RING_CFG_EN i = false →
    ∃ t, exec (.ringEnable ag i v) s = .next t ∧ t.on F.HIF_RING_CFG_EN i = true ∧ t.get F.HIF_RING_PTR_DEVPTR i = 0
      ∧ t.get F.HIF_RING_PTR_PHASE i = 1 ∧ Store.get 0 t.hif.swPtr i = 0
      ∧ t.get F.HIF_RING_BASE_BASE i = s.get F.HIF_RING_BASE_BASE i ∧ s.timeKept t ∧ s.lineKept t ∧ s.boardKept t ∧ s.bytesKept t)
  ∧ (∀ (speed width : Nat) (s : State), s.tidy = true → s.mainUp = true → 1 ≤ speed → speed ≤ 4 →
      width = 1 ∨ width = 2 ∨ width = 4 → width ≤ s.fuses.variant.lanes →
    ∃ t, exec (.pcieLinkUp speed width) s = .next t ∧ t.on F.HIF_STATUS_LINK_UP = true ∧ t.get F.HIF_STATUS_SPEED = speed
      ∧ t.get F.HIF_STATUS_WIDTH = width ∧ s.restKept t
      ∧ s.fieldsKept t [F.HIF_STATUS_LINK_UP.place, F.HIF_STATUS_SPEED.place, F.HIF_STATUS_WIDTH.place])

/-- What a completion is (R358, R359, R361, R373). NOP completes with OK: on a ring whose CP has room, as one entry of 16 octets written
to the CP's tail with its phase, or with QUIET as nothing; on the sideband in HIF_SB_CMD, with CMD_DONE alerted and the phase turned.
RESET is a main reset once its completion is written (R360): at once, or where a full CP holds the completion with the write of that. -/
def Obligations.CommandsCompleteInOneEntry : Prop :=
  (∀ (c : Cmd) (s : State), c.admitted s false → c.reservedOk 0 0 0 false = true →
    exec (.nop c) s = .next (c.done (c.begun s) stOk))
  ∧ (∀ (c : Cmd) (r : Fin 32) (cp : Nat) (s : State), c.src = .ring r → c.admitted s false → c.reservedOk 0 0 0 false = true →
      s.inFlight r.val c.tag.toNat = false → cp = 32 + s.get F.HIF_RING_CFG_CPSEL r.val →
    (c.quiet = false → s.ringFull cp = false →
      ∃ t rest, exec (.nop c) s = .next t ∧ t.hif.inflight = s.hif.inflight
        ∧ t.out = s.out ++ .dma (s.get F.HIF_RING_BASE_BASE cp + s.get F.HIF_RING_PTR_DEVPTR cp * 16)
            (completionEntry 0 c.tag.toNat stOk r.val (s.ringPhase cp) (s.get F.HIF_RING_PTR_DEVPTR r.val)) :: rest)
    ∧ (c.quiet = true → ∃ t, exec (.nop c) s = .next t ∧ t.hif.inflight = s.hif.inflight ∧ t.out = s.out ∧ s.fieldsKept t []))
  ∧ (∀ (c : Cmd) (s : State), s.tidy = true → c.src = .sideband → c.admitted s false → c.reservedOk 0 0 0 false = true →
    ∃ t, exec (.nop c) s = .next t ∧ t.on F.HIF_SB_STAT_CMD_BUSY = false ∧ (t.get F.HIF_SB_ALERT_ALERT).testBit 0 = true
      ∧ t.get F.HIF_SB_CMD_CMD = leNat (completionEntry 0 c.tag.toNat stOk 0xFF (1 - b2n s.sb.phase) 0)
      ∧ t.sb.phase = !s.sb.phase ∧ t.out = s.out ∧ s.timeKept t ∧ s.lineKept t ∧ s.boardKept t ∧ s.bytesKept t
      ∧ s.fieldsKept t [F.HIF_SB_STAT_CMD_BUSY.place, F.HIF_SB_ALERT_ALERT.place, F.HIF_SB_CMD_CMD.place])
  ∧ (∀ (c : Cmd) (s : State), c.admitted s true → s.stbyUp = true → c.a.toNat = 0x5A5A → c.reservedOk 0x5A5A 0 0 false = true →
    ((∀ r, c.src = .ring r → c.quiet = true ∨ s.ringFull (32 + s.get F.HIF_RING_CFG_CPSEL r.val) = false) →
      ∃ t, exec (.reset c) s = .next t ∧ t = (c.done (c.begun s) stOk).mainReset false ∧ t.mainUp = false ∧ t.cyc = 0
        ∧ t.ports = [] ∧ t.hif.inflight = [] ∧ t.mon = s.mon ∧ ∀ n : Nat, t.railSt n = s.railSt n)
    ∧ (∀ (r : Fin 32) (cp : Nat), c.src = .ring r → cp = 32 + s.get F.HIF_RING_CFG_CPSEL r.val → c.quiet = false → s.ringFull cp = true →
        s.inFlight r.val c.tag.toNat = false →
      ∃ t, exec (.reset c) s = .next t ∧ t.mainUp = s.mainUp ∧ t.out = s.out ∧ s.fieldsKept t []
        ∧ t.hif.inflight = s.hif.inflight ++ [⟨r.val, c.tag.toNat, c.flags.toNat, s.get F.HIF_RING_PTR_DEVPTR r.val, .heldReset cp
            (completionEntry 0 c.tag.toNat stOk r.val (s.ringPhase cp) (s.get F.HIF_RING_PTR_DEVPTR r.val))⟩]))
  ∧ (∀ (r : Nat) (f : Flight) (e : Bytes) (l : List Flight) (s : State), s.stbyUp = true → s.ringFull r = false → s.hif.inflight = f :: l →
      f.stage = .heldReset r e →
    ∃ t rest, exec (.heldCompletionWrite r) s = .next t ∧ t.mainUp = false ∧ t.hif.inflight = [] ∧ t.mon = s.mon
      ∧ t.out = s.out ++ .dma (s.get F.HIF_RING_BASE_BASE r + s.get F.HIF_RING_PTR_DEVPTR r * ringEntry r)
          (putAt e 13 [BitVec.ofNat 8 (s.ringPhase r)]) :: rest)

/-! ### Sideband -/

/-- Sideband transactions (R371 to R375): a write without a PEC that is required is refused; registers outside the four blocks may not
be written; reads answer with LAST, the register at the read address, the completion or the alerts; one command runs at a time; the
device that wins the Alert Response returns its address and releases ALERT_N. That a time-out finds no transaction in progress is
the model's reading (assumption 37), and so is which reason a refusal gives where R372 names none (assumption 18). A write to the
registers of a serviced port is counted too (R410).

The mailbox (R372, R386, R391, R392): the pointer is aligned to 16 octets; a write puts its octets at the pointer and nowhere else
and moves it on; one that collides, or a command whose result does, ends with WRITE_COLLIDED, counted and alerted; a read returns 32 octets, or zeros
where a word cannot be corrected. Without the main domain both are refused. What port A's write leaves in the colliding word comes with
the row (assumption 19). -/
def Obligations.SidebandTransactionsAnswer : Prop :=
  ((∀ (s : State), s.sbAnswers = true → s.on F.HIF_SB_CTRL_PEC_REQ = true →
      ∀ (a : Nat) (v : Word) (d : Bytes) (j : Option (Nat × Bytes)),
      ∀ p ∈ [Instr.sbRegisterWrite a v false, .sbSetReadAddress a false, .sbSetMailboxPointer a false, .sbMailboxWrite d j false,
          .sbSubmitCommand d false j],
        exec p s = .next ((s.set F.HIF_SB_STAT_LAST stBadParam).emit (.sbNack stBadParam)))
    ∧ (∀ (a : Nat) (v : Word) (s : State), s.sbAnswers = true →
      (s.reaches .sideband a → exec (.sbRegisterWrite a v true) s = .next ((s.beforeClear a).nativeWrite .sideband a v.toNat))
      ∧ (a % 4 = 0 → sidebandMay a = false → s.servicedAt a = none → exec (.sbRegisterWrite a v true) s
          = .next ((s.set F.HIF_SB_STAT_LAST stBadParam).emit (.sbNack stBadParam)))
      ∧ (∀ q : Nat, a % 4 = 0 → s.servicedAt a = some q →
        ∃ t, exec (.sbRegisterWrite a v true) s = .next t ∧ t.get F.HIF_SB_STAT_LAST = stBadParam ∧ t.out = s.out ++ [.sbNack stBadParam]
          ∧ t.get F.PSM_STAT_NWIGN q = satAdd F.PSM_STAT_NWIGN.width (s.get F.PSM_STAT_NWIGN q) 1)
      ∧ (∀ code : Nat, sbCodes.contains code = false → exec (.sbRegisterWrite a v true code) s
          = .next ((s.set F.HIF_SB_STAT_LAST stBadOpcode).emit (.sbNack stBadOpcode)))
      ∧ exec (.sbSetReadAddress a true) s = .next { s with sb := { s.sb with readAddr := a % 2 ^ 32 } })
    ∧ (∀ s : State, s.tidy = true → s.sbAnswers = true →
      (∃ t, exec .sbRegisterRead s = .next t ∧ t.sb.readAddr = (s.sb.readAddr + 4) % 2 ^ 32
        ∧ t.out = s.out ++ [.sbData (le 4 (s.sbRead s.sb.readAddr).1)] ∧ s.fieldsKept t [F.HIF_SB_STAT_LAST.place]
        ∧ (s.sb.readAddr < 0x180000 → s.sb.readAddr % 4 = 0 → mainReg s.sb.readAddr = true → s.mainUp = false →
            (s.sbRead s.sb.readAddr).1 = 0 ∧ t.get F.HIF_SB_STAT_LAST = stNotReady))
      ∧ exec .sbReadStatus s = .next (s.emit (.sbData (le 2 (s.get F.HIF_SB_STAT_LAST))))
      ∧ exec .sbReadCompletion s = .next (s.emit (.sbData (le 16 (s.get F.HIF_SB_CMD_CMD))))
      ∧ exec .sbReadAlert s = .next (s.emit (.sbData (le 4 (s.get F.HIF_SB_ALERT_ALERT))))
      ∧ exec .smbusTimeout s = .next s
      ∧ exec (.alertResponseRead false) s = .next s
      ∧ (s.alertLow = true → ∃ t, exec (.alertResponseRead true) s = .next t ∧ t.alertLow = false
        ∧ t.out = s.out ++ [.sbData [BitVec.ofNat 8 (0x60 + s.get F.SQ_STATUS_POS)]] ∧ s.fieldsKept t []))
    ∧ (∀ (d : Bytes) (j : Option (Nat × Bytes)) (s : State), s.sbAnswers = true → d.length = 32 →
      (∀ f, cmdMeaning (leAt d 0 1) = some f → exec (.sbSubmitCommand d true j) s = f (sbCommand d j) s)
      ∧ (cmdMeaning (leAt d 0 1) = none → s.on F.HIF_SB_STAT_CMD_BUSY = false →
        exec (.sbSubmitCommand d true j) s = .next ((sbCommand d j).done (s.raise F.HIF_SB_STAT_CMD_BUSY) stBadOpcode))
      ∧ (s.on F.HIF_SB_STAT_CMD_BUSY = true →
        exec (.sbSubmitCommand d true j) s = .next ((s.set F.HIF_SB_STAT_LAST stBusy).emit (.sbNack stBusy)))))
  ∧ ((∀ (off : Nat) (s : State), s.sbAnswers = true →
      (off % 16 = 0 → exec (.sbSetMailboxPointer off true) s = .next { s with sb := { s.sb with mbPtr := off % 65536 } })
      ∧ (off % 16 ≠ 0 → exec (.sbSetMailboxPointer off true) s
          = .next ((s.set F.HIF_SB_STAT_LAST stBadParam).emit (.sbNack stBadParam))))
    ∧ (∀ (d : Bytes) (s : State), s.tidy = true → s.sbAnswers = true → d.length = 16 ∨ d.length = 32 →
      (s.mainUp = false → exec (.sbMailboxWrite d none true) s
          = .next ((s.set F.HIF_SB_STAT_LAST stNotReady).emit (.sbNack stNotReady)))
      ∧ (s.mainUp = true →
        (∃ t, exec (.sbMailboxWrite d none true) s = .next t ∧ t.sb.mbPtr = (s.sb.mbPtr + d.length) % 65536 ∧ t.out = s.out
          ∧ (∀ i : Nat, i < d.length → some (t.mem.mailbox.read ((s.sb.mbPtr + i) % 65536)) = d[i]?)
          ∧ (∀ a : Nat, (∀ i : Nat, i < d.length → a ≠ (s.sb.mbPtr + i) % 65536) → t.mem.mailbox.read a = s.mem.mailbox.read a)
          ∧ (∀ a : Nat, t.snvm.data.read a = s.snvm.data.read a) ∧ s.timeKept t ∧ s.lineKept t ∧ s.boardKept t)
        ∧ (∀ (j : Nat) (x : Bytes), 16 * j < d.length →
          ∃ t, exec (.sbMailboxWrite d (some (j, x)) true) s = .next t ∧ t.get F.HIF_SB_STAT_LAST = stWriteCollided
            ∧ t.get F.MEM_COLL_ADDR = (s.sb.mbPtr + 16 * j) % 65536 / 16 ∧ t.on F.MEM_EVT_COLL = true
            ∧ t.get F.MEM_COLL_COUNT = satAdd F.MEM_COLL_COUNT.width (s.get F.MEM_COLL_COUNT) 1
            ∧ (t.get F.HIF_SB_ALERT_ALERT).testBit 5 = true ∧ t.out = s.out ++ [.sbNack stWriteCollided]
            ∧ (∀ i : Nat, i < 16 * j → some (t.mem.mailbox.read ((s.sb.mbPtr + i) % 65536)) = d[i]?)
            ∧ (∀ i : Nat, i < 16 → some (t.mem.mailbox.read ((s.sb.mbPtr + 16 * j + i) % 65536)) = (padTo 16 x)[i]?)
            ∧ (∀ a : Nat, (∀ i : Nat, i < 16 * j + 16 → a ≠ (s.sb.mbPtr + i) % 65536) → t.mem.mailbox.read a = s.mem.mailbox.read a))))
    ∧ (∀ (c : Cmd) (b : Bytes) (j status result : Nat) (x : Bytes) (s : State), s.tidy = true → c.src = .sideband → c.clash = some (j, x) →
        16 * j < b.length → b.length ≤ 65520 →
      ∃ u, c.deliver s b status result = c.done u stWriteCollided result ∧ u.on F.MEM_EVT_COLL = true
        ∧ u.get F.MEM_COLL_COUNT = satAdd F.MEM_COLL_COUNT.width (s.get F.MEM_COLL_COUNT) 1
        ∧ (u.get F.HIF_SB_ALERT_ALERT).testBit 5 = true
        ∧ (∀ i : Nat, i < 16 * j → some (u.mem.mailbox.read ((c.b.toNat + i) % 65536)) = b[i]?)
        ∧ (∀ i : Nat, i < 16 → some (u.mem.mailbox.read ((c.b.toNat + 16 * j + i) % 65536)) = (padTo 16 x)[i]?))
    ∧ (∀ s : State, s.tidy = true → s.sbAnswers = true →
      (s.mainUp = false → exec .sbMailboxRead s = .next ((s.set F.HIF_SB_STAT_LAST stNotReady).emit (.sbNack stNotReady)))
      ∧ (s.mainUp = true →
        ∃ t, exec .sbMailboxRead s = .next t ∧ t.sb.mbPtr = (s.sb.mbPtr + 32) % 65536 ∧ s.bytesKept t
          ∧ ((s.mailboxCheck s.sb.mbPtr 32).1 = false → t.out = s.out ++ [.sbData (s.mailboxRead s.sb.mbPtr 32)])
          ∧ ((s.mailboxCheck s.sb.mbPtr 32).1 = true → t.get F.HIF_SB_STAT_LAST = stAborted
              ∧ t.out = s.out ++ [.sbData (List.replicate 32 0)]))))
end

