-- ==== Sys2Proof/Laws/Access.lean ====
section
/-!
SUPPORT. When a write reaches a register and when a command may begin, from conditions that can be evaluated; what the shared frame of
a run-time command does on a state that admits it.
-/
namespace Sys2Proof.Machine

/-- A write of the host reaches an aligned address of BAR0 outside the PSM window and outside a serviced port. -/
theorem State.reaches_host {s : State} {a : Nat}
    (h : a % 4 = 0 ∧ s.unbonded a = false ∧ s.mainUp = true ∧ s.pwr.step8 = true ∧ a < 0x180000
      ∧ (straitPort a).all (fun n => !s.serviced n) = true) : s.reaches .host a := by
  obtain ⟨h1, h2, h3, h4, h5, h6⟩ := h
  refine ⟨h1, h2, h3, h4, h5, fun n hn => ?_⟩
  simpa [hn] using h6

/-- A write of the sideband reaches the registers of its own blocks. -/
theorem State.reaches_sideband {s : State} {a : Nat}
    (h : a % 4 = 0 ∧ s.unbonded a = false ∧ s.pwr.stby = .up ∧ sidebandMay a = true) : s.reaches .sideband a :=
  ⟨h.1, h.2.1, h.2.2⟩

/-- A write of the profile loader reaches registers in step 8. -/
theorem State.reaches_profile {s : State} {a : Nat}
    (h : a % 4 = 0 ∧ s.unbonded a = false ∧ s.mainUp = true ∧ s.pwr.step8 = false) : s.reaches .profile a :=
  ⟨h.1, h.2.1, h.2.2⟩

/-- A ring command may begin when commands execute and the ring's order lets it. -/
theorem admitted_ring {c : Cmd} {s : State} {main : Bool} (r : Fin 32) (hc : c.src = .ring r)
    (h : s.ready = true ∧ s.mayBegin r.val c.tag.toNat c.fence = true) : c.admitted s main := by
  unfold Cmd.admitted
  rw [hc]
  exact h

/-- A sideband command may begin when none is under way. -/
theorem admitted_sideband {c : Cmd} {s : State} {main : Bool} (hc : c.src = .sideband)
    (h : s.pwr.stby = .up ∧ s.on F.HIF_SB_STAT_CMD_BUSY = false ∧ s.ready = true) : c.admitted s main := by
  unfold Cmd.admitted
  rw [hc]
  exact ⟨h.1, h.2.1, fun _ => h.2.2⟩

/-- A ring command's read arrives unless its transfer returns an error. -/
theorem readOk_ring {c : Cmd} {s : State} {n : Nat} (r : Fin 32) (hc : c.src = .ring r) (h : c.dmaErr = false) : c.readOk s n := by
  unfold Cmd.readOk
  rw [hc]
  exact h

/-- No port follows a rail while the main domain does not run. -/
theorem State.noPortFollows_of_down {s : State} (h : s.mainUp = false) (n : Nat) : s.noPortFollows n := Or.inl h

/-- Where no word of main NVM holds a wrong bit, none is uncorrectable. -/
theorem State.nvDead_of_nil {s : State} (h : s.nvErrs = []) (w n : Nat) : s.nvDead w n = false := by
  unfold State.nvDead State.nvIn
  rw [h]
  rfl

/-- What a ring command does once it is admitted: its flight has begun, and its rule runs, or BAD_PARAM completes it. -/
theorem run_ring {c : Cmd} {s : State} {n : Needs} {ok : Bool} {k : State → State} (r : Fin 32) (hc : c.src = .ring r)
    (main : Bool) (h : c.admitted s main) :
    c.run s n ok k = if ok then k (c.begun s) else c.done (c.begun s) stBadParam := by
  unfold Cmd.admitted at h
  rw [hc] at h
  obtain ⟨hr, hb⟩ := h
  have hm : s.mainUp = true := by
    unfold State.ready at hr
    unfold State.mainUp
    revert hr
    cases s.pwr.mainRun <;> simp
  unfold Cmd.run Cmd.begun
  rw [hc]
  have hr' : ∀ l, ({ s with hif := { s.hif with inflight := l } } : State).ready = true := fun _ => hr
  cases ok <;> simp [hm, hb, hr']

/-- What a sideband command does once it is admitted: CMD_BUSY is set, and its rule runs; BAD_OPCODE where the sideband does not accept
it, BAD_PARAM where its descriptor is bad. -/
theorem run_sideband {c : Cmd} {s : State} {n : Needs} {ok : Bool} {k : State → State} (hc : c.src = .sideband)
    (h : c.admitted s n.main) :
    c.run s n ok k = if !n.sb then c.done (c.begun s) stBadOpcode
      else if ok then k (c.begun s) else c.done (c.begun s) stBadParam := by
  unfold Cmd.admitted at h
  rw [hc] at h
  obtain ⟨hu, hb, hm⟩ := h
  have hr : (s.raise F.HIF_SB_STAT_CMD_BUSY).ready = s.ready := rfl
  unfold Cmd.run Cmd.begun
  rw [hc]
  cases hn : n.main with
  | false => cases ok <;> simp [hu, hb]
  | true => cases ok <;> simp [hu, hb, hr, hm hn]

end Sys2Proof.Machine
end

