-- ==== Sys2Proof/Laws/Store.lean ====
section
/-!
SUPPORT. Laws of the sparse tables: what a write changes and what it leaves, and that the canonical form is kept.
-/
namespace Sys2Proof.Machine

variable {α : Type}

/-- A list whose keys all exceed `k` does not list `k`. -/
theorem Store.get_of_lt (d : α) (k : Nat) : ∀ l : List (Nat × α), (∀ p ∈ l, k < p.1) → Store.get d l k = d
  | [], _ => rfl
  | (k', v) :: t, h => by
    have h1 : k < k' := h (k', v) (by simp)
    have h2 := Store.get_of_lt d k t (fun p hp => h p (by simp [hp]))
    simp [Store.get, Nat.ne_of_gt h1, h2]

/-- In a sorted list every later key exceeds the first. -/
theorem Store.sorted_lt {k : Nat} {v : α} : ∀ {t : List (Nat × α)}, Store.sorted ((k, v) :: t) = true → ∀ p ∈ t, k < p.1
  | [], _, p, hp => by simp at hp
  | (k', v') :: t, h, p, hp => by
    simp only [Store.sorted, Bool.and_eq_true, decide_eq_true_eq] at h
    rcases List.mem_cons.1 hp with rfl | hp
    · exact h.1
    · exact Nat.lt_trans h.1 (Store.sorted_lt h.2 p hp)

/-- The tail of a sorted list is sorted. -/
theorem Store.sorted_tail {p : Nat × α} {t : List (Nat × α)} (h : Store.sorted (p :: t) = true) : Store.sorted t = true := by
  cases t with
  | nil => rfl
  | cons q t => simp only [Store.sorted, Bool.and_eq_true] at h; exact h.2

/-- A list is sorted when its first key is below all others and its tail is sorted. -/
theorem Store.sorted_cons {k : Nat} {v : α} {t : List (Nat × α)} (h1 : ∀ p ∈ t, k < p.1) (h2 : Store.sorted t = true) :
    Store.sorted ((k, v) :: t) = true := by
  cases t with
  | nil => rfl
  | cons q t => simp only [Store.sorted, Bool.and_eq_true, decide_eq_true_eq]; exact ⟨h1 _ (by simp), h2⟩

variable [DecidableEq α]

/-- Every entry after a write is an old one or the written one, and the written one is listed only where it is not what an
unlisted key reads as. -/
theorem Store.mem_set {d : α} {k : Nat} {v : α} {p : Nat × α} : ∀ {l : List (Nat × α)}, p ∈ Store.set d l k v →
    p ∈ l ∨ (p = (k, v) ∧ v ≠ d)
  | [], h => by
    by_cases hv : v = d
    · simp [Store.set, hv] at h
    · exact .inr ⟨by simpa [Store.set, hv] using h, hv⟩
  | q :: t, h => by
    have ih := fun g : p ∈ Store.set d t k v => Store.mem_set g
    obtain ⟨k', v'⟩ := q
    simp only [Store.set] at h
    split at h <;> (try split at h) <;> (try split at h) <;> grind

/-- A write keeps the keys rising. -/
theorem Store.set_sorted (d : α) (k : Nat) (v : α) : ∀ l : List (Nat × α), Store.sorted l = true →
    Store.sorted (Store.set d l k v) = true
  | [], _ => by unfold Store.set; split <;> rfl
  | (k', v') :: t, h => by
    have ht := Store.sorted_tail h
    have hl := Store.sorted_lt h
    unfold Store.set
    split
    · rename_i hk
      split
      · exact h
      · refine Store.sorted_cons (fun p hp => ?_) h
        rcases List.mem_cons.1 hp with rfl | hp
        · exact hk
        · exact Nat.lt_trans hk (hl p hp)
    · split
      · rename_i hk
        split
        · exact ht
        · exact Store.sorted_cons (fun p hp => hk ▸ hl p hp) ht
      · rename_i h1 h2
        refine Store.sorted_cons (fun p hp => ?_) (Store.set_sorted d k v t ht)
        rcases Store.mem_set hp with hp | ⟨rfl, -⟩
        · exact hl p hp
        · show k' < k
          omega

/-- A write keeps the canonical form. -/
theorem Store.set_wf (d : α) (k : Nat) (v : α) (l : List (Nat × α)) (h : Store.wf d l = true) :
    Store.wf d (Store.set d l k v) = true := by
  simp only [Store.wf, Bool.and_eq_true, List.all_eq_true, decide_eq_true_eq] at h ⊢
  refine ⟨Store.set_sorted d k v l h.1, fun p hp => ?_⟩
  exact (Store.mem_set hp).elim (h.2 p) (fun ⟨e, hv⟩ => by rw [e]; exact hv)

/-- The key written reads as the value written. -/
theorem Store.get_set_same (d : α) (k : Nat) (v : α) : ∀ l : List (Nat × α), Store.sorted l = true →
    Store.get d (Store.set d l k v) k = v
  | [], _ => by unfold Store.set; split <;> simp_all [Store.get]
  | (k', v') :: t, h => by
    have hl := Store.sorted_lt h
    unfold Store.set
    split
    · rename_i hk
      split
      · rename_i hv
        rw [Store.get_of_lt d k _ (fun p hp => ?_)]
        · exact hv.symm
        · rcases List.mem_cons.1 hp with rfl | hp
          · exact hk
          · exact Nat.lt_trans hk (hl p hp)
      · simp [Store.get]
    · split
      · rename_i hk
        split
        · rename_i hv
          rw [Store.get_of_lt d k t (fun p hp => hk ▸ hl p hp)]; exact hv.symm
        · simp [Store.get]
      · rename_i hk
        simp only [Store.get]
        rw [if_neg (Ne.symm hk)]
        exact Store.get_set_same d k v t (Store.sorted_tail h)

/-- Every other key reads as before, whatever an unlisted one reads as. -/
theorem Store.get_set_ne (d d' : α) (k j : Nat) (v : α) (hj : j ≠ k) : ∀ l : List (Nat × α),
    Store.get d' (Store.set d l k v) j = Store.get d' l j
  | [] => by
    have hj' : k ≠ j := Ne.symm hj
    unfold Store.set; split <;> simp [Store.get, hj']
  | (k', v') :: t => by
    have hj' : k ≠ j := Ne.symm hj
    unfold Store.set
    split
    · split <;> simp [Store.get, hj']
    · split
      · rename_i hk
        subst hk
        split <;> simp [Store.get, hj']
      · simp only [Store.get, Store.get_set_ne d d' k j v hj t]

/-! ### Byte memories -/

theorem Memory.write_wf (m : Memory) (a : Nat) (b : Byte) (h : Memory.wf m = true) : Memory.wf (m.write a b) = true :=
  Store.set_wf 0 a b m h

theorem Memory.writeN_wf (bs : Bytes) : ∀ (m : Memory) (a : Nat), Memory.wf m = true → Memory.wf (m.writeN a bs) = true := by
  induction bs with
  | nil => exact fun _ _ h => h
  | cons b t ih => exact fun m a h => ih _ _ (Memory.write_wf m a b h)

theorem Memory.read_write_same (m : Memory) (a : Nat) (b : Byte) (h : Memory.wf m = true) : (m.write a b).read a = b := by
  simp only [Memory.wf, Store.wf, Bool.and_eq_true] at h
  exact Store.get_set_same 0 a b m h.1

theorem Memory.read_write_ne (m : Memory) (a x : Nat) (b : Byte) (h : x ≠ a) : (m.write a b).read x = m.read x :=
  Store.get_set_ne 0 0 a x b h m

/-- Writing a string leaves every byte outside it. -/
theorem Memory.read_writeN_outside (bs : Bytes) : ∀ (m : Memory) (a x : Nat), x < a ∨ a + bs.length ≤ x →
    (m.writeN a bs).read x = m.read x := by
  induction bs with
  | nil => exact fun _ _ _ _ => rfl
  | cons b t ih =>
    intro m a x h
    simp only [List.length_cons] at h
    have h1 : (m.write a b).read x = m.read x := Memory.read_write_ne m a x b (by omega)
    rw [← h1]
    exact ih _ _ _ (by omega)

end Sys2Proof.Machine
end

