-- ==== Sys2Proof/Laws/State.lean ====
section
/-!
SUPPORT. Laws of the named updates of State: what each leaves (one lemma per field and update), what a register field reads
after a write, and when a read sees nothing of a change. The normal form of every one-field write is State.set.
-/
namespace Sys2Proof.Machine

/-! ### Every one-field write is State.set -/

@[simp] theorem State.raise_eq (s : State) (f : Fld) (i : Nat) : s.raise f i = s.set f 1 i := rfl
@[simp] theorem State.lower_eq (s : State) (f : Fld) (i : Nat) : s.lower f i = s.set f 0 i := rfl
@[simp] theorem State.put_eq (s : State) (f : Fld) (b : Bool) (i : Nat) : s.put f b i = s.set f (b2n b) i := rfl
@[simp] theorem State.setInt_eq (s : State) (f : Fld) (v : Int) (i : Nat) : s.setInt f v i = s.set f (toBits f.width v) i := rfl
@[simp] theorem State.incr_eq (s : State) (f : Fld) (i : Nat) : s.incr f i = s.set f (s.get f i + 1) i := rfl

/-! ### What State.set leaves -/

@[simp] theorem State.setTbl_fuses (s : State) (d : Dom) (t : List (Nat × Nat)) : (s.setTbl d t).fuses = s.fuses := by
  cases d <;> rfl
@[simp] theorem State.set_fuses (s : State) (f : Fld) (v i : Nat) : (s.set f v i).fuses = s.fuses := State.setTbl_fuses ..
@[simp] theorem State.setTbl_cyc (s : State) (d : Dom) (t : List (Nat × Nat)) : (s.setTbl d t).cyc = s.cyc := by
  cases d <;> rfl
@[simp] theorem State.set_cyc (s : State) (f : Fld) (v i : Nat) : (s.set f v i).cyc = s.cyc := State.setTbl_cyc ..
@[simp] theorem State.setTbl_fresh (s : State) (d : Dom) (t : List (Nat × Nat)) : (s.setTbl d t).fresh = s.fresh := by
  cases d <;> rfl
@[simp] theorem State.set_fresh (s : State) (f : Fld) (v i : Nat) : (s.set f v i).fresh = s.fresh := State.setTbl_fresh ..
@[simp] theorem State.setTbl_out (s : State) (d : Dom) (t : List (Nat × Nat)) : (s.setTbl d t).out = s.out := by
  cases d <;> rfl
@[simp] theorem State.set_out (s : State) (f : Fld) (v i : Nat) : (s.set f v i).out = s.out := State.setTbl_out ..
@[simp] theorem State.setTbl_pwr (s : State) (d : Dom) (t : List (Nat × Nat)) : (s.setTbl d t).pwr = s.pwr := by
  cases d <;> rfl
@[simp] theorem State.set_pwr (s : State) (f : Fld) (v i : Nat) : (s.set f v i).pwr = s.pwr := State.setTbl_pwr ..
@[simp] theorem State.setTbl_tb (s : State) (d : Dom) (t : List (Nat × Nat)) : (s.setTbl d t).tb = s.tb := by
  cases d <;> rfl
@[simp] theorem State.set_tb (s : State) (f : Fld) (v i : Nat) : (s.set f v i).tb = s.tb := State.setTbl_tb ..
@[simp] theorem State.setTbl_srv (s : State) (d : Dom) (t : List (Nat × Nat)) : (s.setTbl d t).srv = s.srv := by
  cases d <;> rfl
@[simp] theorem State.set_srv (s : State) (f : Fld) (v i : Nat) : (s.set f v i).srv = s.srv := State.setTbl_srv ..
@[simp] theorem State.setTbl_ports (s : State) (d : Dom) (t : List (Nat × Nat)) : (s.setTbl d t).ports = s.ports := by
  cases d <;> rfl
@[simp] theorem State.set_ports (s : State) (f : Fld) (v i : Nat) : (s.set f v i).ports = s.ports := State.setTbl_ports ..
@[simp] theorem State.setTbl_hif (s : State) (d : Dom) (t : List (Nat × Nat)) : (s.setTbl d t).hif = s.hif := by
  cases d <;> rfl
@[simp] theorem State.set_hif (s : State) (f : Fld) (v i : Nat) : (s.set f v i).hif = s.hif := State.setTbl_hif ..
@[simp] theorem State.setTbl_sb (s : State) (d : Dom) (t : List (Nat × Nat)) : (s.setTbl d t).sb = s.sb := by
  cases d <;> rfl
@[simp] theorem State.set_sb (s : State) (f : Fld) (v i : Nat) : (s.set f v i).sb = s.sb := State.setTbl_sb ..
@[simp] theorem State.setTbl_lat (s : State) (d : Dom) (t : List (Nat × Nat)) : (s.setTbl d t).lat = s.lat := by
  cases d <;> rfl
@[simp] theorem State.set_lat (s : State) (f : Fld) (v i : Nat) : (s.set f v i).lat = s.lat := State.setTbl_lat ..
@[simp] theorem State.setTbl_mem (s : State) (d : Dom) (t : List (Nat × Nat)) : (s.setTbl d t).mem = s.mem := by
  cases d <;> rfl
@[simp] theorem State.set_mem (s : State) (f : Fld) (v i : Nat) : (s.set f v i).mem = s.mem := State.setTbl_mem ..
@[simp] theorem State.setTbl_ck (s : State) (d : Dom) (t : List (Nat × Nat)) : (s.setTbl d t).ck = s.ck := by
  cases d <;> rfl
@[simp] theorem State.set_ck (s : State) (f : Fld) (v i : Nat) : (s.set f v i).ck = s.ck := State.setTbl_ck ..
@[simp] theorem State.setTbl_ta (s : State) (d : Dom) (t : List (Nat × Nat)) : (s.setTbl d t).ta = s.ta := by
  cases d <;> rfl
@[simp] theorem State.set_ta (s : State) (f : Fld) (v i : Nat) : (s.set f v i).ta = s.ta := State.setTbl_ta ..
@[simp] theorem State.setTbl_ato (s : State) (d : Dom) (t : List (Nat × Nat)) : (s.setTbl d t).ato = s.ato := by
  cases d <;> rfl
@[simp] theorem State.set_ato (s : State) (f : Fld) (v i : Nat) : (s.set f v i).ato = s.ato := State.setTbl_ato ..
@[simp] theorem State.setTbl_sq (s : State) (d : Dom) (t : List (Nat × Nat)) : (s.setTbl d t).sq = s.sq := by
  cases d <;> rfl
@[simp] theorem State.set_sq (s : State) (f : Fld) (v i : Nat) : (s.set f v i).sq = s.sq := State.setTbl_sq ..
@[simp] theorem State.setTbl_mon (s : State) (d : Dom) (t : List (Nat × Nat)) : (s.setTbl d t).mon = s.mon := by
  cases d <;> rfl
@[simp] theorem State.set_mon (s : State) (f : Fld) (v i : Nat) : (s.set f v i).mon = s.mon := State.setTbl_mon ..
@[simp] theorem State.setTbl_recd (s : State) (d : Dom) (t : List (Nat × Nat)) : (s.setTbl d t).recd = s.recd := by
  cases d <;> rfl
@[simp] theorem State.set_recd (s : State) (f : Fld) (v i : Nat) : (s.set f v i).recd = s.recd := State.setTbl_recd ..
@[simp] theorem State.setTbl_cal (s : State) (d : Dom) (t : List (Nat × Nat)) : (s.setTbl d t).cal = s.cal := by
  cases d <;> rfl
@[simp] theorem State.set_cal (s : State) (f : Fld) (v i : Nat) : (s.set f v i).cal = s.cal := State.setTbl_cal ..
@[simp] theorem State.setTbl_snvm (s : State) (d : Dom) (t : List (Nat × Nat)) : (s.setTbl d t).snvm = s.snvm := by
  cases d <;> rfl
@[simp] theorem State.set_snvm (s : State) (f : Fld) (v i : Nat) : (s.set f v i).snvm = s.snvm := State.setTbl_snvm ..
@[simp] theorem State.setTbl_tstKey (s : State) (d : Dom) (t : List (Nat × Nat)) : (s.setTbl d t).tstKey = s.tstKey := by
  cases d <;> rfl
@[simp] theorem State.set_tstKey (s : State) (f : Fld) (v i : Nat) : (s.set f v i).tstKey = s.tstKey := State.setTbl_tstKey ..
@[simp] theorem State.setTbl_psm (s : State) (d : Dom) (t : List (Nat × Nat)) : (s.setTbl d t).psm = s.psm := by
  cases d <;> rfl
@[simp] theorem State.setTbl_nvErrs (s : State) (d : Dom) (t : List (Nat × Nat)) : (s.setTbl d t).nvErrs = s.nvErrs := by
  cases d <;> rfl
@[simp] theorem State.setTbl_scanOut (s : State) (d : Dom) (t : List (Nat × Nat)) : (s.setTbl d t).scanOut = s.scanOut := by
  cases d <;> rfl
@[simp] theorem State.set_psm (s : State) (f : Fld) (v i : Nat) : (s.set f v i).psm = s.psm := State.setTbl_psm ..
@[simp] theorem State.set_nvErrs (s : State) (f : Fld) (v i : Nat) : (s.set f v i).nvErrs = s.nvErrs := State.setTbl_nvErrs ..
@[simp] theorem State.set_scanOut (s : State) (f : Fld) (v i : Nat) : (s.set f v i).scanOut = s.scanOut := State.setTbl_scanOut ..
@[simp] theorem State.setTbl_jtag (s : State) (d : Dom) (t : List (Nat × Nat)) : (s.setTbl d t).jtag = s.jtag := by
  cases d <;> rfl
@[simp] theorem State.set_jtag (s : State) (f : Fld) (v i : Nat) : (s.set f v i).jtag = s.jtag := State.setTbl_jtag ..
@[simp] theorem State.setTbl_pending (s : State) (d : Dom) (t : List (Nat × Nat)) : (s.setTbl d t).pending = s.pending := by
  cases d <;> rfl
@[simp] theorem State.set_pending (s : State) (f : Fld) (v i : Nat) : (s.set f v i).pending = s.pending := State.setTbl_pending ..

/-! ### What State.emit leaves -/

@[simp] theorem State.emit_fuses (s : State) (o : Output) : (s.emit o).fuses = s.fuses := rfl
@[simp] theorem State.emit_fMain (s : State) (o : Output) : (s.emit o).fMain = s.fMain := rfl
@[simp] theorem State.emit_fStby (s : State) (o : Output) : (s.emit o).fStby = s.fStby := rfl
@[simp] theorem State.emit_fAon (s : State) (o : Output) : (s.emit o).fAon = s.fAon := rfl
@[simp] theorem State.emit_fSticky (s : State) (o : Output) : (s.emit o).fSticky = s.fSticky := rfl
@[simp] theorem State.emit_cyc (s : State) (o : Output) : (s.emit o).cyc = s.cyc := rfl
@[simp] theorem State.emit_fresh (s : State) (o : Output) : (s.emit o).fresh = s.fresh := rfl
@[simp] theorem State.emit_pwr (s : State) (o : Output) : (s.emit o).pwr = s.pwr := rfl
@[simp] theorem State.emit_tb (s : State) (o : Output) : (s.emit o).tb = s.tb := rfl
@[simp] theorem State.emit_srv (s : State) (o : Output) : (s.emit o).srv = s.srv := rfl
@[simp] theorem State.emit_ports (s : State) (o : Output) : (s.emit o).ports = s.ports := rfl
@[simp] theorem State.emit_hif (s : State) (o : Output) : (s.emit o).hif = s.hif := rfl
@[simp] theorem State.emit_sb (s : State) (o : Output) : (s.emit o).sb = s.sb := rfl
@[simp] theorem State.emit_lat (s : State) (o : Output) : (s.emit o).lat = s.lat := rfl
@[simp] theorem State.emit_mem (s : State) (o : Output) : (s.emit o).mem = s.mem := rfl
@[simp] theorem State.emit_ck (s : State) (o : Output) : (s.emit o).ck = s.ck := rfl
@[simp] theorem State.emit_ta (s : State) (o : Output) : (s.emit o).ta = s.ta := rfl
@[simp] theorem State.emit_ato (s : State) (o : Output) : (s.emit o).ato = s.ato := rfl
@[simp] theorem State.emit_sq (s : State) (o : Output) : (s.emit o).sq = s.sq := rfl
@[simp] theorem State.emit_mon (s : State) (o : Output) : (s.emit o).mon = s.mon := rfl
@[simp] theorem State.emit_recd (s : State) (o : Output) : (s.emit o).recd = s.recd := rfl
@[simp] theorem State.emit_cal (s : State) (o : Output) : (s.emit o).cal = s.cal := rfl
@[simp] theorem State.emit_snvm (s : State) (o : Output) : (s.emit o).snvm = s.snvm := rfl
@[simp] theorem State.emit_tstKey (s : State) (o : Output) : (s.emit o).tstKey = s.tstKey := rfl
@[simp] theorem State.emit_psm (s : State) (o : Output) : (s.emit o).psm = s.psm := rfl
@[simp] theorem State.emit_nvErrs (s : State) (o : Output) : (s.emit o).nvErrs = s.nvErrs := rfl
@[simp] theorem State.emit_scanOut (s : State) (o : Output) : (s.emit o).scanOut = s.scanOut := rfl
@[simp] theorem State.emit_jtag (s : State) (o : Output) : (s.emit o).jtag = s.jtag := rfl
@[simp] theorem State.emit_pending (s : State) (o : Output) : (s.emit o).pending = s.pending := rfl

/-! ### What State.emits leaves -/

@[simp] theorem State.emits_fuses (s : State) (os : List Output) : (s.emits os).fuses = s.fuses := rfl
@[simp] theorem State.emits_fMain (s : State) (os : List Output) : (s.emits os).fMain = s.fMain := rfl
@[simp] theorem State.emits_fStby (s : State) (os : List Output) : (s.emits os).fStby = s.fStby := rfl
@[simp] theorem State.emits_fAon (s : State) (os : List Output) : (s.emits os).fAon = s.fAon := rfl
@[simp] theorem State.emits_fSticky (s : State) (os : List Output) : (s.emits os).fSticky = s.fSticky := rfl
@[simp] theorem State.emits_cyc (s : State) (os : List Output) : (s.emits os).cyc = s.cyc := rfl
@[simp] theorem State.emits_fresh (s : State) (os : List Output) : (s.emits os).fresh = s.fresh := rfl
@[simp] theorem State.emits_pwr (s : State) (os : List Output) : (s.emits os).pwr = s.pwr := rfl
@[simp] theorem State.emits_tb (s : State) (os : List Output) : (s.emits os).tb = s.tb := rfl
@[simp] theorem State.emits_srv (s : State) (os : List Output) : (s.emits os).srv = s.srv := rfl
@[simp] theorem State.emits_ports (s : State) (os : List Output) : (s.emits os).ports = s.ports := rfl
@[simp] theorem State.emits_hif (s : State) (os : List Output) : (s.emits os).hif = s.hif := rfl
@[simp] theorem State.emits_sb (s : State) (os : List Output) : (s.emits os).sb = s.sb := rfl
@[simp] theorem State.emits_lat (s : State) (os : List Output) : (s.emits os).lat = s.lat := rfl
@[simp] theorem State.emits_mem (s : State) (os : List Output) : (s.emits os).mem = s.mem := rfl
@[simp] theorem State.emits_ck (s : State) (os : List Output) : (s.emits os).ck = s.ck := rfl
@[simp] theorem State.emits_ta (s : State) (os : List Output) : (s.emits os).ta = s.ta := rfl
@[simp] theorem State.emits_ato (s : State) (os : List Output) : (s.emits os).ato = s.ato := rfl
@[simp] theorem State.emits_sq (s : State) (os : List Output) : (s.emits os).sq = s.sq := rfl
@[simp] theorem State.emits_mon (s : State) (os : List Output) : (s.emits os).mon = s.mon := rfl
@[simp] theorem State.emits_recd (s : State) (os : List Output) : (s.emits os).recd = s.recd := rfl
@[simp] theorem State.emits_cal (s : State) (os : List Output) : (s.emits os).cal = s.cal := rfl
@[simp] theorem State.emits_snvm (s : State) (os : List Output) : (s.emits os).snvm = s.snvm := rfl
@[simp] theorem State.emits_tstKey (s : State) (os : List Output) : (s.emits os).tstKey = s.tstKey := rfl
@[simp] theorem State.emits_psm (s : State) (os : List Output) : (s.emits os).psm = s.psm := rfl
@[simp] theorem State.emits_nvErrs (s : State) (os : List Output) : (s.emits os).nvErrs = s.nvErrs := rfl
@[simp] theorem State.emits_scanOut (s : State) (os : List Output) : (s.emits os).scanOut = s.scanOut := rfl
@[simp] theorem State.emits_jtag (s : State) (os : List Output) : (s.emits os).jtag = s.jtag := rfl
@[simp] theorem State.emits_pending (s : State) (os : List Output) : (s.emits os).pending = s.pending := rfl

/-! ### What State.setPort leaves -/

@[simp] theorem State.setPort_fuses (s : State) (n : Nat) (p : Port) : (s.setPort n p).fuses = s.fuses := rfl
@[simp] theorem State.setPort_fMain (s : State) (n : Nat) (p : Port) : (s.setPort n p).fMain = s.fMain := rfl
@[simp] theorem State.setPort_fStby (s : State) (n : Nat) (p : Port) : (s.setPort n p).fStby = s.fStby := rfl
@[simp] theorem State.setPort_fAon (s : State) (n : Nat) (p : Port) : (s.setPort n p).fAon = s.fAon := rfl
@[simp] theorem State.setPort_fSticky (s : State) (n : Nat) (p : Port) : (s.setPort n p).fSticky = s.fSticky := rfl
@[simp] theorem State.setPort_cyc (s : State) (n : Nat) (p : Port) : (s.setPort n p).cyc = s.cyc := rfl
@[simp] theorem State.setPort_fresh (s : State) (n : Nat) (p : Port) : (s.setPort n p).fresh = s.fresh := rfl
@[simp] theorem State.setPort_out (s : State) (n : Nat) (p : Port) : (s.setPort n p).out = s.out := rfl
@[simp] theorem State.setPort_pwr (s : State) (n : Nat) (p : Port) : (s.setPort n p).pwr = s.pwr := rfl
@[simp] theorem State.setPort_tb (s : State) (n : Nat) (p : Port) : (s.setPort n p).tb = s.tb := rfl
@[simp] theorem State.setPort_srv (s : State) (n : Nat) (p : Port) : (s.setPort n p).srv = s.srv := rfl
@[simp] theorem State.setPort_hif (s : State) (n : Nat) (p : Port) : (s.setPort n p).hif = s.hif := rfl
@[simp] theorem State.setPort_sb (s : State) (n : Nat) (p : Port) : (s.setPort n p).sb = s.sb := rfl
@[simp] theorem State.setPort_lat (s : State) (n : Nat) (p : Port) : (s.setPort n p).lat = s.lat := rfl
@[simp] theorem State.setPort_mem (s : State) (n : Nat) (p : Port) : (s.setPort n p).mem = s.mem := rfl
@[simp] theorem State.setPort_ck (s : State) (n : Nat) (p : Port) : (s.setPort n p).ck = s.ck := rfl
@[simp] theorem State.setPort_ta (s : State) (n : Nat) (p : Port) : (s.setPort n p).ta = s.ta := rfl
@[simp] theorem State.setPort_ato (s : State) (n : Nat) (p : Port) : (s.setPort n p).ato = s.ato := rfl
@[simp] theorem State.setPort_sq (s : State) (n : Nat) (p : Port) : (s.setPort n p).sq = s.sq := rfl
@[simp] theorem State.setPort_mon (s : State) (n : Nat) (p : Port) : (s.setPort n p).mon = s.mon := rfl
@[simp] theorem State.setPort_recd (s : State) (n : Nat) (p : Port) : (s.setPort n p).recd = s.recd := rfl
@[simp] theorem State.setPort_cal (s : State) (n : Nat) (p : Port) : (s.setPort n p).cal = s.cal := rfl
@[simp] theorem State.setPort_snvm (s : State) (n : Nat) (p : Port) : (s.setPort n p).snvm = s.snvm := rfl
@[simp] theorem State.setPort_tstKey (s : State) (n : Nat) (p : Port) : (s.setPort n p).tstKey = s.tstKey := rfl
@[simp] theorem State.setPort_psm (s : State) (n : Nat) (p : Port) : (s.setPort n p).psm = s.psm := rfl
@[simp] theorem State.setPort_nvErrs (s : State) (n : Nat) (p : Port) : (s.setPort n p).nvErrs = s.nvErrs := rfl
@[simp] theorem State.setPort_scanOut (s : State) (n : Nat) (p : Port) : (s.setPort n p).scanOut = s.scanOut := rfl
@[simp] theorem State.setPort_jtag (s : State) (n : Nat) (p : Port) : (s.setPort n p).jtag = s.jtag := rfl
@[simp] theorem State.setPort_pending (s : State) (n : Nat) (p : Port) : (s.setPort n p).pending = s.pending := rfl

/-! ### What State.tally leaves -/

@[simp] theorem State.tally_fuses (s : State) (q n : Nat) : (s.tally q n).fuses = s.fuses := rfl
@[simp] theorem State.tally_fMain (s : State) (q n : Nat) : (s.tally q n).fMain = s.fMain := rfl
@[simp] theorem State.tally_fStby (s : State) (q n : Nat) : (s.tally q n).fStby = s.fStby := rfl
@[simp] theorem State.tally_fAon (s : State) (q n : Nat) : (s.tally q n).fAon = s.fAon := rfl
@[simp] theorem State.tally_fSticky (s : State) (q n : Nat) : (s.tally q n).fSticky = s.fSticky := rfl
@[simp] theorem State.tally_cyc (s : State) (q n : Nat) : (s.tally q n).cyc = s.cyc := rfl
@[simp] theorem State.tally_fresh (s : State) (q n : Nat) : (s.tally q n).fresh = s.fresh := rfl
@[simp] theorem State.tally_out (s : State) (q n : Nat) : (s.tally q n).out = s.out := rfl
@[simp] theorem State.tally_pwr (s : State) (q n : Nat) : (s.tally q n).pwr = s.pwr := rfl
@[simp] theorem State.tally_tb (s : State) (q n : Nat) : (s.tally q n).tb = s.tb := rfl
@[simp] theorem State.tally_srv (s : State) (q n : Nat) : (s.tally q n).srv = s.srv := rfl
@[simp] theorem State.tally_ports (s : State) (q n : Nat) : (s.tally q n).ports = s.ports := rfl
@[simp] theorem State.tally_hif (s : State) (q n : Nat) : (s.tally q n).hif = s.hif := rfl
@[simp] theorem State.tally_sb (s : State) (q n : Nat) : (s.tally q n).sb = s.sb := rfl
@[simp] theorem State.tally_lat (s : State) (q n : Nat) : (s.tally q n).lat = s.lat := rfl
@[simp] theorem State.tally_mem (s : State) (q n : Nat) : (s.tally q n).mem = s.mem := rfl
@[simp] theorem State.tally_ck (s : State) (q n : Nat) : (s.tally q n).ck = s.ck := rfl
@[simp] theorem State.tally_ta (s : State) (q n : Nat) : (s.tally q n).ta = s.ta := rfl
@[simp] theorem State.tally_ato (s : State) (q n : Nat) : (s.tally q n).ato = s.ato := rfl
@[simp] theorem State.tally_sq (s : State) (q n : Nat) : (s.tally q n).sq = s.sq := rfl
@[simp] theorem State.tally_mon (s : State) (q n : Nat) : (s.tally q n).mon = s.mon := rfl
@[simp] theorem State.tally_cal (s : State) (q n : Nat) : (s.tally q n).cal = s.cal := rfl
@[simp] theorem State.tally_snvm (s : State) (q n : Nat) : (s.tally q n).snvm = s.snvm := rfl
@[simp] theorem State.tally_tstKey (s : State) (q n : Nat) : (s.tally q n).tstKey = s.tstKey := rfl
@[simp] theorem State.tally_psm (s : State) (q n : Nat) : (s.tally q n).psm = s.psm := rfl
@[simp] theorem State.tally_nvErrs (s : State) (q n : Nat) : (s.tally q n).nvErrs = s.nvErrs := rfl
@[simp] theorem State.tally_scanOut (s : State) (q n : Nat) : (s.tally q n).scanOut = s.scanOut := rfl
@[simp] theorem State.tally_jtag (s : State) (q n : Nat) : (s.tally q n).jtag = s.jtag := rfl
@[simp] theorem State.tally_pending (s : State) (q n : Nat) : (s.tally q n).pending = s.pending := rfl

/-! ### What taking a free value leaves -/

@[simp] theorem State.free_fuses (s : State) : s.free.2.fuses = s.fuses := rfl
@[simp] theorem State.free_fMain (s : State) : s.free.2.fMain = s.fMain := rfl
@[simp] theorem State.free_fStby (s : State) : s.free.2.fStby = s.fStby := rfl
@[simp] theorem State.free_fAon (s : State) : s.free.2.fAon = s.fAon := rfl
@[simp] theorem State.free_fSticky (s : State) : s.free.2.fSticky = s.fSticky := rfl
@[simp] theorem State.free_cyc (s : State) : s.free.2.cyc = s.cyc := rfl
@[simp] theorem State.free_out (s : State) : s.free.2.out = s.out := rfl
@[simp] theorem State.free_pwr (s : State) : s.free.2.pwr = s.pwr := rfl
@[simp] theorem State.free_tb (s : State) : s.free.2.tb = s.tb := rfl
@[simp] theorem State.free_srv (s : State) : s.free.2.srv = s.srv := rfl
@[simp] theorem State.free_ports (s : State) : s.free.2.ports = s.ports := rfl
@[simp] theorem State.free_hif (s : State) : s.free.2.hif = s.hif := rfl
@[simp] theorem State.free_sb (s : State) : s.free.2.sb = s.sb := rfl
@[simp] theorem State.free_lat (s : State) : s.free.2.lat = s.lat := rfl
@[simp] theorem State.free_mem (s : State) : s.free.2.mem = s.mem := rfl
@[simp] theorem State.free_ck (s : State) : s.free.2.ck = s.ck := rfl
@[simp] theorem State.free_ta (s : State) : s.free.2.ta = s.ta := rfl
@[simp] theorem State.free_ato (s : State) : s.free.2.ato = s.ato := rfl
@[simp] theorem State.free_sq (s : State) : s.free.2.sq = s.sq := rfl
@[simp] theorem State.free_mon (s : State) : s.free.2.mon = s.mon := rfl
@[simp] theorem State.free_recd (s : State) : s.free.2.recd = s.recd := rfl
@[simp] theorem State.free_cal (s : State) : s.free.2.cal = s.cal := rfl
@[simp] theorem State.free_snvm (s : State) : s.free.2.snvm = s.snvm := rfl
@[simp] theorem State.free_tstKey (s : State) : s.free.2.tstKey = s.tstKey := rfl
@[simp] theorem State.free_psm (s : State) : s.free.2.psm = s.psm := rfl
@[simp] theorem State.free_nvErrs (s : State) : s.free.2.nvErrs = s.nvErrs := rfl
@[simp] theorem State.free_scanOut (s : State) : s.free.2.scanOut = s.scanOut := rfl
@[simp] theorem State.free_jtag (s : State) : s.free.2.jtag = s.jtag := rfl
@[simp] theorem State.free_pending (s : State) : s.free.2.pending = s.pending := rfl
@[simp] theorem State.free_fresh (s : State) : s.free.2.fresh = s.fresh + 1 := rfl

@[simp] theorem State.emit_out (s : State) (o : Output) : (s.emit o).out = s.out ++ [o] := rfl
@[simp] theorem State.emits_out (s : State) (os : List Output) : (s.emits os).out = s.out ++ os := rfl


/-! ### What an event's raw time leaves: State.reach moves RAWCT and begins the waiting revisions, no more -/

@[simp] theorem State.passTo_fuses (s : State) (c : Nat) : (s.passTo c).fuses = s.fuses := by
  unfold State.passTo; dsimp only; split <;> rfl
@[simp] theorem State.reach_fuses (s : State) (r : Raw) : (s.reach r).fuses = s.fuses := by
  unfold State.reach; split <;> simp
@[simp] theorem State.passTo_fStby (s : State) (c : Nat) : (s.passTo c).fStby = s.fStby := by
  unfold State.passTo; dsimp only; split <;> rfl
@[simp] theorem State.reach_fStby (s : State) (r : Raw) : (s.reach r).fStby = s.fStby := by
  unfold State.reach; split <;> simp
@[simp] theorem State.passTo_fAon (s : State) (c : Nat) : (s.passTo c).fAon = s.fAon := by
  unfold State.passTo; dsimp only; split <;> rfl
@[simp] theorem State.reach_fAon (s : State) (r : Raw) : (s.reach r).fAon = s.fAon := by
  unfold State.reach; split <;> simp
@[simp] theorem State.passTo_fSticky (s : State) (c : Nat) : (s.passTo c).fSticky = s.fSticky := by
  unfold State.passTo; dsimp only; split <;> rfl
@[simp] theorem State.reach_fSticky (s : State) (r : Raw) : (s.reach r).fSticky = s.fSticky := by
  unfold State.reach; split <;> simp
@[simp] theorem State.passTo_fresh (s : State) (c : Nat) : (s.passTo c).fresh = s.fresh := by
  unfold State.passTo; dsimp only; split <;> rfl
@[simp] theorem State.reach_fresh (s : State) (r : Raw) : (s.reach r).fresh = s.fresh := by
  unfold State.reach; split <;> simp
@[simp] theorem State.passTo_out (s : State) (c : Nat) : (s.passTo c).out = s.out := by
  unfold State.passTo; dsimp only; split <;> rfl
@[simp] theorem State.reach_out (s : State) (r : Raw) : (s.reach r).out = s.out := by
  unfold State.reach; split <;> simp
@[simp] theorem State.passTo_pwr (s : State) (c : Nat) : (s.passTo c).pwr = s.pwr := by
  unfold State.passTo; dsimp only; split <;> rfl
@[simp] theorem State.reach_pwr (s : State) (r : Raw) : (s.reach r).pwr = s.pwr := by
  unfold State.reach; split <;> simp
@[simp] theorem State.passTo_srv (s : State) (c : Nat) : (s.passTo c).srv = s.srv := by
  unfold State.passTo; dsimp only; split <;> rfl
@[simp] theorem State.reach_srv (s : State) (r : Raw) : (s.reach r).srv = s.srv := by
  unfold State.reach; split <;> simp
@[simp] theorem State.passTo_ports (s : State) (c : Nat) : (s.passTo c).ports = s.ports := by
  unfold State.passTo; dsimp only; split <;> rfl
@[simp] theorem State.reach_ports (s : State) (r : Raw) : (s.reach r).ports = s.ports := by
  unfold State.reach; split <;> simp
@[simp] theorem State.passTo_hif (s : State) (c : Nat) : (s.passTo c).hif = s.hif := by
  unfold State.passTo; dsimp only; split <;> rfl
@[simp] theorem State.reach_hif (s : State) (r : Raw) : (s.reach r).hif = s.hif := by
  unfold State.reach; split <;> simp
@[simp] theorem State.passTo_sb (s : State) (c : Nat) : (s.passTo c).sb = s.sb := by
  unfold State.passTo; dsimp only; split <;> rfl
@[simp] theorem State.reach_sb (s : State) (r : Raw) : (s.reach r).sb = s.sb := by
  unfold State.reach; split <;> simp
@[simp] theorem State.passTo_lat (s : State) (c : Nat) : (s.passTo c).lat = s.lat := by
  unfold State.passTo; dsimp only; split <;> rfl
@[simp] theorem State.reach_lat (s : State) (r : Raw) : (s.reach r).lat = s.lat := by
  unfold State.reach; split <;> simp
@[simp] theorem State.passTo_mem (s : State) (c : Nat) : (s.passTo c).mem = s.mem := by
  unfold State.passTo; dsimp only; split <;> rfl
@[simp] theorem State.reach_mem (s : State) (r : Raw) : (s.reach r).mem = s.mem := by
  unfold State.reach; split <;> simp
@[simp] theorem State.passTo_ck (s : State) (c : Nat) : (s.passTo c).ck = s.ck := by
  unfold State.passTo; dsimp only; split <;> rfl
@[simp] theorem State.reach_ck (s : State) (r : Raw) : (s.reach r).ck = s.ck := by
  unfold State.reach; split <;> simp
@[simp] theorem State.passTo_ta (s : State) (c : Nat) : (s.passTo c).ta = s.ta := by
  unfold State.passTo; dsimp only; split <;> rfl
@[simp] theorem State.reach_ta (s : State) (r : Raw) : (s.reach r).ta = s.ta := by
  unfold State.reach; split <;> simp
@[simp] theorem State.passTo_ato (s : State) (c : Nat) : (s.passTo c).ato = s.ato := by
  unfold State.passTo; dsimp only; split <;> rfl
@[simp] theorem State.reach_ato (s : State) (r : Raw) : (s.reach r).ato = s.ato := by
  unfold State.reach; split <;> simp
@[simp] theorem State.passTo_sq (s : State) (c : Nat) : (s.passTo c).sq = s.sq := by
  unfold State.passTo; dsimp only; split <;> rfl
@[simp] theorem State.reach_sq (s : State) (r : Raw) : (s.reach r).sq = s.sq := by
  unfold State.reach; split <;> simp
@[simp] theorem State.passTo_mon (s : State) (c : Nat) : (s.passTo c).mon = s.mon := by
  unfold State.passTo; dsimp only; split <;> rfl
@[simp] theorem State.reach_mon (s : State) (r : Raw) : (s.reach r).mon = s.mon := by
  unfold State.reach; split <;> simp
@[simp] theorem State.passTo_recd (s : State) (c : Nat) : (s.passTo c).recd = s.recd := by
  unfold State.passTo; dsimp only; split <;> rfl
@[simp] theorem State.reach_recd (s : State) (r : Raw) : (s.reach r).recd = s.recd := by
  unfold State.reach; split <;> simp
@[simp] theorem State.passTo_cal (s : State) (c : Nat) : (s.passTo c).cal = s.cal := by
  unfold State.passTo; dsimp only; split <;> rfl
@[simp] theorem State.reach_cal (s : State) (r : Raw) : (s.reach r).cal = s.cal := by
  unfold State.reach; split <;> simp
@[simp] theorem State.passTo_snvm (s : State) (c : Nat) : (s.passTo c).snvm = s.snvm := by
  unfold State.passTo; dsimp only; split <;> rfl
@[simp] theorem State.reach_snvm (s : State) (r : Raw) : (s.reach r).snvm = s.snvm := by
  unfold State.reach; split <;> simp
@[simp] theorem State.passTo_tstKey (s : State) (c : Nat) : (s.passTo c).tstKey = s.tstKey := by
  unfold State.passTo; dsimp only; split <;> rfl
@[simp] theorem State.reach_tstKey (s : State) (r : Raw) : (s.reach r).tstKey = s.tstKey := by
  unfold State.reach; split <;> simp
@[simp] theorem State.passTo_psm (s : State) (c : Nat) : (s.passTo c).psm = s.psm := by
  unfold State.passTo; dsimp only; split <;> rfl
@[simp] theorem State.passTo_nvErrs (s : State) (c : Nat) : (s.passTo c).nvErrs = s.nvErrs := by
  unfold State.passTo; dsimp only; split <;> rfl
@[simp] theorem State.passTo_scanOut (s : State) (c : Nat) : (s.passTo c).scanOut = s.scanOut := by
  unfold State.passTo; dsimp only; split <;> rfl
@[simp] theorem State.reach_psm (s : State) (r : Raw) : (s.reach r).psm = s.psm := by
  unfold State.reach; split <;> simp
@[simp] theorem State.reach_nvErrs (s : State) (r : Raw) : (s.reach r).nvErrs = s.nvErrs := by
  unfold State.reach; split <;> simp
@[simp] theorem State.reach_scanOut (s : State) (r : Raw) : (s.reach r).scanOut = s.scanOut := by
  unfold State.reach; split <;> simp
@[simp] theorem State.passTo_jtag (s : State) (c : Nat) : (s.passTo c).jtag = s.jtag := by
  unfold State.passTo; dsimp only; split <;> rfl
@[simp] theorem State.reach_jtag (s : State) (r : Raw) : (s.reach r).jtag = s.jtag := by
  unfold State.reach; split <;> simp
@[simp] theorem State.passTo_pending (s : State) (c : Nat) : (s.passTo c).pending = s.pending := by
  unfold State.passTo; dsimp only; split <;> rfl
@[simp] theorem State.reach_pending (s : State) (r : Raw) : (s.reach r).pending = s.pending := by
  unfold State.reach; split <;> simp

/-- Of the timebase, an event's raw time changes the list of revisions only. -/
theorem State.reach_tb (s : State) (r : Raw) : (s.reach r).tb = { s.tb with revisions := (s.reach r).tb.revisions } := by
  unfold State.reach; split <;> first | rfl | (unfold State.passTo; dsimp only; split <;> rfl)

/-- RAWCT never counts back. -/
theorem State.reach_cyc (s : State) (r : Raw) : s.cyc ≤ (s.reach r).cyc := by
  unfold State.reach
  split
  · rename_i h
    simp only [Bool.and_eq_true, decide_eq_true_eq] at h
    have : (s.passTo (r / tapsPerCycle)).cyc = r / tapsPerCycle := by unfold State.passTo; dsimp only; split <;> rfl
    omega
  · exact Nat.le_refl _

/-- With no revision waiting, an event's raw time moves RAWCT alone. -/
theorem State.passTo_of_begun {s : State} (h : s.tb.revisions.all Revision.begun = true) (c : Nat) :
    s.passTo c = { s with cyc := c } := by
  have hn : s.tb.revisions.filter (fun v => !v.begun) = [] := by
    rw [List.filter_eq_nil_iff]
    intro v hv
    simp [List.all_eq_true.1 h v hv]
  unfold State.passTo
  simp [hn]

/-! ### Tables and fields -/

@[simp] theorem State.tbl_setTbl_same (s : State) (d : Dom) (t : List (Nat × Nat)) : (s.setTbl d t).tbl d = t := by
  cases d <;> rfl

theorem State.tbl_setTbl_ne (s : State) {d e : Dom} (t : List (Nat × Nat)) (h : e ≠ d) : (s.setTbl d t).tbl e = s.tbl e := by
  cases d <;> cases e <;> first | rfl | exact absurd rfl h

/-- The reset value of a field depends on the fuses and on REFSEL only. -/
theorem State.rst_congr {s t : State} (hf : t.fuses = s.fuses) (hr : t.pwr.refsel = s.pwr.refsel) (f : Fld) (i : Nat) :
    t.rst f i = s.rst f i := by
  unfold State.rst State.fuseValue
  rw [hf, hr]

@[simp] theorem State.rst_set (s : State) (f g : Fld) (v i j : Nat) : (s.set f v i).rst g j = s.rst g j :=
  State.rst_congr (by simp) (by simp) g j

/-- A field reads alike in two states that agree in its table, the fuses and REFSEL. -/
theorem State.get_congr {s t : State} (hf : t.fuses = s.fuses) (hr : t.pwr.refsel = s.pwr.refsel) {f : Fld}
    (ht : t.tbl f.dom = s.tbl f.dom) (i : Nat) : t.get f i = s.get f i := by
  unfold State.get
  rw [State.rst_congr hf hr, ht]

/-- A field just written reads the value cut to its width. -/
theorem State.get_set_same (s : State) (f : Fld) (v i : Nat) (h : Store.sorted (s.tbl f.dom) = true) :
    (s.set f v i).get f i = v % 2 ^ f.width := by
  unfold State.get
  rw [State.rst_set]
  unfold State.set
  rw [State.tbl_setTbl_same, Store.get_set_same _ _ _ _ h, Nat.mod_mod]

/-- A field is below 2^width. -/
theorem State.get_lt (s : State) (f : Fld) (i : Nat) : s.get f i < 2 ^ f.width := Nat.mod_lt _ (Nat.two_pow_pos _)

/-- A field of another domain or with another key reads as before. -/
theorem State.get_set_ne (s : State) (f g : Fld) (v i j : Nat) (h : g.dom ≠ f.dom ∨ g.key j ≠ f.key i) :
    (s.set f v i).get g j = s.get g j := by
  unfold State.get
  rw [State.rst_set]
  unfold State.set
  by_cases hd : g.dom = f.dom
  · rw [hd, State.tbl_setTbl_same]
    rw [Store.get_set_ne _ _ _ _ _ (h.resolve_left (fun hn => hn hd)) _]
  · rw [State.tbl_setTbl_ne _ _ hd]

/-- A write keeps the keys of every table rising. -/
theorem State.set_sorted (s : State) (f : Fld) (v i : Nat) (d : Dom) (h : Store.sorted (s.tbl d) = true) :
    Store.sorted ((s.set f v i).tbl d) = true := by
  unfold State.set
  by_cases hd : d = f.dom
  · subst hd
    rw [State.tbl_setTbl_same]
    exact Store.set_sorted _ _ _ _ h
  · rw [State.tbl_setTbl_ne _ _ hd]
    exact h

/-- The port just replaced is what it was replaced with. -/
theorem State.port_setPort_same (s : State) (n : Nat) (p : Port) (h : Store.sorted s.ports = true) : (s.setPort n p).port n = p :=
  Store.get_set_same Port.idle n p s.ports h

/-- Every other port is as before. -/
theorem State.port_setPort_ne (s : State) (n m : Nat) (p : Port) (h : m ≠ n) : (s.setPort n p).port m = s.port m :=
  Store.get_set_ne Port.idle Port.idle n m p h s.ports

end Sys2Proof.Machine
end

