-- ==== Sys2Proof/WellFormed.lean ====
section
/-!
DEFINITION. Well-formed commands: operands that name something the block has on its largest variant (R1, R5). A command that is not
well-formed has a meaning all the same: it changes nothing, or is refused as its rule says.
-/
namespace Sys2Proof

/-- The operands of a command lie in the ranges of its rule. -/
def Instr.wf : Instr → Bool
  | .vstbyRise => true
  | .standbyResetRelease _ _ => true
  | .seqCiLowDetect => true
  | .cascadeTrainSend => true
  | .cascadeTrainEnd pulses => decide (1 ≤ pulses)
  | .vstbyBelow2v8 _ => true
  | .vstbyAbove2v9 => true
  | .vstbyCollapse => true
  | .collapsedEnd => true
  | .standbyPor => true
  | .atollPor _ => true
  | .atollBrownOut => true
  | .vbatLow _ => true
  | .cellDetection _ => true
  | .manualReset => true
  | .mrNRise => true
  | .mainReset => true
  | .hostInterfaceReset => true
  | .syn0StartLock _ => true
  | .mainResetRelease _ => true
  | .powerUpCalStart => true
  | .powerUpCalEnd _ _ _ _ _ => true
  | .rstOutRelease => true
  | .sqCommandPulse => true
  | .sqStateEnd _ => true
  | .railGood n => decide (n < 24)
  | .railPgtoTimeout n => decide (n < 24)
  | .goodComparatorChange n _ _ => decide (n < 24)
  | .railDrop n => decide (n < 24)
  | .railOff n => decide (n < 24)
  | .railOffTimeout n => decide (n < 24)
  | .offminEnd => true
  | .retryClear => true
  | .pwrbtnPress => true
  | .pwrbtnRelease => true
  | .btnLong => true
  | .ackTimeout => true
  | .atollSecond _ _ => true
  | .heartbeat => true
  | .heartbeatTimeout => true
  | .trimInterval _ _ _ lost => lost.all (fun w => decide (w < 256))
  | .learningMeasurement _ _ _ _ _ => true
  | .mirrorWrite => true
  | .wakePulseEnd => true
  | .wakeRelease _ _ => true
  | .enclSample _ _ => true
  | .meshSample _ _ => true
  | .aoscDetection _ => true
  | .rcRunClear => true
  | .vgltDetection _ => true
  | .jtempSample l _ => decide (l.length = 4)
  | .sourceInactive k => decide (k < 8)
  | .unionClose => true
  | .matrixLogWaitEnd => true
  | .monUnlock _ _ _ => true
  | .unlockWindowExpiry => true
  | .unlockHoldoffEnd => true
  | .monStickyClear _ _ => true
  | .selftestWindowEnd k _ _ _ => decide (k < 8)
  | .govEvaluation l _ => decide (l.length = 3)
  | .govBucketAdvance => true
  | .govShedStep => true
  | .govRestoreStep => true
  | .recordWriteStart => true
  | .recordCommit _ _ => true
  | .periodic => true
  | .writeCreditAdd => true
  | .opsecTick => true
  | .quantitySample q _ => decide (q < 24)
  | .compactionPass _ _ _ _ _ _ => true
  | .refQualified _ _ => true
  | .refLossCal _ _ => true
  | .calPeriodicRun => true
  | .autoTraceRun => true
  | .calRunEnd _ _ => true
  | .calStoreDone _ => true
  | .publicationInstant _ => true
  | .rebase => true
  | .slewEnd => true
  | .sourceLoss _ => true
  | .revisionComplete => true
  | .lineLive n _ _ => decide (n < 32)
  | .lineLivenessLoss n _ _ _ => decide (n < 32)
  | .trainingEntry n _ => decide (n < 32)
  | .ltTimeout n => decide (n < 32)
  | .frameIngress n _ _ _ => decide (n < 32)
  | .egressFrameStart n _ _ => decide (n < 32)
  | .ptpMessageRx n _ => decide (n < 32)
  | .ptpMessageDue n _ => decide (n < 32)
  | .announceExpiry k => decide (k < 8)
  | .candidateQualify k => decide (k < 8)
  | .wtrExpiry => true
  | .discoveryFrameRx n _ => decide (n < 32)
  | .helloTimer n => decide (n < 32)
  | .capsSendTimer n => decide (n < 32)
  | .capsTimeout n => decide (n < 32)
  | .capsRx n _ _ => decide (n < 32)
  | .spxMarkDue n _ => decide (n < 32)
  | .spxExchangeRx n _ _ => decide (n < 32)
  | .rrFail n => decide (n < 32)
  | .spxStatusWordRx n _ _ => decide (n < 32)
  | .spxNackRx n _ _ => decide (n < 32)
  | .markSilence n => decide (n < 32)
  | .waitExpiry n => decide (n < 32)
  | .fallbackExpiry n => decide (n < 32)
  | .spxStarved n => decide (n < 32)
  | .phaseAverage n _ _ => decide (n < 32)
  | .refLoss => true
  | .refRestore _ => true
  | .syn0Unlock _ => true
  | .checkerWindowEnd _ _ _ => true
  | .syn0RelockStart => true
  | .synRelock _ => true
  | .dpllUpdate _ l => decide (l.length = 4)
  | .fsrcQualify k => decide (k < 4)
  | .fsrcWtrExpiry => true
  | .guardStretch => true
  | .dllUnlock d => decide (d < 88)
  | .dllRelock d => decide (d < 88)
  | .ckoStart n => decide (n < 8)
  | .taCommit _ => true
  | .taExecute _ _ => true
  | .pgStart k => decide (k < 16)
  | .captureEdge ball _ _ => decide (ball < 16)
  | .captureDelivery => true
  | .doorbellWrite r _ => decide (r < 132)
  | .descriptorFetch d _ => decide (d.length = 32)
  | .heldCompletionWrite r => decide (32 ≤ r ∧ r < 64)
  | .msixModerationTimer r => decide (r < 132)
  | .ringEnable _ i _ => decide (i < 132)
  | .mtWindowBorrow => true
  | .mtCopyDone => true
  | .mtTestDone _ => true
  | .mtReturnDone => true
  | .scrub _ _ _ _ => true
  | .retentionEnter g => decide (g < 8)
  | .groupWakeDone g => decide (g < 8)
  | .nop _ => true
  | .reset _ => true
  | .profSelect _ => true
  | .tbRead _ => true
  | .convert _ => true
  | .acceptStep _ => true
  | .sendFrame _ => true
  | .spxSetAsym _ => true
  | .spxAcceptRoute _ => true
  | .srvSelect _ => true
  | .srvPropose _ => true
  | .srvClrTaint _ => true
  | .ptpSetAnnounce _ => true
  | .taArm _ => true
  | .taDisarm _ => true
  | .taQuery _ => true
  | .lqEnqueue _ => true
  | .lqFlush _ => true
  | .taClaimBreak _ => true
  | .atSetTime _ => true
  | .atSetUtc _ => true
  | .atKeyWrite _ => true
  | .atZeroize _ => true
  | .atTblClear _ => true
  | .sqPowerOn _ => true
  | .sqPowerOff _ => true
  | .sqBtnAck _ => true
  | .sqClearFault _ => true
  | .sqRailOn _ => true
  | .monSelftest _ => true
  | .monRaise _ => true
  | .recRead _ => true
  | .recMark _ => true
  | .recSnap _ => true
  | .calRun _ => true
  | .sbRegisterWrite addr _ _ _ => decide (addr < 0x200000)
  | .sbSetReadAddress addr _ => decide (addr < 0x200000)
  | .sbRegisterRead => true
  | .sbReadStatus => true
  | .sbSetMailboxPointer off _ => decide (off < 65536)
  | .sbMailboxWrite data _ _ _ => decide (data.length = 16 ∨ data.length = 32)
  | .sbMailboxRead => true
  | .sbSubmitCommand d _ _ _ => decide (d.length = 32)
  | .sbReadCompletion => true
  | .sbReadAlert => true
  | .alertResponseRead _ => true
  | .wideLoRead _ addr len => (decide (addr < 0xA01000) || (decide (0xB00000 ≤ addr) && decide (addr < 0xB01000))) && decide (1 ≤ len) && decide (len ≤ 4096)
  | .wideLoWrite _ addr _ => decide (addr < 0x200000)
  | .wideUpperWrite _ addr _ => decide (addr < 0x200000)
  | .registerWrite _ addr _ rest _ =>
    (decide (addr < 0xA01000) || (decide (0xB00000 ≤ addr) && decide (addr < 0xB01000))) && decide (rest.length ≤ 508)
  | .strCtrlEnWrite _ i _ => decide (i < 32)
  | .strPoolResvWrite _ i _ => decide (i < 32)
  | .ckoEnWrite _ i _ => decide (i < 8)
  | .tioModeWrite _ i _ => decide (i < 16)
  | .cuEnWrite _ i _ => decide (i < 16)
  | .lqEnWrite _ i _ => decide (i < 128)
  | .pgEnWrite _ i _ => decide (i < 16)
  | .alarmEnWrite _ i _ => decide (i < 4)
  | .strCntClr _ i _ => decide (i < 32)
  | .spxCntClr _ i _ => decide (i < 32)
  | .ptpPcntClr _ i _ => decide (i < 32)
  | .ckCntClr _ _ => true
  | .taCntClr _ _ => true
  | .memCntClr _ _ => true
  | .memPoolClr _ _ => true
  | .jmaxClr _ _ => true
  | .snvmKeyWrite _ _ => true
  | .snvmProg _ _ => true
  | .snvmRead _ _ => true
  | .snvmProgDone _ => true
  | .tstKeyWrite _ _ => true
  | .forceUnlock _ _ => true
  | .eccArm _ _ => true
  | .jtagInstruction _ _ => true
  | .testLogicReset => true
  | .psmCtrlWrite _ _ => true
  | .enter _ q => decide (q < 4)
  | .exit _ q => decide (q < 4)
  | .psmUcodeWord _ q _ => decide (q < 4)
  | .spxEnWrite _ i _ => decide (i < 32)
  | .pcieLinkUp speed width => decide (1 ≤ speed ∧ speed ≤ 4 ∧ (width = 1 ∨ width = 2 ∨ width = 4))
  | .smbusTimeout => true

end Sys2Proof
end

