-- ==== Sys2Proof/Tests/Slice0.lean ====
section
/-!
SUPPORT. Tests: ill-formed commands that the check refuses, worked examples of the spec, and for every statement with hypotheses one
named theorem that shows states and operands which meet them, one for each clause.
-/
set_option Elab.async false

namespace Sys2Proof.Tests
open Sys2Proof Sys2Proof.Machine

/-! ### Helpers -/

/-- The block in service: standby and main domain running, start-up at step 10, everything else at its reset value. -/
def up : State :=
  { State.reset with pwr := { State.reset.pwr with stby := .up, mainRun := true, step8 := true, step10 := true, synStarted := true } }

/-- The standby domain alone. -/
def stb : State := { State.reset with pwr := { State.reset.pwr with stby := .up } }

/-- Some fields set. -/
def fix (s : State) (l : List (Fld × Nat × Nat)) : State := l.foldl (fun s p => s.set p.1 p.2.1 p.2.2) s

/-- A ring command with nothing in its parameters, and one of the sideband. -/
def cmd : Cmd := { src := .ring 0, flags := 0, tag := 5, a := 0, b := 0, c := 0, data := [], dmaErr := false }
def sbCmd : Cmd := { cmd with src := .sideband }

/-- What a command makes of a state. -/
def after (i : Instr) (s : State) : State :=
  match exec i s with
  | .next t => t
  | _ => s

/-- A capture; a frame received then, whole and without error, its first octet at the head of a stage filled to 60
octets; and a block. -/
def at0 : Stamp := ⟨30000000000, .block false⟩
def rx (d : Bytes) : RxFrame := ⟨d, [], [], at0, 60, none⟩
def block (kind seq payload : Nat) : SpxBlock := ⟨spxLayout kind seq payload, at0.w, (0, 0)⟩

/-- Every host write that reaches a register in `s` at `a`, by evaluation. -/
theorem reach (s : State) (a : Nat)
    (h : a % 4 = 0 ∧ s.unbonded a = false ∧ s.mainUp = true ∧ s.pwr.step8 = true ∧ a < 0x180000
      ∧ (straitPort a).all (fun n => !s.serviced n) = true) : s.reaches .host a := State.reaches_host h

/-! ### Ill-formed commands -/

/-- Each check of Instr.wf refuses an operand just outside its range. -/
theorem test_wf_refuses : ([.cascadeTrainEnd 0, .railGood 24, .railPgtoTimeout 24, .goodComparatorChange 24 true false, .railDrop 24,
    .railOff 24, .railOffTimeout 24, .sourceInactive 8, .selftestWindowEnd 8 true true 0, .quantitySample 24 0, .lineLive 32 .line 0,
    .lineLivenessLoss 32 .line 0 .signal, .trainingEntry 32 .line, .ltTimeout 32, .frameIngress 32 .line (.control .lpi 0) at0,
    .egressFrameStart 32 .line at0, .ptpMessageRx 32 (rx []), .ptpMessageDue 32 0, .announceExpiry 8,
    .candidateQualify 8, .discoveryFrameRx 32 (rx []), .helloTimer 32, .capsSendTimer 32, .capsTimeout 32,
    .capsRx 32 (block 0 0 0), .spxMarkDue 32 at0, .spxExchangeRx 32 [], .rrFail 32, .spxStatusWordRx 32 (block 0 0 0),
    .spxNackRx 32 (block 0 0 0), .markSilence 32, .waitExpiry 32, .fallbackExpiry 32, .spxStarved 32, .phaseAverage 32 0 0,
    .fsrcQualify 4, .dllUnlock 88, .dllRelock 88, .ckoStart 8, .pgStart 16] : List Instr).all (fun i => !i.wf) = true := by
  decide +kernel

theorem test_wf_refuses_writes : ([.captureEdge 16 true 0, .doorbellWrite 132 0, .descriptorFetch [] false, .heldCompletionWrite 31,
    .heldCompletionWrite 64, .msixModerationTimer 132, .ringEnable .host 132 0, .retentionEnter 8, .groupWakeDone 8,
    .sbRegisterWrite 0x200000 0 true, .sbSetReadAddress 0x200000 true, .sbSetMailboxPointer 65536 true,
    .sbMailboxWrite (List.replicate 17 0) none true, .sbSubmitCommand [] true, .wideLoRead .host 0xA01000, .wideLoWrite .host 0xA00000 0,
    .wideUpperWrite .host 0xA00000 0, .registerWrite .host 0xA01000 0, .strCtrlEnWrite .host 32 0, .strPoolResvWrite .host 32 0,
    .ckoEnWrite .host 8 0, .tioModeWrite .host 16 0, .cuEnWrite .host 16 0, .lqEnWrite .host 128 0, .pgEnWrite .host 16 0,
    .alarmEnWrite .host 4 0, .strCntClr .host 32 0, .spxCntClr .host 32 0, .ptpPcntClr .host 32 0, .enter .host 4, .exit .host 4,
    .psmUcodeWord .host 4 0, .spxEnWrite .host 32 0, .pcieLinkUp 0 1, .pcieLinkUp 5 1, .pcieLinkUp 4 3] : List Instr).all
      (fun i => !i.wf) = true := by decide +kernel

/-- The largest operands in range are well formed. -/
theorem test_wf_accepts : ([.railGood 23, .lineLive 31 .host 0, .dllUnlock 87, .doorbellWrite 131 0, .heldCompletionWrite 63,
    .pcieLinkUp 4 4, .lqEnWrite .sideband 127 0, .captureEdge 15 false 0] : List Instr).all Instr.wf = true := by decide

/-! ### Worked examples of the spec -/

/-- The live conversion of chapter 02 (R49): 500,001,499 ns, fraction 0xFF5C of second 1,893,456,038. -/
theorem test_live_conversion :
    (⟨1000000000137, 422212465, (1893456037 * 1000000000 + 500000000) * 65536, 0, false, false, 0, 0, 0⟩ : Epoch).convert
      1400000000137 = (1893456038 * 1000000000 + 500001499) * 65536 + 0xFF5C := by decide +kernel

/-- Nominal positions in a codeword (R105): 30,410 taps. -/
theorem test_codeword_position : up.posTaps 0 (.codeword 1 7 2 4) = 30410 := by decide +kernel

/-- The residence example of chapter 04 (R114): SUB at P3, then ADD at P17. -/
theorem test_residence : cfArith 0xC8000 true 0xFFFFFED44000 = some 0x1384000
    ∧ cfArith 0x1384000 false 0x6078000 = some 0x73FC000 := by decide

/-- The completion of the TB_READ example of chapter 14 (R357). -/
theorem test_completion : completionEntry 0xA2FB4058 0x1234 0 0 0 0
    = [0x58, 0x40, 0xFB, 0xA2, 0, 0, 0, 0, 0x34, 0x12, 0, 0, 0, 0, 0, 0] := by decide +kernel

/-- The addresses of the example of chapter 17: CK_CKO_PER[5], SPX_STATUS of port 23, TA_LQ_CTRL[17.2], TA_CLAIM[126]. -/
theorem test_addresses : F.CK_CKO_PER_PER.addr + 5 * F.CK_CKO_PER_PER.stride = 0x401A4
    ∧ F.SPX_STATUS_SESS.addr + 23 * F.SPX_STATUS_SESS.stride = 0xA5C30 ∧ F.TA_LQ_CTRL_EN.addr + 70 * F.TA_LQ_CTRL_EN.stride = 0x51460
    ∧ claimLq 70 = 126 ∧ F.TA_CLAIM_OWNER.addr + 126 * F.TA_CLAIM_OWNER.stride = 0x521F8 := by decide

/-- Two writes in the order of that example set the period of CKO5 (R14). -/
theorem test_cko_period : (after (.wideLoWrite .host 0x401A4 0x03E80000) (after (.wideUpperWrite .host 0x401A8 0) up)).get
    F.CK_CKO_PER_PER 5 = 65536000 := by decide +kernel

/-- The first two thermal thresholds (R298): WARN at 115 degrees, released below 110. -/
theorem test_thermal : [thermalLevel 0 1839, thermalLevel 0 1840, thermalLevel 1 1760, thermalLevel 1 1759] = [0, 1, 1, 0] := by decide

/-- The hindsight example of chapter 02 (R58): the revised rate, and the capture 0.5 s into holdover 1 ns earlier than published. -/
theorem test_hindsight :
    let pub : Epoch := ⟨10 ^ 12, 422212465, (1893456040 * 1000000000 + 250000000) * 65536, 4, true, false, 0, 1200, 7⟩
    let r := reviseFrom ⟨4 * 65536, 10 ^ 12, 10 ^ 12 + 800000000000, 10 ^ 12 + 800000000000, 8, 1200, 1200, 0, true⟩ 0 [⟨pub, pub, 0⟩]
    pub.convert (10 ^ 12 + 200000000000) = (1893456040 * 1000000000 + 750000749) * 65536 + 0xFF5C
      ∧ r.map (fun h => (h.latest.rate, h.latest.gen, h.latest.convert (10 ^ 12 + 200000000000)))
        = [(421649515, 8, (1893456040 * 1000000000 + 750000748) * 65536 + 0xFF5C)] := by decide +kernel

/-- The profile example of chapter 16 (R396): the record 0x010A0000, 0x345 writes STR_CTRL of every bonded port. -/
theorem test_profile_record : (parseRecs 3 [0x010A0000, 0x345]).map (fun l => l.map (fun r => r.expand 24))
    = some [(List.range 24).map (fun n => (0x80000 + 0x1000 * n, 0x345))] := by decide +kernel

/-- A doorbell write through BAR4 moves its ring, and is read back there (R352): ring 131 at offset 0x418. -/
theorem test_bar4 :
    let s := ((up.set F.HIF_RING_CFG_EN 1 131).set F.HIF_RING_CFG_LOG2 4 131).set F.HIF_RING_PTR_DEVPTR 3 131
    (after (.wideLoRead .host 0xA00418) (after (.registerWrite .host 0xA00418 3) s)).out = [.hostData 3 false] := by decide +kernel

/-- A sideband TB_READ whose second result word meets a host write completes with WRITE_COLLIDED (R392). -/
theorem test_sideband_collision : let s := { up with sq := { up.sq with learned := true } }
    bits ((after (.sbSubmitCommand (putAt (List.replicate 32 0) 0 [0x10]) true (some (1, [7]))) s).get F.HIF_SB_CMD_CMD) 80 16
      = stWriteCollided := by decide +kernel

/-! ### States in which the statements' hypotheses hold -/

/-- The standby domain with its position learned and a sound program in force. -/
def lrn : State := { stb with sq := { stb.sq with learned := true, progOk := true } }

/-- The same with its one CORE rail good. -/
def powered : State :=
  fix lrn [(F.SQ_RAIL_CFG_VALID, 1, 0), (F.SQ_RAIL_CFG_CORE, 1, 0), (F.SQ_RAIL_ST_ST, railGood, 0)]

/-- A rail of the program in the state `st`. -/
def rail (st n : Nat) : State := fix lrn [(F.SQ_RAIL_CFG_VALID, 1, n), (F.SQ_RAIL_ST_ST, st, n)]

/-- In RUN with the push-button pressed. -/
def pressed (l : List (Fld × Nat × Nat)) : State :=
  { fix lrn ((F.SQ_STATUS_SEQ, sqRun, 0) :: l) with sq := { lrn.sq with btn := true } }

/-- The power-up run of a copy without ports, and the block at its end. -/
def pcr : CalRun := ⟨1, 3, 1, false, false, true, none⟩
def calm (l : List (Fld × Nat × Nat)) : State :=
  { fix up l with pwr := { up.pwr with step10 := false, aonUp := true }, cal := { up.cal with run := some pcr } }

/-- The block with the Atoll's program sound and its position learned. -/
def lrnUp : State := { up with sq := lrn.sq }

/-- The Atoll supplied. -/
def aon (s : State) : State := { s with pwr := { s.pwr with aonUp := true } }

/-- Every source enabled with one detection to confirm. -/
def detects : State :=
  fix (aon up) ([0, 1, 2, 4].flatMap (fun k => [(F.MON_SRCA_CTRL_EN, 1, k), (F.MON_SRCA_CTRL_K, 1, k), (F.MON_SRCA_CTRL_W, 1, k)])
    ++ [(F.MON_SRCS_CTRL_EN, 1, 0), (F.MON_SRCS_CTRL_K, 1, 0), (F.MON_SRCS_CTRL_W, 1, 0), (F.AT_STAT_SRC, 0, 0)])

/-- A source in its blind window. -/
def test0 : SelfTest := ⟨false, some (.ring 0, 5, false)⟩
def blind (k : Nat) : State := { up with mon := { up.mon with blind := [(k, test0)] } }

/-- Over budget with nothing shed, and a union of one source. -/
def sheds : State := fix up [(F.MON_CTRL_GOV_EN, 1, 0), (F.MON_GOV_STAT_USED, 65535, 0), (F.MON_GOV_STAT_P, 1000, 0),
  (F.MON_GOV_LIM_PCONT, 999, 0)]
def joined (resp main : Nat) : State :=
  { fix (aon up) [(F.AT_STAT_MAIN, main, 0)] with ato := { up.ato with members := 1, resp := resp } }

/-- A partition in service. -/
def serving (q : Nat) : State := fix up [(F.PSM_CTRL_EN, 1, 0), (F.PSM_STAT_SERVICE, 1, q)]

/-- A program of one rail, and a profile image that names it: monitors at their reset values and one register write (R269, R396). -/
def prog0 : Bytes := ([0x53, 0x51, 0x50, 0x47, 1, 0, 1, 1] ++ le 2 20 ++ le 2 50 ++ [8, 3] ++ le 2 20 ++ le 2 250 ++ le 2 100
  ++ [30, 4] ++ le 2 200 ++ List.replicate 40 0 ++ [0, 17, 2, 0] ++ le 2 900 ++ le 2 100)
def prof0 : Bytes := ([0x5A, 0x4E, 0x50, 0x46, 1, 0, 1, 0] ++ le 2 4 ++ le 2 2 ++ List.replicate 52 0
  ++ (List.range 8).flatMap (fun k => le 4 (1 + 2 * monRespTable.getD k 0 + 256 * monKTable.getD k 0 + 65536 * monWTable.getD k 0))
  ++ (List.range 8).flatMap (fun k => le 4 (monParamTable.getD k 0)) ++ le 4 2 ++ le 4 (2640 + 1320 * 4096 + 40 * 2 ^ 24)
  ++ List.replicate 120 0 ++ le 4 0x010A0000 ++ le 4 0)
def cells (a : Nat) (b : Bytes) : Memory := (b.zipIdx.map (fun p => (a + p.2, p.1))).filter (fun p => p.2 ≠ 0)
def profiled : State := { up with snvm := { up.snvm with data := cells 0x100 prog0 ++ cells 0x1000 prof0 } }

/-- Octets beyond the last listed address read 0. -/
theorem readN_zero (m : Memory) (a : Nat) (h : ∀ p ∈ m, p.1 < a) (n : Nat) : m.readN a n = List.replicate n 0 := by
  have hr : ∀ b, a ≤ b → m.read b = 0 := by
    intro b hb
    unfold Memory.read
    induction m with
    | nil => rfl
    | cons q t ih =>
      have := h q (by simp)
      simp only [Store.get, if_neg (by omega : ¬ q.1 = b)]
      exact ih fun p hp => h p (by simp [hp])
  simp only [Memory.readN]
  rw [List.eq_replicate_iff]
  refine ⟨by simp, fun b hb => ?_⟩
  obtain ⟨i, -, rfl⟩ := List.mem_map.1 hb
  exact hr _ (by omega)

/-- A read falls into a read of its first octets and one of the rest. -/
theorem readN_append (m : Memory) (a n k : Nat) : m.readN a (n + k) = m.readN a n ++ m.readN (a + n) k := by
  simp [Memory.readN, List.range_add, Nat.add_assoc]

/-- The octets of the profile that are not zero by position. -/
def prof0Head : Bytes := profiled.snvm.data.readN 0x1000 264

theorem prof_image {s : State} (h : ∀ p ∈ s.snvm.data, p.1 < 0x1000 + 264) :
    s.profImage 0 = s.snvm.data.readN 0x1000 264 ++ List.replicate 2808 0 := by
  have e : s.profImage 0 = s.snvm.data.readN 0x1000 (264 + 2808) := rfl
  rw [e, readN_append, readN_zero _ _ h]

theorem prof0_image : profiled.profImage 0 = prof0Head ++ List.replicate 2808 0 := prof_image (by decide +kernel)

theorem prof0_len : prof0Head.length = 264 := by decide +kernel
theorem prof0_sub {off n : Nat} (h : off + n ≤ 264) : sub (profiled.profImage 0) off n = sub prof0Head off n := by
  have hl := prof0_len
  rw [prof0_image]
  unfold sub
  rw [List.drop_append_of_le_length (by omega), List.take_append_of_le_length (by simp; omega)]

theorem prof0_drop : (profiled.profImage 0).drop 264 = List.replicate 2808 0 := by
  rw [prof0_image]
  exact List.drop_left' prof0_len

theorem prof0_recs : profRecs (profiled.profImage 0) = some [⟨0x20000, 1, [0]⟩] := by
  have hd : ∀ b : Bytes, ∀ i, leAt (b.drop i) 0 4 = leAt b i 4 := by
    intro b i; simp [leAt, sub]
  have h : ∀ off n, off + n ≤ 264 → leAt (profiled.profImage 0) off n = leAt prof0Head off n := by
    intro off n hn; unfold leAt; rw [prof0_sub hn]
  unfold profRecs
  rw [h 10 2 (by decide), show leAt prof0Head 10 2 = 2 by decide +kernel]
  simp only [words32, hd, List.drop_drop]
  rw [h 256 4 (by decide), h _ 4 (by decide)]
  decide +kernel

theorem prof0_check : profiled.profCheck 0 = 0 := by
  have h : ∀ off n, off + n ≤ 264 → leAt (profiled.profImage 0) off n = leAt prof0Head off n := by
    intro off n hn; unfold leAt; rw [prof0_sub hn]
  have hz : ∀ n, allZero (List.replicate n 0) = true := by simp [allZero]
  have hres : profReservedOk (profiled.profImage 0) = true := by
    unfold profReservedOk
    rw [h 6 1 (by decide), h 7 1 (by decide), h 8 2 (by decide), h 10 2 (by decide), prof0_sub (by decide : 32 + 32 ≤ 264),
      prof0_sub (by decide : 136 + 120 ≤ 264), show 256 + 4 * min 704 (leAt prof0Head 10 2) = 264 by decide +kernel, prof0_drop, hz]
    decide +kernel
  unfold State.profCheck
  simp only [hres, prof0_recs]
  rw [prof0_sub (by decide : 0 + 4 ≤ 264), h 4 2 (by decide), h 8 2 (by decide), h 7 1 (by decide)]
  decide +kernel
theorem profCheck_of {s t : State} (h1 : s.snvm = t.snvm) (h2 : s.fuses = t.fuses) (k : Nat) : s.profCheck k = t.profCheck k := by
  unfold State.profCheck State.profImage State.progOk
  rw [h1, h2]
theorem begun_snvm (s : State) : (cmd.begun s).snvm = s.snvm ∧ (cmd.begun s).fuses = s.fuses := ⟨rfl, rfl⟩
theorem prof0_next : ((cmd.begun profiled).checkProf cmd.a.toNat).1 = 0 := by
  have h : cmd.a.toNat = 0 := by decide
  have e := profCheck_of (begun_snvm profiled).1 (begun_snvm profiled).2 0
  dsimp only [State.checkProf]
  rw [h]
  exact e.trans prof0_check

/-- A record image that waits, an epoch in force, and a port in UP with its pool. -/
def img : Image := ⟨true, trImport, [], false, 0⟩
def awaits : State :=
  { up with
    recd := { up.recd with queue := [{ img with awaited := true }], writing := some ⟨0, 0⟩ }
    ato := { up.ato with wait := some true } }
def epoch0 : Epoch := ⟨0, 0, 0, 3, true, false, 1, 0, 0⟩
def timed : State := { up with cyc := 1, tb := { up.tb with cur := some epoch0, hist := [⟨epoch0, epoch0, 0⟩] } }

/-- LOCKED under that epoch from raw time 0 on, with the learning enabled. -/
def learns : State :=
  fix (aon timed) [(F.AT_CTRL_LEARN_EN, 1, 0), (F.TB_STATUS_STATE, tbLocked, 0), (F.AT_STAT_MAIN, 1, 0)]

def inState (st : Nat) : State := fix up [(F.TB_STATUS_STATE, st, 0)]
def port (n : Nat) (l : List (Fld × Nat × Nat)) : State :=
  fix up ([(F.STR_STATUS_STATE, psUp, n), (F.STR_STATUS_L_LOCK, 1, n), (F.STR_STATUS_H_LOCK, 1, n), (F.STR_POOL_RESV, 64, n)] ++ l)

/-- Frames of 64 octets: of class C4, of EtherType 0x88B5, a two-step Sync, one with a malformed suffix, and a discovery frame. -/
def frameC4 : Bytes := List.replicate 64 5
def frame88B5 : Bytes := List.replicate 12 5 ++ [0x88, 0xB5] ++ List.replicate 50 5
def withFcs (d : Bytes) : Bytes := d ++ fcsOf d
def syncMsg (tail : Bytes) : Bytes := [0x00, 2] ++ be 2 44 ++ [0, 0, 2, 0] ++ be 8 0x10000 ++ be 4 0 ++ List.replicate 10 7 ++ be 2 77 ++ [0, 0] ++ tail
def onWire (m : Bytes) : RxFrame := rx (withFcs (List.replicate 12 1 ++ [0x88, 0xF7] ++ m ++ [0, 0]))
def sync : RxFrame := onWire (syncMsg (be 6 100 ++ be 4 5))
def badSync : RxFrame := onWire (syncMsg (be 6 100 ++ be 4 0xFFFFFFFF))
def slave (n : Nat) (l : List (Fld × Nat × Nat)) : State :=
  (port n ([(F.PTP_CTRL_DOMAIN, 0, 0), (F.PTP_CTRL_PROFILE, 0, 0), (F.PTP_CTRL_MAJOR_SDO, 0, 0),
    (F.PTP_PCTRL_ROLE, 1, n), (F.STR_PARSE_ETH, 1, n), (F.STR_INJ_INJ_HOLD, 500, n)] ++ l)).modPtp n
    (fun p => { p with master := some (List.replicate 10 7) })
def disc (type nonce echo : Nat) : RxFrame :=
  rx (withFcs (be 6 0x0180C200000E ++ be 6 1 ++ be 2 0x88B5 ++ be 2 0x5350 ++ [1, BitVec.ofNat 8 type] ++ be 8 9 ++ be 2 3 ++ be 4 nonce
    ++ be 4 echo ++ List.replicate 24 0))

/-- A session in a state, and a block of it. -/
def inSess (n st : Nat) (f : Spx → Spx) : State :=
  (port n [(F.SPX_STATUS_SESS, st, n), (F.STR_INJ_INJ_HOLD, 500, n)]).modSpx n f

/-- Source 7 eligible, the software's proposals in force, the DPLL in a state, and a generator that waits. -/
def eligible7 : State :=
  fix (port 31 [(F.SPX_STATUS_SESS, sessRun, 31)]) [(F.SRV_SRC_EN, 1, 7), (F.SRV_SRC_PORT, 31, 7), (F.SRV_SRC_METHOD, 1, 7),
    (F.SPX_STATUS_REC_VALID, 1, 31), (F.SPX_PINFO_SRC, 0, 31)]
def proposes (st : Nat) : State := fix up [(F.SRV_CTRL_XEN, 1, 0), (F.SRV_XCTRL_HW_PROP, 0, 0), (F.TB_STATUS_STATE, st, 0)]
def dpll (st : Nat) : State :=
  { fix up [(F.CK_STATUS_DPLL, st, 0), (F.CK_FSRC_EN, 1, 0), (F.CK_STATUS_SYN_LOCK, 1, 0), (F.CK_STATUS_FSEL_VALID, 1, 0)] with
    ck := { up.ck with qual := 1, everSel := true } }
def waiting (g : Nat) (l : List (Fld × Nat × Nat)) : State :=
  { fix up l with ck := { up.ck with gens := [(g, { Gen.idle with waiting := some 0, next := some (0, true) })] } }

/-- An entry of the action table that raises a ball at a raw time, its occurrence in the stage, and a 64-octet image of it. -/
def act0 : Action := ⟨30000000000, 0, 0, 2, [⟨opEdgeHi, 3, 0, 0⟩], 0, true, 0⟩
def armed (errs : List (Nat × Nat)) : State :=
  { timed with ta := { timed.ta with table := [(5, act0)] }, mem := { timed.mem with errs := errs } }
def occ0 : Staged := ⟨5, act0, 30000000000, 0, false, [false]⟩
def staged (halt : Nat) : State :=
  { fix timed [(F.TA_TIO_CTRL_MODE, 2, 3), (F.CK_STATUS_HALT, halt, 0)] with
    ta := { timed.ta with stage := [occ0] } }
def image (n op res : Nat) : Cmd :=
  { cmd with a := BitVec.ofNat 32 (65536 * n), data := (List.replicate n (le 10 77777 ++ le 2 0 ++ le 6 1000000 ++ le 4 3 ++ le 2 2
    ++ [BitVec.ofNat 8 op, BitVec.ofNat 8 res] ++ List.replicate 38 0)).flatten }

/-- Capture unit 15 on ball 15, and its full FIFO before its event ring. -/
def captures : State :=
  { fix up [(F.TA_TIO_CTRL_MODE, 1, 15), (F.TA_CU_CTRL_EN, 1, 15), (F.TA_CU_CTRL_SRC, 15, 15), (F.TA_CU_CTRL_EDGE, 3, 15)] with
    ta := { up.ta with cus := [(15, ⟨List.replicate 63 ⟨true, 1, 0, 5⟩, 65535, 3, 0, none⟩)] } }
def delivers : State :=
  { fix captures [(F.HIF_RING_CFG_EN, 1, 128), (F.HIF_RING_CFG_LOG2, 5, 128), (F.TA_CU_CTRL_RING, 0, 15)] with
    hif := { up.hif with swPtr := [(128, 31)] }, ta := { up.ta with cus := [(15, ⟨[⟨true, 1, 0, 5⟩], 2, 0, 0, none⟩)] } }

/-- A ring with descriptors, the resources of each kind held by an agent, and the sideband of a device that answers. -/
def rung (r : Nat) : State :=
  { fix up [(F.HIF_RING_CFG_EN, 1, r), (F.HIF_RING_CFG_LOG2, 4, r), (F.HIF_RING_CFG_CPSEL, 0, r), (F.HIF_RING_CFG_EN, 1, 32),
      (F.HIF_RING_CFG_LOG2, 4, 32)] with hif := { up.hif with swPtr := Store.set 0 [(r, 5)] 32 5 } }
def claimed (owner : Nat) : State := fix up [(F.TA_CLAIM_OWNER, owner, claimPort 31), (F.TA_CLAIM_OWNER, owner, claimCko 7),
  (F.TA_CLAIM_OWNER, owner, claimCu 15), (F.TA_CLAIM_OWNER, owner, claimLq 127), (F.STR_CTRL_EN, 1, 31), (F.CK_CKO_CTRL_EN, 1, 7),
  (F.TA_CU_CTRL_EN, 1, 15), (F.TA_LQ_CTRL_EN, 1, 127), (F.TA_TIO_CTRL_MODE, 1, 0)]
def sbDown (addr : Nat) : State := { lrn with sb := { lrn.sb with readAddr := addr } }

/-- A statement about every value that is there holds of none. -/
theorem of_none {α : Type} {o : Option α} {P : α → Prop} (h : o = none) : ∀ t, o = some t → P t := by
  intro t ht
  rw [h] at ht
  cases ht

/-! ### Witnesses: for each clause of a statement, a state and operands that meet its hypotheses. -/

theorem witness_IdleStepIsOneCycle :
    (∃ s : State, s.pending = [] ∧ s.mainUp = false) ∧
    (∃ s : State, s.pending = [] ∧ s.mainUp = true) :=
  ⟨⟨stb, by decide +kernel⟩,
    ⟨up, by decide +kernel⟩⟩

theorem witness_EveryStepKeepsTidy :
    ∃ s t : State, s.tidy = true ∧ step s = .next t :=
  ⟨{ up with pending := [.mainReset] }, after .mainReset up, by decide +kernel, rfl⟩

theorem witness_EveryStepKeepsIdentityAndOutputs :
    ∃ s t : State, step s = .next t :=
  ⟨{ up with pending := [.mainReset] }, after .mainReset up, rfl⟩

theorem witness_MainResetClearsMainOnly :
    ∃ s : State, s.stbyUp = true :=
  ⟨up, by decide +kernel⟩

theorem witness_PowerOnResetsClearTheirDomains :
    ∃ s : State, s.pwr.stby ≠ .off :=
  ⟨stb, by decide +kernel⟩

theorem witness_InterfaceAndManualResetsStayInside :
    (∃ s : State, s.tidy = true ∧ s.mainUp = true) ∧
    (∃ s : State, s.tidy = true ∧ s.stbyUp = true ∧ s.coreGood = true) ∧
    (∃ s : State, s.tidy = true ∧ s.stbyUp = true ∧ s.coreGood = false) ∧
    (∃ s : State, s.stbyUp = true ∧ s.seq = sqRun ∧ s.pwr.mrHeld = false) :=
  ⟨⟨up, by decide +kernel⟩,
    ⟨powered, by decide +kernel⟩,
    ⟨stb, by decide +kernel⟩,
    ⟨fix powered [(F.SQ_STATUS_SEQ, sqRun, 0)], by decide +kernel⟩⟩

theorem witness_StartUpRunsInOrder :
    (∃ s : State, s.pwr.stby = .off) ∧
    (∃ (s : State), s.pwr.stby = .held) ∧
    (∃ (s : State), s.stbyUp = true ∧ s.coreGood = true ∧ s.pwr.synStarted = false ∧ s.mainUp = false) ∧
    (∃ s : State, s.tidy = true ∧ s.stbyUp = true ∧ s.coreGood = true ∧ s.pwr.synStarted = true ∧ s.pwr.mrHeld = false ∧
      s.pwr.scanHeld = false ∧ s.mainUp = false) ∧
    (∃ s : State, s.mainUp = true ∧ s.pwr.step10 = false ∧ s.cal.run = none ∧ s.pwr.loadWait = false) ∧
    (∃ (r : CalRun) (s : State), s.mainUp = true ∧ s.cal.run = some r ∧ s.cal.due = [] ∧ r.kind = 1 ∧ s.pwr.step10 = false ∧
      s.tidy = true ∧ s.pwr.aonUp = true ∧ s.tbState = tbCold ∧ s.tb.cur = none ∧ s.on F.AT_STAT_CELL_LOSS = false ∧ s.on
      F.AT_STAT_APOR = false ∧ s.on F.MON_AT_STAT_CAL_INV = false) ∧
    (∃ s : State, s.mainUp = true ∧ s.pwr.step10 = false ∧ s.cal.run = none ∧ s.pwr.loadWait = true ∧ s.loadBusy = true) :=
  ⟨⟨State.reset, by decide +kernel⟩,
    ⟨{ State.reset with pwr := { State.reset.pwr with stby := .held } }, by decide +kernel⟩,
    ⟨powered, by decide +kernel⟩,
    ⟨{ powered with pwr := { powered.pwr with synStarted := true } }, by decide +kernel⟩,
    ⟨{ up with pwr := { up.pwr with step8 := false, step10 := false } }, by decide +kernel⟩,
    ⟨pcr, calm [(F.AT_STAT_CELL_LOSS, 0, 0), (F.AT_STAT_APOR, 0, 0)], by decide +kernel⟩,
    ⟨{ up with pwr := { up.pwr with step8 := false, step10 := false, loadWait := true }, snvm := { up.snvm with op := some (256, []) } }, by decide +kernel⟩⟩

theorem witness_NoSeedFromADoubtfulAtoll :
    (∃ (r : CalRun) (s : State), s.tidy = true ∧ s.mainUp = true ∧ s.cal.run = some r ∧ r.kind = 1 ∧ s.pwr.step10 = false ∧
      s.tbState = tbCold ∧ s.tb.cur = none ∧ (s.on F.AT_STAT_CELL_LOSS = true ∨ s.on F.AT_STAT_APOR = true ∨ s.on
      F.MON_AT_STAT_CAL_INV = true)) ∧
    (∃ (r : CalRun) (s : State), s.tidy = true ∧ s.mainUp = true ∧ s.cal.run = some r ∧ r.kind = 1 ∧ s.pwr.step10 = false ∧
      s.tbState = tbCold ∧ s.tb.cur = none ∧ (s.on F.AT_STAT_CELL_LOSS = true ∨ s.on F.AT_STAT_APOR = true ∨ s.on
      F.MON_AT_STAT_CAL_INV = true)) ∧
    (∃ (r : CalRun) (s : State), s.tidy = true ∧ s.mainUp = true ∧ s.cal.run = some r ∧ r.kind = 1 ∧ s.pwr.step10 = false ∧
      s.tbState = tbCold ∧ s.tb.cur = none ∧ (s.on F.AT_STAT_CELL_LOSS = true ∨ s.on F.AT_STAT_APOR = true ∨ s.on
      F.MON_AT_STAT_CAL_INV = true)) :=
  ⟨⟨pcr, calm [(F.AT_STAT_CELL_LOSS, 1, 0), (F.AT_STAT_APOR, 0, 0)], by decide +kernel⟩,
    ⟨pcr, calm [(F.AT_STAT_CELL_LOSS, 0, 0), (F.AT_STAT_APOR, 1, 0)], by decide +kernel⟩,
    ⟨pcr, calm [(F.AT_STAT_CELL_LOSS, 0, 0), (F.AT_STAT_APOR, 0, 0), (F.MON_AT_STAT_CAL_INV, 1, 0)], by decide +kernel⟩⟩

theorem witness_SupplyEventsActAsTabled :
    (∃ s : State, s.tidy = true ∧ s.pwr.aonUp = true ∧ s.on F.AT_STAT_SRC = false) ∧
    (∃ s : State, s.tidy = true ∧ s.pwr.aonUp = true ∧ s.on F.AT_STAT_SRC = true) ∧
    (∃ (mv : Nat) (s : State), s.tidy = true ∧ s.pwr.aonUp = true ∧ mv < 2200 ∧ s.on F.AT_STAT_VBAT_LOW = true) ∧
    (∃ (mv : Nat) (s : State), s.tidy = true ∧ s.pwr.aonUp = true ∧ 2300 < mv) ∧
    (∃ s : State, (∀ n, s.noPortFollows n) ∧ s.tidy = true ∧ s.stbyUp = true ∧ s.pwr.aonUp = true ∧ s.on F.AT_STAT_MAIN = true) ∧
    (∃ s : State, s.tidy = true ∧ s.stbyUp = true ∧ s.seq = sqCollapsed ∧ s.on F.SQ_CTRL_AUTO_ON = true ∧ s.sq.progOk = true ∧
      s.sq.learned = true) ∧
    (∃ s : State, s.tidy = true ∧ s.stbyUp = true ∧ s.seq = sqCollapsed ∧ s.on F.SQ_CTRL_AUTO_ON = false ∧ s.on F.SQ_STATUS_ON_PEND = false) ∧
    (∃ s : State, s.tidy = true ∧ s.stbyUp = true ∧ s.seq = sqCollapsed ∧ s.on F.SQ_STATUS_ON_PEND = true ∧ s.sq.progOk = true ∧
      s.sq.learned = true) :=
  ⟨⟨fix up [(F.AT_STAT_SRC, 0, 0)], by decide +kernel⟩,
    ⟨fix up [(F.AT_STAT_SRC, 1, 0)], by decide +kernel⟩,
    ⟨2199, fix up [(F.AT_STAT_VBAT_LOW, 1, 0)], by decide +kernel⟩,
    ⟨2301, fix up [(F.AT_STAT_VBAT_LOW, 1, 0)], by decide +kernel⟩,
    ⟨fix stb [(F.AT_STAT_MAIN, 1, 0)], fun n => State.noPortFollows_of_down rfl n, by decide +kernel⟩,
    ⟨fix lrn [(F.SQ_STATUS_SEQ, sqCollapsed, 0), (F.SQ_CTRL_AUTO_ON, 1, 0)], by decide +kernel⟩,
    ⟨fix stb [(F.SQ_STATUS_SEQ, sqCollapsed, 0), (F.SQ_CTRL_AUTO_ON, 0, 0)], by decide +kernel⟩,
    ⟨fix lrn [(F.SQ_STATUS_SEQ, sqCollapsed, 0), (F.SQ_STATUS_ON_PEND, 1, 0), (F.SQ_CTRL_AUTO_ON, 0, 0)], by decide +kernel⟩⟩

theorem witness_CascadeLearnsItsPosition :
    (∃ s : State, s.tidy = true ∧ s.stbyUp = true ∧ s.sq.learned = false ∧ s.on F.SQ_STATUS_CASC_ERR = false) ∧
    (∃ s : State, s.stbyUp = true ∧ s.sq.learned = true) ∧
    (∃ (p : Nat) (s : State), s.tidy = true ∧ s.stbyUp = true ∧ s.sq.learned = false ∧ s.on F.SQ_STATUS_CASC_ERR = false ∧ 0 < p
      ∧ p < 15 ∧ s.sq.lastTrain = none) ∧
    (∃ (p : Nat) (s : State), s.tidy = true ∧ s.stbyUp = true ∧ s.sq.learned = false ∧ s.on F.SQ_STATUS_CASC_ERR = false ∧ 0 < p
      ∧ p < 15 ∧ s.sq.lastTrain = some p) ∧
    (∃ (p : Nat) (s : State), (15 ≤ p ∨ ∃ q, s.sq.lastTrain = some q ∧ q ≠ p) ∧ s.tidy = true ∧ s.stbyUp = true ∧ s.sq.learned =
      false ∧ s.on F.SQ_STATUS_CASC_ERR = false ∧ 0 < p) ∧
    (∃ (p : Nat) (s : State), (15 ≤ p ∨ ∃ q, s.sq.lastTrain = some q ∧ q ≠ p) ∧ s.tidy = true ∧ s.stbyUp = true ∧ s.sq.learned =
      false ∧ s.on F.SQ_STATUS_CASC_ERR = false ∧ 0 < p) :=
  ⟨⟨stb, by decide +kernel⟩,
    ⟨lrn, by decide +kernel⟩,
    ⟨14, stb, by decide +kernel⟩,
    ⟨14, { stb with sq := { stb.sq with lastTrain := some 14 } }, by decide +kernel⟩,
    ⟨15, stb, .inl (by decide), by decide +kernel⟩,
    ⟨1, { stb with sq := { stb.sq with lastTrain := some 14 } }, .inr ⟨14, by decide, by decide⟩, by decide +kernel⟩⟩

theorem witness_SequencerStatesStep :
    (∃ s : State, (∀ n, s.noPortFollows n) ∧ s.tidy = true ∧ s.stbyUp = true ∧ s.seq = sqOff ∧ s.sq.learned = true ∧ s.sq.progOk
      = true) ∧
    (∃ s : State, (∀ n, s.noPortFollows n) ∧ s.tidy = true ∧ s.stbyUp = true ∧ s.seq = sqRun) ∧
    (∃ s : State, (∀ n, s.noPortFollows n) ∧ s.tidy = true ∧ s.stbyUp = true ∧ s.workDone = true ∧ s.seq = sqUp ∧ s.on
      F.SQ_STATUS_OFF_PEND = false ∧ s.sq.failC = false ∧ s.gstate < 254) ∧
    (∃ s : State, (∀ n, s.noPortFollows n) ∧ s.tidy = true ∧ s.stbyUp = true ∧ s.workDone = true ∧ s.seq = sqUp ∧ s.on
      F.SQ_STATUS_OFF_PEND = false ∧ s.sq.failC = false ∧ s.gstate = 254) ∧
    (∃ (s : State), (∀ n, s.noPortFollows n) ∧ s.tidy = true ∧ s.stbyUp = true ∧ s.workDone = true ∧ s.seq = sqDown ∧ 1 <
      s.gstate) ∧
    (∃ (s : State), (∀ n, s.noPortFollows n) ∧ s.tidy = true ∧ s.stbyUp = true ∧ s.workDone = true ∧ s.seq = sqDown ∧ s.gstate =
      1) ∧
    (∃ s : State, s.tidy = true ∧ s.stbyUp = true ∧ s.seq = sqOffmin ∧ s.on F.SQ_STATUS_LOCK_PEND = true) ∧
    (∃ s : State, s.tidy = true ∧ s.stbyUp = true ∧ s.seq = sqOffmin ∧ s.on F.SQ_STATUS_LOCK_PEND = false) ∧
    (∃ s : State, s.tidy = true ∧ s.seq = sqRun) :=
  ⟨⟨fix lrn [(F.SQ_STATUS_SEQ, sqOff, 0)], fun n => State.noPortFollows_of_down rfl n, by decide +kernel⟩,
    ⟨fix lrn [(F.SQ_STATUS_SEQ, sqRun, 0)], fun n => State.noPortFollows_of_down rfl n, by decide +kernel⟩,
    ⟨fix lrn [(F.SQ_STATUS_SEQ, sqUp, 0), (F.SQ_STATUS_STATE, 253, 0)], fun n => State.noPortFollows_of_down rfl n,
      by decide +kernel⟩,
    ⟨fix lrn [(F.SQ_STATUS_SEQ, sqUp, 0), (F.SQ_STATUS_STATE, 254, 0)], fun n => State.noPortFollows_of_down rfl n,
      by decide +kernel⟩,
    ⟨fix lrn [(F.SQ_STATUS_SEQ, sqDown, 0), (F.SQ_STATUS_STATE, 2, 0)], fun n => State.noPortFollows_of_down rfl n,
      by decide +kernel⟩,
    ⟨fix lrn [(F.SQ_STATUS_SEQ, sqDown, 0), (F.SQ_STATUS_STATE, 1, 0)], fun n => State.noPortFollows_of_down rfl n,
      by decide +kernel⟩,
    ⟨fix lrn [(F.SQ_STATUS_SEQ, sqOffmin, 0), (F.SQ_STATUS_LOCK_PEND, 1, 0)], by decide +kernel⟩,
    ⟨fix lrn [(F.SQ_STATUS_SEQ, sqOffmin, 0)], by decide +kernel⟩,
    ⟨fix lrn [(F.SQ_STATUS_SEQ, sqRun, 0)], by decide +kernel⟩⟩

theorem witness_RailChannelsFollowTheirTable :
    (∃ (n : Nat) (s : State), s.noPortFollows n ∧ s.tidy = true ∧ s.stbyUp = true ∧ n < s.fuses.variant.rails ∧ s.sensed n = true
      ∧ s.on F.SQ_RAIL_CFG_CORE n = false ∧ s.on F.TST_VSN_ARMED = false ∧ s.railSt n = railRamp ∧ s.sq.onQ = []) ∧
    (∃ (n : Nat) (s : State), s.noPortFollows n ∧ s.tidy = true ∧ s.stbyUp = true ∧ n < s.fuses.variant.rails ∧ s.sensed n = true
      ∧ s.on F.SQ_RAIL_CFG_CORE n = false ∧ s.on F.TST_VSN_ARMED = false ∧ s.railSt n = railRamp ∧ s.on F.SQ_RAIL_CFG_CLASS n =
      false) ∧
    (∃ (n : Nat) (s : State), s.noPortFollows n ∧ s.tidy = true ∧ s.stbyUp = true ∧ n < s.fuses.variant.rails ∧ s.sensed n = true
      ∧ s.on F.SQ_RAIL_CFG_CORE n = false ∧ s.on F.TST_VSN_ARMED = false ∧ s.railSt n = railGood ∧ s.on F.SQ_RAIL_CFG_CLASS n =
      false) ∧
    (∃ (n : Nat) (s : State), ∃ good : Bool, s.noPortFollows n ∧ s.tidy = true ∧ s.stbyUp = true ∧ n < s.fuses.variant.rails ∧
      s.sensed n = true ∧ s.on F.SQ_RAIL_CFG_CORE n = false ∧ s.on F.TST_VSN_ARMED = false ∧ s.railSt n = railRamp ∧ s.on
      F.SQ_RAIL_ST_GOOD_CMP n ≠ good ∧ s.get F.SQ_RAIL_ST_CHAT n + 1 ≤ s.eff F.SQ_TIME1_CHAT_MAX) ∧
    (∃ (n : Nat) (s : State), ∃ good : Bool, s.noPortFollows n ∧ s.tidy = true ∧ s.stbyUp = true ∧ n < s.fuses.variant.rails ∧
      s.sensed n = true ∧ s.on F.SQ_RAIL_CFG_CORE n = false ∧ s.on F.TST_VSN_ARMED = false ∧ s.railSt n = railRamp ∧ s.on
      F.SQ_RAIL_ST_GOOD_CMP n ≠ good ∧ s.eff F.SQ_TIME1_CHAT_MAX < s.get F.SQ_RAIL_ST_CHAT n + 1 ∧ s.on F.SQ_RAIL_CFG_CLASS n =
      false) ∧
    (∃ (n : Nat) (s : State), s.noPortFollows n ∧ s.tidy = true ∧ s.stbyUp = true ∧ n < s.fuses.variant.rails ∧ s.sensed n = true
      ∧ s.on F.SQ_RAIL_CFG_CORE n = false ∧ s.on F.TST_VSN_ARMED = false ∧ s.railSt n = railGood ∧ s.on F.SQ_RAIL_ST_GOOD_CMP n =
      false) ∧
    (∃ (n : Nat) (s : State), s.noPortFollows n ∧ s.tidy = true ∧ s.stbyUp = true ∧ n < s.fuses.variant.rails ∧ s.sensed n = true
      ∧ s.on F.SQ_RAIL_CFG_CORE n = false ∧ s.on F.TST_VSN_ARMED = false ∧ s.railSt n = railFalling ∧ s.sq.offQ = [] ∧ s.sq.onQ =
      [] ∧ (s.seq = sqUp → s.onG n ≠ s.gstate)) ∧
    (∃ (n : Nat) (s : State), s.tidy = true ∧ n < 24 ∧ s.sensed n = true ∧ s.on F.SQ_RAIL_CFG_CORE n = true ∧ s.railSt n =
      railGood) ∧
    (∃ (n : Nat) (s : State), s.noPortFollows n ∧ s.tidy = true ∧ s.stbyUp = true ∧ n < s.fuses.variant.rails ∧ s.sensed n = true
      ∧ s.on F.SQ_RAIL_CFG_CORE n = false ∧ s.on F.TST_VSN_ARMED = false ∧ s.railSt n = railFalling ∧ s.sq.offQ = [] ∧ s.sq.onQ =
      [] ∧ s.seq = sqUp ∧ s.sq.failC = false ∧ s.onG n = s.gstate ∧ s.on F.SQ_RAIL_ST_HELD n = false) ∧
    (∃ (n : Nat) (s : State), s.tidy = true ∧ n < 24 ∧ s.sensed n = true ∧ s.on F.SQ_RAIL_CFG_CLASS n = true ∧ s.on F.TST_VSN_ARMED =
      false ∧ s.railSt n = railRamp) ∧
    (∃ (n : Nat) (s : State), s.tidy = true ∧ n < 24 ∧ s.sensed n = true ∧ s.on F.SQ_RAIL_CFG_CLASS n = true ∧ s.on F.TST_VSN_ARMED =
      false ∧ s.railSt n = railGood ∧ s.sq.offQ = [] ∧ (s.get F.SQ_RAIL_DEP_DEP n).testBit 22 = true
      ∧ (s.get F.SQ_RAIL_DEP_DEP n).testBit 21 = false ∧ s.mainUp = true ∧ (∀ k : Nat, k < 24 → s.on F.SQ_RAIL_CFG_CORE k = false) ∧ 0 < s.fuses.variant.ports ∧ s.on
      F.STR_CTRL_AUTO 0 = true ∧ s.get F.STR_CTRL_RAIL 0 = n ∧ s.pstate 0 ≠ psCal) ∧
    (∃ (n : Nat) (s : State), s.noPortFollows n ∧ s.tidy = true ∧ s.stbyUp = true ∧ n < s.fuses.variant.rails ∧ s.railUsed n = true ∧
      s.on F.SQ_RAIL_CFG_NOSENSE n = true ∧ s.on F.TST_VSN_ARMED = false ∧ s.railSt n = railRamp ∧ s.sq.onQ = []) ∧
    (∃ (n : Nat) (s : State), s.noPortFollows n ∧ s.tidy = true ∧ s.stbyUp = true ∧ n < s.fuses.variant.rails ∧ s.railUsed n = true ∧
      s.on F.SQ_RAIL_CFG_NOSENSE n = true ∧ s.on F.TST_VSN_ARMED = false ∧ s.railSt n = railFalling ∧ s.sq.offQ = [] ∧ s.sq.onQ = [] ∧ (s.seq = sqUp → s.onG n ≠ s.gstate)) :=
  ⟨⟨23, rail railRamp 23, State.noPortFollows_of_down rfl _, by decide +kernel⟩,
    ⟨23, rail railRamp 23, State.noPortFollows_of_down rfl _, by decide +kernel⟩,
    ⟨0, rail railGood 0, State.noPortFollows_of_down rfl _, by decide +kernel⟩,
    ⟨0, rail railRamp 0, true, State.noPortFollows_of_down rfl _, by decide +kernel⟩,
    ⟨23, fix (rail railRamp 23) [(F.SQ_RAIL_ST_CHAT, 255, 23)], true, State.noPortFollows_of_down rfl _, by decide +kernel⟩,
    ⟨23, rail railGood 23, State.noPortFollows_of_down rfl _, by decide +kernel⟩,
    ⟨23, rail railFalling 23, State.noPortFollows_of_down rfl _, by decide +kernel⟩,
    ⟨0, fix (rail railGood 0) [(F.SQ_RAIL_CFG_CORE, 1, 0)], by decide +kernel⟩,
    ⟨23, fix (rail railFalling 23) [(F.SQ_STATUS_SEQ, sqUp, 0), (F.SQ_RAIL_CFG_ON_STEP, 5, 23), (F.SQ_STATUS_STATE, 5, 0)],
      State.noPortFollows_of_down rfl _, by decide +kernel⟩,
    ⟨23, fix (rail railRamp 23) [(F.SQ_RAIL_CFG_CLASS, 1, 23)], by decide +kernel⟩,
    ⟨23, { fix (rail railGood 23) [(F.SQ_RAIL_CFG_CLASS, 1, 23), (F.SQ_RAIL_DEP_DEP, 2 ^ 22, 23), (F.STR_CTRL_AUTO, 1, 0),
      (F.STR_CTRL_RAIL, 23, 0)] with pwr := up.pwr }, by decide +kernel⟩,
    ⟨23, fix (rail railRamp 23) [(F.SQ_RAIL_CFG_NOSENSE, 1, 23)], State.noPortFollows_of_down rfl _, by decide +kernel⟩,
    ⟨0, fix (rail railFalling 0) [(F.SQ_RAIL_CFG_NOSENSE, 1, 0)], State.noPortFollows_of_down rfl _, by decide +kernel⟩⟩

theorem witness_PushButtonActsAsTabled :
    (∃ s : State, s.tidy = true ∧ s.stbyUp = true ∧ s.sq.progOk = true ∧ s.sq.learned = true ∧ (s.seq = sqOff ∨ s.seq =
      sqFaultOff) ∧ s.seq = sqFaultOff) ∧
    (∃ s : State, s.tidy = true ∧ s.stbyUp = true ∧ s.seq = sqRun ∧ s.sq.btn = true ∧ s.sq.btnLong = false ∧ s.on
      F.SQ_CTRL_BTN_OFF = true) ∧
    (∃ s : State, s.tidy = true ∧ s.stbyUp = true ∧ s.seq = sqRun ∧ s.sq.btn = true ∧ s.sq.btnLong = false ∧ s.on
      F.SQ_CTRL_BTN_OFF = false) ∧
    (∃ s : State, s.tidy = true ∧ s.seq = sqRun ∧ s.on F.SQ_STATUS_ACK_RUN = true) :=
  ⟨⟨fix lrn [(F.SQ_STATUS_SEQ, sqFaultOff, 0)], by decide +kernel⟩,
    ⟨pressed [(F.SQ_CTRL_BTN_OFF, 1, 0)], by decide +kernel⟩,
    ⟨pressed [(F.SQ_CTRL_BTN_OFF, 0, 0)], by decide +kernel⟩,
    ⟨fix lrn [(F.SQ_STATUS_SEQ, sqRun, 0), (F.SQ_STATUS_ACK_RUN, 1, 0)], by decide +kernel⟩⟩

theorem witness_SupervisorCommandsComplete :
    (∃ (c : Cmd) (s : State), c.admitted s false ∧ c.reservedOk 0 0 0 false = true ∧ s.seq = sqOff ∧ s.sq.progOk = true ∧
      s.sq.learned = true) ∧
    (∃ (c : Cmd) (s : State), c.admitted s false ∧ c.reservedOk 0 0 0 false = true ∧ s.seq = sqFaultOff ∧ s.tidy = true ∧ s.on
      F.SQ_STATUS_ON_PEND = false) ∧
    (∃ (c : Cmd) (s : State), c.admitted s false ∧ c.reservedOk 0 0 0 false = true ∧ s.on F.SQ_STATUS_ACK_RUN = true) ∧
    (∃ (c : Cmd) (s : State), c.admitted s false ∧ s.noPortFollows c.a.toNat ∧ c.reservedOk 0x1F 0 0 false = true ∧ c.a.toNat <
      24 ∧ s.railUsed c.a.toNat = true ∧ s.on F.SQ_RAIL_CFG_CLASS c.a.toNat = true ∧ s.on F.SQ_RAIL_ST_HELD c.a.toNat = true ∧
      s.seq = sqRun ∧ s.railSt c.a.toNat = railOffSt ∧ s.tidy = true) ∧
    (∃ (c : Cmd) (s : State), c.admitted s false ∧ c.reservedOk 0 0 0 false = true ∧ s.seq = sqFaultOff ∧ s.tidy = true ∧ s.on
      F.SQ_STATUS_ON_PEND = true) :=
  ⟨⟨cmd, fix lrnUp [(F.SQ_STATUS_SEQ, sqOff, 0)], admitted_ring 0 rfl (by decide +kernel), by decide +kernel⟩,
    ⟨sbCmd, fix up [(F.SQ_STATUS_SEQ, sqFaultOff, 0)], admitted_sideband rfl (by decide +kernel), by decide +kernel⟩,
    ⟨cmd, fix up [(F.SQ_STATUS_ACK_RUN, 1, 0)], admitted_ring 0 rfl (by decide +kernel), by decide +kernel⟩,
    ⟨{ sbCmd with a := 23 }, fix (rail railOffSt 23) [(F.SQ_STATUS_SEQ, sqRun, 0), (F.SQ_RAIL_CFG_CLASS, 1, 23),
      (F.SQ_RAIL_ST_HELD, 1, 23)], ⟨by decide +kernel, by decide +kernel, nofun⟩, State.noPortFollows_of_down rfl _,
      by decide +kernel⟩,
    ⟨sbCmd, fix up [(F.SQ_STATUS_SEQ, sqFaultOff, 0), (F.SQ_STATUS_ON_PEND, 1, 0)], admitted_sideband rfl (by decide +kernel),
      by decide +kernel⟩⟩

theorem witness_AtollCountsAndTrims :
    (∃ (s : State), s.tidy = true ∧ s.pwr.aonUp = true ∧ s.mainUp = false) ∧
    (∃ s : State, s.tidy = true ∧ s.pwr.aonUp = true ∧ s.ready = true) ∧
    (∃ (lost : List Nat) (s : State), s.tidy = true ∧ s.pwr.aonUp = true ∧ s.on F.AT_CTRL_XEN = false ∧ lost = [] ∧ s.ato.learnt
      = none) :=
  ⟨⟨aon stb, by decide +kernel⟩,
    ⟨aon up, by decide +kernel⟩,
    ⟨[], fix (aon stb) [(F.AT_CTRL_XEN, 0, 0)], by decide +kernel⟩⟩

theorem witness_AtollLearnsMirrorsAndWakes :
    (∃ (start stop : Raw) (first last mean : BitVec 12) (s : State),
      let u := s.reach stop
      let dt := u.zt (u.atollEdge stop) - u.zt (u.atollEdge start)
      let y := roundEven ((524288000000000 - dt) * 2 ^ 30 * tableDen) dt
      let d := y - u.factory (63 * mean.toInt)
      s.tidy = true ∧ u.learnable (u.atollEdge start) first.toInt last.toInt = true ∧ 0 < dt ∧ roundEven (50 * 2 ^ 30 * tableDen)
        1000000 < d.natAbs) ∧
    (∃ (start stop : Raw) (first last mean : BitVec 12) (s : State),
      let u := s.reach stop
      let dt := u.zt (u.atollEdge stop) - u.zt (u.atollEdge start)
      let y := roundEven ((524288000000000 - dt) * 2 ^ 30 * tableDen) dt
      let d := y - u.factory (63 * mean.toInt)
      s.tidy = true ∧ u.learnable (u.atollEdge start) first.toInt last.toInt = true ∧ 0 < dt ∧ (d.natAbs : Int) ≤ roundEven (50 *
        2 ^ 30 * tableDen) 1000000) ∧
    (∃ s : State, s.tidy = true ∧ s.ready = true ∧ s.on F.AT_CTRL_MIRROR_EN = true ∧ s.tbState = tbLocked ∧ s.ato.changed = true) ∧
    (∃ s : State, s.tidy = true ∧ s.ato.wakePulse = true) ∧
    (∃ (ag : Agent) (v : Word) (s : State), s.reaches ag 0xC0004 ∧ s.tidy = true ∧ s.pwr.aonUp = true ∧ v.toNat.testBit 6 = true) ∧
    (∃ (ag : Agent) (v : Word) (s : State), s.reaches ag 0xC0004 ∧ s.tidy = true ∧ s.pwr.aonUp = true ∧ v.toNat.testBit 6 = true) :=
  ⟨⟨5000000000000, 8200640000000, 4, 0, 2, learns, by decide +kernel⟩,
    ⟨5000000000000, 8200000000000, 0, 4, 2, learns, by decide +kernel⟩,
    ⟨{ fix up [(F.AT_CTRL_MIRROR_EN, 1, 0), (F.TB_STATUS_STATE, tbLocked, 0)] with ato := { up.ato with changed := true } },
      by decide +kernel⟩,
    ⟨{ up with ato := { up.ato with wakePulse := true } }, by decide +kernel⟩,
    ⟨.host, 0x40, aon up, reach _ _ (by decide +kernel), by decide +kernel⟩,
    ⟨.sideband, 0x40, aon stb, State.reaches_sideband (by decide +kernel), by decide +kernel⟩⟩

theorem witness_AtollTimeCommandsComplete :
    (∃ (c : Cmd) (s : State), c.admitted s false ∧ s.tidy = true ∧ c.reservedOk 0 (2 ^ 48 - 1) (2 ^ 32 - 1) false = true ∧
      s.pwr.aonUp = true ∧ (s.mainUp = false ∨ s.tbState ≠ tbLocked ∨ s.on F.AT_CTRL_DISC_EN = false) ∧ c.cAt 0 4 ≤ 999999999) ∧
    (∃ (c : Cmd) (s : State), c.admitted s false ∧ s.tidy = true ∧ c.reservedOk 0xFFFF (2 ^ 48 - 1) 0 false = true ∧ s.pwr.aonUp
      = true ∧ c.b.toNat = 0) ∧
    (∃ (c : Cmd) (s : State), c.admitted s false ∧ s.tidy = true ∧ c.reservedOk 0xFFFF (2 ^ 48 - 1) 0 false = true ∧ s.pwr.aonUp
      = true ∧ (signed 16 c.a.toNat - s.int F.AT_UTC_OFS = 1 ∨ signed 16 c.a.toNat - s.int F.AT_UTC_OFS = -1) ∧ s.tai < c.b.toNat
      ∧ ((c.b.toNat : Int) - signed 16 c.a.toNat) % 60 = 0) ∧
    (∃ (c : Cmd) (s : State), c.admitted s false ∧ s.tidy = true ∧ c.reservedOk 0xFFFF (2 ^ 48 - 1) 0 false = true ∧ s.pwr.aonUp
      = true ∧ (signed 16 c.a.toNat - s.int F.AT_UTC_OFS = 1 ∨ signed 16 c.a.toNat - s.int F.AT_UTC_OFS = -1) ∧ s.tai < c.b.toNat
      ∧ ((c.b.toNat : Int) - signed 16 c.a.toNat) % 60 = 0) :=
  ⟨⟨{ cmd with c := 999999999 }, aon up, admitted_ring 0 rfl (by decide +kernel), by decide +kernel⟩,
    ⟨{ cmd with a := 0xFFFF }, aon up, admitted_ring 0 rfl (by decide +kernel), by decide +kernel⟩,
    ⟨{ cmd with a := 1, b := 61 }, aon up, admitted_ring 0 rfl (by decide +kernel), by decide +kernel⟩,
    ⟨{ cmd with a := 0xFFFF, b := 59 }, aon up, admitted_ring 0 rfl (by decide +kernel), by decide +kernel⟩⟩

theorem witness_AtollKeyAndTableCommandsComplete :
    (∃ (c : Cmd) (s : State), c.admitted s true ∧ c.readOk (c.begun s) 32 ∧ s.tidy = true ∧ c.reservedOk 0xFFFF 0 0 true = true ∧
      bits c.a.toNat 0 8 < 4 ∧ bits c.a.toNat 8 8 ≠ 0 ∧ s.ato.resp.testBit 6 = false ∧ s.ready = true ∧ s.pwr.aonUp = true) ∧
    (∃ (c : Cmd) (s : State), c.admitted s false ∧ s.tidy = true ∧ c.reservedOk 0 0 0 false = true ∧ s.pwr.aonUp = true ∧
      s.ato.learnt = none) :=
  ⟨⟨{ cmd with a := 0x0103, data := List.replicate 32 0 }, aon up, admitted_ring 0 rfl (by decide +kernel), readOk_ring 0 rfl
      rfl, by decide +kernel⟩,
    ⟨cmd, aon up, admitted_ring 0 rfl (by decide +kernel), by decide +kernel⟩⟩

theorem witness_MonitorDetectionsConfirm :
    ∃ (us : Nat) (s : State), s.tidy = true ∧ ∀ p ∈ [((0 : Nat), Instr.enclSample true us), (1, .meshSample true us), (2,
      .cellDetection us), (4, .aoscDetection us), (5, .vgltDetection us)], s.msEn p.1 = true ∧ (p.1 < 5 → s.pwr.aonUp = true) ∧
      (p.1 = 5 → s.mainUp = true ∧ s.pwr.step8 = true) ∧ (p.1 = 2 → s.on F.AT_STAT_SRC = false) ∧ s.mon.blind.find? (fun q =>
      decide (q.1 = p.1)) = none ∧ s.msActive p.1 = false ∧ s.msK p.1 ≤ ((us :: (Store.get [] s.mon.dets p.1).filter (fun x =>
      decide (us < x + 1000 * s.msW p.1))).take 255).length :=
  ⟨5, detects, by decide +kernel⟩

theorem witness_ConditionsEndAndSelfTestIsBlind :
    (∃ (k : Nat) (s : State), s.tidy = true ∧ k < 8) ∧
    (∃ s : State, s.tidy = true) ∧
    (∃ (c : Cmd) (s : State), c.admitted s false ∧ s.tidy = true ∧ c.reservedOk 0xFF 0 0 false = true ∧ s.selftestStatus
      c.a.toNat = stOk ∧ c.a.toNat < 5) ∧
    (∃ (k : Nat) (x : SelfTest) (s : State), s.tidy = true ∧ k < 8 ∧ s.mon.blind.find? (fun q => decide (q.1 = k)) = some (k, x)
      ∧ k < 5) ∧
    (∃ (k : Nat) (x : SelfTest) (s : State), s.tidy = true ∧ k < 8 ∧ s.mon.blind.find? (fun q => decide (q.1 = k)) = some (k, x)
      ∧ 5 ≤ k) ∧
    (∃ (k : Nat) (hit : Bool) (x : SelfTest) (s : State), s.tidy = true ∧ k < 8 ∧ s.mon.blind.find? (fun q => decide (q.1 = k)) =
      some (k, x) ∧ s.stbyUp = true ∧ hit || x.hit) ∧
    (∃ (k : Nat) (hit : Bool) (x : SelfTest) (s : State), s.tidy = true ∧ k < 8 ∧ s.mon.blind.find? (fun q => decide (q.1 = k)) =
      some (k, x) ∧ s.stbyUp = true ∧ (hit || x.hit) = false) :=
  ⟨⟨7, up, by decide +kernel⟩,
    ⟨up, by decide +kernel⟩,
    ⟨{ cmd with a := 0 }, detects, admitted_ring 0 rfl (by decide +kernel), by decide +kernel⟩,
    ⟨0, test0, blind 0, by decide +kernel⟩,
    ⟨7, test0, blind 7, by decide +kernel⟩,
    ⟨4, true, test0, blind 4, by decide +kernel⟩,
    ⟨5, false, test0, blind 5, by decide +kernel⟩⟩

theorem witness_HeatAndPowerAreGoverned :
    (∃ (l : List Int) (x : Int) (s : State), s.tidy = true ∧ s.mainUp = true ∧ maxInt (l.zipIdx.map (fun y => s.junction y.2
      y.1)) = some x ∧ x < 2160) ∧
    (∃ (s : State), s.tidy = true ∧ s.mainUp = true) ∧
    (∃ s : State, s.tidy = true ∧ s.mainUp = true ∧ s.on F.MON_CTRL_GOV_EN = true ∧ s.shedAt ≤ s.get F.MON_GOV_STAT_USED ∧ s.get
      F.MON_GOV_LIM_PCONT < s.get F.MON_GOV_STAT_P ∧ s.get F.MON_STATUS_JT_LVL < 2 ∧ s.mon.jtLvl ≤ s.mon.budLvl ∧ s.mon.budLvl <
      4 ∧ s.get F.MON_STATUS_SHED_LVL = s.mon.budLvl) ∧
    (∃ s : State, s.tidy = true ∧ 0 < s.get F.MON_STATUS_SHED_LVL ∧ s.get F.MON_STATUS_SHED_LVL = max s.mon.budLvl s.mon.jtLvl ∧
      s.get F.MON_GOV_STAT_USED ≤ s.restoreAt ∧ s.get F.MON_STATUS_JT_LVL < 2 ∧ s.get F.MON_STATUS_SHED_LVL ≤ 4) :=
  ⟨⟨[2159, 0, -640, 0], 2159, up, by decide +kernel⟩,
    ⟨up, by decide +kernel⟩,
    ⟨sheds, by decide +kernel⟩,
    ⟨{ fix up [(F.MON_STATUS_SHED_LVL, 4, 0)] with mon := { up.mon with budLvl := 4 } }, by decide +kernel⟩⟩

theorem witness_UnionsExecuteTheirResponses :
    (∃ s : State, s.tidy = true ∧ s.pwr.aonUp = true ∧ s.ato.members ≠ 0 ∧ s.on F.AT_STAT_MAIN = false ∧ s.ato.resp.testBit 1 =
      true) ∧
    (∃ s : State, s.tidy = true ∧ s.pwr.aonUp = true ∧ s.ato.members ≠ 0 ∧ s.on F.AT_STAT_MAIN = false ∧ s.ato.resp.testBit 3 =
      true) ∧
    (∃ s : State, s.tidy = true ∧ s.pwr.aonUp = true ∧ s.ato.members ≠ 0 ∧ s.on F.AT_STAT_MAIN = false ∧ s.ato.resp.testBit 6 =
      true) ∧
    (∃ s : State, s.tidy = true ∧ s.pwr.aonUp = true ∧ s.ato.members ≠ 0 ∧ s.on F.AT_STAT_MAIN = true ∧ s.ato.resp = rTaint) ∧
    (∃ s : State, s.tidy = true ∧ s.pwr.aonUp = true ∧ s.ato.members ≠ 0 ∧ s.on F.AT_STAT_MAIN = true ∧ s.ato.resp = rWake) ∧
    (∃ s : State, s.tidy = true ∧ s.pwr.aonUp = true ∧ s.ato.members ≠ 0 ∧ s.on F.AT_STAT_MAIN = true ∧ s.ato.resp = rInt) ∧
    (∃ s : State, s.tidy = true ∧ s.pwr.aonUp = true ∧ s.ato.members ≠ 0 ∧ s.on F.AT_STAT_MAIN = true ∧ s.ato.resp = rZeroize) ∧
    (∃ s : State, s.tidy = true ∧ s.pwr.aonUp = true ∧ s.ato.members ≠ 0 ∧ s.on F.AT_STAT_MAIN = true ∧ s.ato.resp = rLog +
      rReset ∧ s.ato.wait = none) ∧
    (∃ s : State, s.ato.wait = some true) ∧
    (∃ s : State, s.tidy = true ∧ s.ato.wait = some false ∧ s.seq = sqRun) ∧
    (∃ (c : Cmd) (s : State), c.admitted s false ∧ s.tidy = true ∧ c.reservedOk 0x7F 0 0 false = true ∧ c.a.toNat ≠ 0) :=
  ⟨⟨joined rInt 0, by decide +kernel⟩,
    ⟨joined rTaint 0, by decide +kernel⟩,
    ⟨joined rZeroize 0, by decide +kernel⟩,
    ⟨joined rTaint 1, by decide +kernel⟩,
    ⟨joined rWake 1, by decide +kernel⟩,
    ⟨joined rInt 1, by decide +kernel⟩,
    ⟨joined rZeroize 1, by decide +kernel⟩,
    ⟨joined (rLog + rReset) 1, by decide +kernel⟩,
    ⟨{ up with ato := { up.ato with wait := some true } }, by decide +kernel⟩,
    ⟨{ fix up [(F.SQ_STATUS_SEQ, sqRun, 0)] with ato := { up.ato with wait := some false } }, by decide +kernel⟩,
    ⟨{ cmd with a := 0x7F }, up, admitted_ring 0 rfl (by decide +kernel), by decide +kernel⟩⟩

theorem witness_StickyFlagsNeedTheUnlock :
    (∃ (ag : Agent) (v : Word) (us : Nat) (s : State), (s.tellUs us).reaches ag 0xE000C ∧ s.tidy = true ∧ v.toNat % 65536 =
      0x5EA1) ∧
    (∃ (ag : Agent) (v : Word) (us : Nat) (s : State), (s.tellUs us).reaches ag 0xE000C ∧ s.tidy = true ∧ v.toNat % 65536 =
      0x5EA1) ∧
    (∃ (ag : Agent) (v : Word) (us : Nat) (s : State), (s.tellUs us).reaches ag 0xE000C ∧ s.tidy = true ∧ v.toNat % 65536 =
      0x0C1E ∧ Store.get 0 s.mon.unlock (b2n (decide (ag = .sideband))) ≠ 0 ∧ max s.pwr.us us + 1 ≤ Store.get 0 s.mon.unlock (b2n
      (decide (ag = .sideband))) + 1000 ∧ s.mon.holdoff = false) ∧
    (∃ (ag : Agent) (v : Word) (us : Nat) (s : State), (s.tellUs us).reaches ag 0xE000C ∧ s.tidy = true ∧ v.toNat % 65536 =
      0x0C1E ∧ Store.get 0 s.mon.unlock (b2n (decide (ag = .sideband))) ≠ 0 ∧ max s.pwr.us us + 1 ≤ Store.get 0 s.mon.unlock (b2n
      (decide (ag = .sideband))) + 1000 ∧ s.mon.holdoff = true) ∧
    (∃ (ag : Agent) (v : Word) (us : Nat) (s : State), (s.tellUs us).reaches ag 0xE000C ∧ s.tidy = true ∧ v.toNat % 65536 ≠
      0x5EA1 ∧ v.toNat % 65536 ≠ 0x0C1E) ∧
    (∃ (ag : Agent) (v : Word) (n : Nat) (s : State), s.reaches ag 0xE0010 ∧ s.tidy = true ∧ s.on F.MON_STATUS_UNLOCKED = true ∧
      s.get F.MON_STATUS_UNL_AGENT = b2n (decide (ag = .sideband)) ∧ n < 8 ∧ v.toNat.testBit n = true ∧ (s.get
      F.MON_STATUS_ACTIVE).testBit n = false ∧ s.ato.members.testBit n = false ∧ (s.get F.MON_STICKY_MS).testBit n = true) ∧
    (∃ s : State, s.tidy = true) :=
  ⟨⟨.host, 0x5EA1, 0, up, reach _ _ (by decide +kernel), by decide +kernel⟩,
    ⟨.sideband, 0xFFFF5EA1, 0, stb, State.reaches_sideband (by decide +kernel), by decide +kernel⟩,
    ⟨.sideband, 0x0C1E, 1000, { stb with mon := { stb.mon with unlock := [(1, 1)] } }, State.reaches_sideband
      (by decide +kernel), by decide +kernel⟩,
    ⟨.sideband, 0x0C1E, 1000, { stb with mon := { stb.mon with unlock := [(1, 1)], holdoff := true } }, State.reaches_sideband
      (by decide +kernel), by decide +kernel⟩,
    ⟨.host, 0, 0, up, reach _ _ (by decide +kernel), by decide +kernel⟩,
    ⟨.host, 0x80, 7, fix up [(F.MON_STATUS_UNLOCKED, 1, 0), (F.MON_STICKY_MS, 0x80, 0)], reach _ _ (by decide +kernel),
      by decide +kernel⟩,
    ⟨up, by decide +kernel⟩⟩

theorem witness_MemoryTestGoesRound :
    (∃ s : State, s.tidy = true ∧ s.mainUp = true ∧ s.get F.MEM_STATUS_MT_STATE = mtIdle ∧ s.mtMay = true ∧ s.windowRetained
      (s.get F.MEM_MT_WIN_IDX) = false) ∧
    (∃ s : State, s.tidy = true ∧ s.get F.MEM_STATUS_MT_STATE = mtCopy) ∧
    (∃ (s : State), s.tidy = true ∧ s.get F.MEM_STATUS_MT_STATE = mtTest) ∧
    (∃ s : State, s.tidy = true ∧ s.get F.MEM_STATUS_MT_STATE = mtReturn ∧ s.mtMay = true) ∧
    (∃ s : State, s.tidy = true ∧ s.get F.MEM_STATUS_MT_STATE = mtReturn ∧ s.mtMay = false) ∧
    (∃ s : State, s.tidy = true ∧ s.mainUp = true ∧ s.get F.MON_STATUS_JT_LVL < 2 ∧ s.get F.MEM_STATUS_MT_STATE = mtIdle ∧ s.on
      F.MON_CTRL_GOV_EN = true ∧ s.shedAt ≤ s.get F.MON_GOV_STAT_USED ∧ s.mon.below = true ∧ s.mon.budLvl = 0 ∧ s.mon.jtLvl ≤ 4) ∧
    (∃ s : State, s.tidy = true ∧ s.mainUp = true ∧ s.get F.MON_STATUS_JT_LVL < 2 ∧ s.get F.MEM_STATUS_MT_STATE = mtPaused ∧ s.on
      F.MEM_CTRL_MT_EN = true ∧ s.get F.MON_STATUS_SHED_LVL = 1 ∧ s.get F.MON_GOV_STAT_USED ≤ s.restoreAt) :=
  ⟨⟨fix up [(F.MEM_CTRL_MT_EN, 1, 0)], by decide +kernel⟩,
    ⟨fix up [(F.MEM_STATUS_MT_STATE, mtCopy, 0)], by decide +kernel⟩,
    ⟨fix up [(F.MEM_STATUS_MT_STATE, mtTest, 0)], by decide +kernel⟩,
    ⟨fix up [(F.MEM_CTRL_MT_EN, 1, 0), (F.MEM_STATUS_MT_STATE, mtReturn, 0)], by decide +kernel⟩,
    ⟨fix up [(F.MEM_CTRL_MT_EN, 0, 0), (F.MEM_STATUS_MT_STATE, mtReturn, 0)], by decide +kernel⟩,
    ⟨{ fix up [(F.MEM_CTRL_MT_EN, 1, 0), (F.MON_CTRL_GOV_EN, 1, 0), (F.MON_GOV_STAT_USED, 2640, 0)] with
      mon := { up.mon with below := true } }, by decide +kernel⟩,
    ⟨fix up [(F.MEM_CTRL_MT_EN, 1, 0), (F.MEM_STATUS_MT_STATE, mtPaused, 0), (F.MON_STATUS_SHED_LVL, 1, 0)], by decide +kernel⟩⟩

theorem witness_ScrubCorrectsAndGroupsRest :
    (∃ (first count w : Nat) (s : State), s.tidy = true ∧ s.mainUp = true ∧ s.on F.MEM_CTRL_SCRUB_EN = true ∧ s.mtMay = true ∧
      first ≤ w ∧ w < first + count ∧ s.borrowed w = false ∧ s.windowRetained (w / 256) = false ∧ 0 < s.wordErrs (sramKey w) ∧
      s.wordErrs (sramKey w) ≤ 2 ∧ s.poisoned (sramKey w) = false) ∧
    (∃ (g : Nat) (s : State), s.tidy = true ∧ s.mainUp = true ∧ s.on F.MEM_CTRL_RET_EN = true ∧ g < 8 ∧ s.groupAwake g = true ∧
      s.groupFree g = 4096 ∧ s.eff F.MEM_RET_CFG_WAKE_LOW ≤ (List.range 8).foldl (fun a h => if h ≠ g && s.groupAwake h then a +
      s.groupFree h else a) 0) ∧
    (∃ (g : Nat) (s : State), s.tidy = true ∧ g < 8 ∧ (s.get F.MEM_STATUS_WAKING).testBit g = true ∧ (s.get
      F.MEM_STATUS_RET).testBit g = false) :=
  ⟨⟨10, 3, 12, { fix up [(F.MEM_CTRL_SCRUB_EN, 1, 0), (F.MEM_CTRL_MT_EN, 1, 0)] with mem := { up.mem with errs := [(sramKey 12,
      2)] } }, by decide +kernel⟩,
    ⟨7, fix up [(F.MEM_CTRL_RET_EN, 1, 0)], by decide +kernel⟩,
    ⟨7, fix up [(F.MEM_STATUS_WAKING, 0x80, 0)], by decide +kernel⟩⟩

theorem witness_StandbyNvmIsProgrammedByWord :
    (∃ (ag : Agent) (v : Word) (s : State), s.reaches ag 0x80 ∧ s.tidy = true ∧ v.toNat % 65536 = 0x5E1A) ∧
    (∃ (ag : Agent) (v : Word) (s : State), s.reaches ag 0x80 ∧ s.tidy = true ∧ v.toNat % 65536 = 0xA7E1 ∧ s.snvm.key = true) ∧
    (∃ (ag : Agent) (v : Word) (s : State), s.reaches ag 0x80 ∧ s.tidy = true ∧ v.toNat % 65536 = 0) ∧
    (∃ (ag : Agent) (v : Word) (s : State), s.reaches ag 0x98 ∧ s.tidy = true ∧ v.toNat.testBit 0 = true ∧ v.toNat.testBit 1 =
      false ∧ s.on F.GLB_SNVM_CMD_BUSY = false ∧ s.on F.GLB_SNVM_CMD_UNLOCKED = true) ∧
    (∃ (ag : Agent) (v : Word) (s : State), s.reaches ag 0x98 ∧ s.tidy = true ∧ v.toNat.testBit 0 = false ∧ v.toNat.testBit 1 =
      true ∧ s.snvm.op = none ∧ Store.get false s.snvm.bad (s.get F.GLB_SNVM_ADDR_ADDR) = false) ∧
    (∃ (w : Nat) (b : Bytes) (s : State), s.tidy = true ∧ s.mainUp = true ∧ s.snvm.op = some (w, b)) :=
  ⟨⟨.host, 0x5E1A, up, reach _ _ (by decide +kernel), by decide +kernel⟩,
    ⟨.host, 0xA7E1, { up with snvm := { up.snvm with key := true } }, reach _ _ (by decide +kernel), by decide +kernel⟩,
    ⟨.host, 0, up, reach _ _ (by decide +kernel), by decide +kernel⟩,
    ⟨.host, 1, fix up [(F.GLB_SNVM_CMD_UNLOCKED, 1, 0)], reach _ _ (by decide +kernel), by decide +kernel⟩,
    ⟨.host, 2, up, reach _ _ (by decide +kernel), by decide +kernel⟩,
    ⟨0, [], { up with snvm := { up.snvm with op := some (0, []) } }, by decide +kernel⟩⟩

theorem witness_ProfSelectChecksTheProfile :
    (∃ (c : Cmd) (s : State), c.admitted s false ∧ ((c.begun s).checkProf c.a.toNat).1 = 0 ∧ s.tidy = true ∧ c.reservedOk 3 0 0
      false = true ∧ s.profBusy c.a.toNat = false) ∧
    (∃ (c : Cmd) (s : State), c.admitted s false ∧ s.tidy = true ∧ c.reservedOk 3 0 0 false = true ∧ s.profBusy c.a.toNat = false ∧
      ((c.begun s).checkProf c.a.toNat).1 ≠ 0) ∧
    (∃ (c : Cmd) (s : State), c.admitted s false ∧ c.reservedOk 3 0 0 false = true ∧ s.profBusy c.a.toNat = true) :=
  ⟨⟨cmd, profiled, admitted_ring 0 rfl (by decide +kernel), prof0_next, by decide +kernel⟩,
    ⟨{ cmd with a := 3 }, { up with snvm := { up.snvm with bad := [(profAddr 3 / 16, true)] } }, admitted_ring 0 rfl
      (by decide +kernel), by decide +kernel⟩,
    ⟨{ cmd with a := 3 }, { up with snvm := { up.snvm with op := some (1023, []) } }, admitted_ring 0 rfl (by decide +kernel),
      by decide +kernel⟩⟩

theorem witness_TestBlockNeedsItsKey :
    (∃ (ag : Agent) (v : Word) (s : State), s.reaches ag 0x110000 ∧ s.tidy = true ∧ v.toNat % 65536 = 0x5A17 ∧ s.on
      F.TST_STATUS_UNLOCKED = false ∧ s.tstKey = false) ∧
    (∃ (ag : Agent) (v : Word) (s : State), s.reaches ag 0x110000 ∧ s.tidy = true ∧ v.toNat % 65536 = 0xC0DE ∧ s.on
      F.TST_STATUS_UNLOCKED = false ∧ s.tstKey = true) ∧
    (∃ (ag : Agent) (v : Word) (s : State), s.reaches ag 0x110000 ∧ s.tidy = true ∧ v.toNat % 65536 = 0) ∧
    (∃ (ag : Agent) (v : Word) (s : State), s.reaches ag 0x110034 ∧ s.tidy = true ∧ s.on F.TST_STATUS_UNLOCKED = true ∧
      v.toNat.testBit 0 = true ∧ s.on F.CK_STATUS_SYN_UNLOCK = false) ∧
    (∃ (ag : Agent) (v : Word) (s : State), s.reaches ag 0x110024 ∧ s.tidy = true ∧ s.on F.TST_STATUS_UNLOCKED = true ∧
      v.toNat.testBit 10 = true) :=
  ⟨⟨.host, 0x5A17, up, reach _ _ (by decide +kernel), by decide +kernel⟩,
    ⟨.host, 0xC0DE, { up with tstKey := true }, reach _ _ (by decide +kernel), by decide +kernel⟩,
    ⟨.host, 0, up, reach _ _ (by decide +kernel), by decide +kernel⟩,
    ⟨.host, 1, fix up [(F.TST_STATUS_UNLOCKED, 1, 0)], reach _ _ (by decide +kernel), by decide +kernel⟩,
    ⟨.host, 0x400, fix up [(F.TST_STATUS_UNLOCKED, 1, 0)], reach _ _ (by decide +kernel), by decide +kernel⟩⟩

theorem witness_BoundaryScanHoldsMainDomain :
    (∃ (code : Byte) (s : State), s.stbyUp = true ∧ s.scanUp = true ∧ scanHolds code.toNat = true) ∧
    (∃ (code : Byte) (s : State), s.stbyUp = true ∧ s.scanUp = true ∧ scanHolds code.toNat = false) ∧
    (∃ s : State, s.scanUp = false) ∧
    (∃ (k : Nat) (b : Ball) (s : State), (boundaryCells s.fuses.variant)[k]? = some b ∧ b.observeOnly = true) ∧
    (∃ (k : Nat) (b : Ball) (s : State), (boundaryCells s.fuses.variant)[k]? = some b ∧ b.output = true ∧ b.observeOnly = false ∧ s.jtag = 4) ∧
    (∃ (k : Nat) (b : Ball) (s : State), (boundaryCells s.fuses.variant)[k]? = some b ∧ b.output = true ∧ b.observeOnly = false ∧ s.jtag = 6) ∧
    (∃ (k : Nat) (b : Ball) (s : State), (boundaryCells s.fuses.variant)[k]? = some b ∧ b.output = true ∧ b.observeOnly = false ∧ s.jtag = 0xFF) :=
  ⟨⟨0x00, powered, by decide +kernel⟩,
    ⟨0x02, powered, by decide +kernel⟩,
    ⟨fix powered [(F.SQ_RAIL_ST_ST, railRamp, 0)], by decide +kernel⟩,
    ⟨(boundaryCells powered.fuses.variant).length - 1, .en 23, powered, by decide +kernel⟩,
    ⟨32, .hostTx 0, { powered with jtag := 4 }, by decide +kernel⟩,
    ⟨63, .hostTx 31, { powered with jtag := 6 }, by decide +kernel⟩,
    ⟨32, .hostTx 0, { powered with jtag := 0xFF }, by decide +kernel⟩⟩

theorem witness_PartitionServiceEntersAndExits :
    (∃ (v : Word) (s : State), s.tidy = true ∧ s.mainUp = true ∧ s.pwr.step8 = true ∧ (v.toNat.testBit 0 = true ∨ (List.range
      4).any s.inService = false)) ∧
    (∃ (v : Word) (s : State), s.tidy = true ∧ s.mainUp = true ∧ s.pwr.step8 = true ∧ (v.toNat.testBit 0 = true ∨ (List.range
      4).any s.inService = false)) ∧
    (∃ (q : Nat) (s : State), s.tidy = true ∧ s.mainUp = true ∧ s.pwr.step8 = true ∧ s.on F.PSM_CTRL_EN = true ∧ q < 4 ∧
      s.partBondedQ q = true ∧ (List.range 4).any s.inService = false ∧ (∀ c ∈ partClaims q, s.owner c < 64)) ∧
    (∃ (q : Nat) (s : State), s.tidy = true ∧ s.mainUp = true ∧ s.pwr.step8 = true ∧ s.on F.PSM_CTRL_EN = true ∧ q < 4 ∧
      s.partBondedQ q = true ∧ s.inService q = true) ∧
    (∃ (q : Nat) (s : State), s.tidy = true ∧ s.mainUp = true ∧ s.pwr.step8 = true ∧ s.on F.PSM_CTRL_EN = true ∧ q < 4 ∧
      s.partBondedQ q = true ∧ s.inService q = true ∧ (Store.get Ucode.none s.psm.ucode q).words = 0) :=
  ⟨⟨1, up, by decide +kernel⟩,
    ⟨0, up, by decide +kernel⟩,
    ⟨3, fix up [(F.PSM_CTRL_EN, 1, 0)], by decide +kernel⟩,
    ⟨0, serving 0, by decide +kernel⟩,
    ⟨3, serving 3, by decide +kernel⟩⟩

theorem witness_RecordsAreWrittenAndCommitted :
    (∃ (i : Image) (r : List Image) (s : State), s.tidy = true ∧ s.mainUp = true ∧ s.on F.REC_STATUS_READY = true ∧ s.on
      F.REC_STATUS_RO_MODE = false ∧ s.recd.writing = none ∧ s.recd.queue = i :: r ∧ 0 < s.get F.REC_CREDIT_CREDIT ∧
      (s.readWords (imageKey i) 64).1 = false) ∧
    (∃ (i : Image) (r : List Image) (s : State), s.tidy = true ∧ s.mainUp = true ∧ s.on F.REC_STATUS_READY = true ∧ s.on
      F.REC_STATUS_RO_MODE = false ∧ s.recd.writing = none ∧ s.recd.queue = i :: r ∧ 0 < s.get F.REC_CREDIT_CREDIT ∧
      (s.readWords (imageKey i) 64).1 = true) ∧
    (∃ (w : RecWrite) (i : Image) (r : List Image) (s : State), s.tidy = true ∧ s.recd.writing = some w ∧ s.recd.queue = i :: r ∧
      s.recd.reads = [] ∧ (i.awaited = false ∨ (s.ato.wait = none ∧ s.ato.waits = [])) ∧ i.trig = trImport) ∧
    (∃ (w : RecWrite) (i : Image) (r : List Image) (s : State), s.recd.writing = some w ∧ s.recd.queue = i :: r ∧ s.recd.reads =
      [] ∧ i.awaited = true ∧ s.ato.wait = some true ∧ s.ato.waits = []) ∧
    (∃ s : State, s.tidy = true ∧ s.mainUp = true ∧ s.on F.REC_STATUS_READY = true ∧ s.on F.REC_STATUS_RO_MODE = false ∧
      s.recd.queue.length < 32) ∧
    (∃ s : State, s.tidy = true ∧ s.mainUp = true ∧ s.get F.REC_CREDIT_CREDIT < 2048) ∧
    (∃ (w : RecWrite) (i : Image) (r : List Image) (s : State), s.tidy = true ∧ s.recd.writing = some w ∧ s.recd.queue = i :: r ∧
      w.slot < 3072 ∧ ∃ p ∈ Store.set [] s.recd.slots w.slot (putAt i.data 5 [BitVec.ofNat 8 (leAt i.data 5 1 / 2 * 2 + b2n
      (decide (w.slot < 1024)))]), 1024 ≤ p.1 ∧ p.1 < 3072 ∧ p.1 / 4 ≠ w.slot / 4 ∧ s.sectorBad (p.1 / 4) = false) :=
  ⟨⟨img, [], { fix up [(F.REC_STATUS_READY, 1, 0), (F.REC_CREDIT_CREDIT, 1, 0)] with recd := { up.recd with queue := [img] } },
      by decide +kernel⟩,
    ⟨img, [], { fix up [(F.REC_STATUS_READY, 1, 0), (F.REC_CREDIT_CREDIT, 1, 0)] with
        recd := { up.recd with queue := [img] }, mem := { up.mem with errs := [(imageKey img + 126, 7)] } }, by decide +kernel⟩,
    ⟨⟨0, 0⟩, img, [], { up with recd := { up.recd with queue := [img], writing := some ⟨0, 0⟩ } }, by decide +kernel⟩,
    ⟨⟨0, 0⟩, { img with awaited := true }, [], awaits, by decide +kernel⟩,
    ⟨{ fix up [(F.REC_STATUS_READY, 1, 0)] with recd := { up.recd with queue := List.replicate 31 img } }, by decide +kernel⟩,
    ⟨fix up [(F.REC_CREDIT_CREDIT, 2047, 0)], by decide +kernel⟩,
    ⟨⟨3071, 0⟩, img, [], { up with recd := { up.recd with queue := [img], writing := some ⟨3071, 0⟩, slots := [(1024, [0])] } },
      by decide +kernel⟩⟩

theorem witness_SamplesAndRefreshesAreRecorded :
    (∃ (q : Nat) (s : State), s.tidy = true ∧ s.ready = true ∧ q < 24 ∧ s.on F.TST_ECC_CTRL_ARM = false ∧ s.wordErrs (accKey q) = 0) ∧
    (∃ (two : List Nat) (k : Nat) (s : State), s.tidy = true ∧ s.ready = true ∧ s.on F.REC_CTRL_COMPACT_EN = true ∧ s.on
      F.REC_STATUS_COMPACT_DEFER = false ∧ s.on F.REC_STATUS_RO_MODE = false ∧ s.recd.pass = none ∧ s.recd.writing = none ∧ 1024
      ≤ k ∧ k < 3072 ∧ k ∈ two ∧ s.slot k ≠ [] ∧ (∀ j : Nat, s.nvDead (recordWord j) 64 = false)) ∧
    (∃ (p : Nat × Nat) (s : State), s.tidy = true ∧ s.ready = true ∧ s.on F.REC_STATUS_COMPACT_DEFER = true ∧ s.recd.pass = some
      p) :=
  ⟨⟨23, up, by decide +kernel⟩,
    ⟨[3071], 3071, { fix up [(F.REC_CTRL_COMPACT_EN, 1, 0)] with recd := { up.recd with slots := [(3071, [0])] } },
      by decide +kernel, by decide +kernel, by decide +kernel, by decide +kernel, by decide +kernel, by decide +kernel,
      by decide +kernel, by decide +kernel, by decide +kernel, by decide +kernel, by decide +kernel, fun _ => State.nvDead_of_nil rfl _ _⟩,
    ⟨(3071, 1), { fix up [(F.REC_STATUS_COMPACT_DEFER, 1, 0)] with recd := { up.recd with pass := some (3071, 1) } },
      by decide +kernel⟩⟩

theorem witness_RecorderCommandsComplete :
    (∃ (c : Cmd) (s : State), c.admitted s true ∧ s.tidy = true ∧ s.mainUp = true ∧ c.reservedOk 0xFFFFFFFF 0 0 false = true ∧
      s.on F.REC_STATUS_RO_MODE = false ∧ s.on F.REC_STATUS_READY = true ∧ s.recd.queue.length < 32) ∧
    (∃ (c : Cmd) (s : State), ∃ w : RecWrite, c.admitted s true ∧ c.readOk (c.begun s) 0 ∧ c.reservedOk 0x7F7FF1 0 0 true = true
      ∧ 1 ≤ bits c.a.toNat 16 7 ∧ c.recDestOk (bits c.a.toNat 16 7) = true ∧ s.recd.writing = some w ∧ some w.slot ∈ s.readSlots
      c) ∧
    (∃ (c : Cmd) (s : State), c.admitted s true ∧ c.readOk (c.begun s) 0 ∧ (∀ w : RecWrite, s.recd.writing = some w → some w.slot
      ∉ s.readSlots c) ∧ c.reservedOk 0x7F7FF1 0 0 true = true ∧ 1 ≤ bits c.a.toNat 16 7 ∧ c.recDestOk (bits c.a.toNat 16 7) =
      true) ∧
    (∃ (c : Cmd) (s : State), c.admitted s true ∧ c.readOk (c.begun s) 0 ∧ (∀ w : RecWrite, s.recd.writing = some w → some w.slot
      ∉ s.readSlots c) ∧ c.reservedOk 0x7F7FF1 0 0 true = true ∧ 1 ≤ bits c.a.toNat 16 7 ∧ c.recDestOk (bits c.a.toNat 16 7) =
      true) ∧
    (∃ (c : Cmd) (s : State), c.admitted s true ∧ c.readOk (c.begun s) 0 ∧ c.reservedOk 0 0 0 true = true ∧ c.recDestOk 1 = true) :=
  ⟨⟨{ cmd with a := 0xFFFFFFFF }, fix up [(F.REC_STATUS_READY, 1, 0)], admitted_ring 0 rfl (by decide +kernel),
      by decide +kernel⟩,
    ⟨{ cmd with a := 0x10000, b := 0x1000 }, { up with recd := { up.recd with writing := some ⟨0, 0⟩, slots := [(0, [0])] } }, ⟨0, 0⟩, admitted_ring 0
      rfl (by decide +kernel), readOk_ring 0 rfl rfl, by decide +kernel⟩,
    ⟨{ cmd with a := 0x400000, b := 0x1000 }, up, admitted_ring 0 rfl (by decide +kernel), readOk_ring 0 rfl rfl, of_none rfl,
      by decide +kernel⟩,
    ⟨{ cmd with a := 0x10001, b := 0x1000 }, up, admitted_ring 0 rfl (by decide +kernel), readOk_ring 0 rfl rfl, of_none rfl,
      by decide +kernel⟩,
    ⟨cmd, up, admitted_ring 0 rfl (by decide +kernel), readOk_ring 0 rfl rfl, by decide +kernel⟩⟩

theorem witness_CalibrationRunsStart :
    (∃ (ck pps : Int) (s : State), s.tidy = true ∧ s.stbyUp = true ∧ ck.natAbs ≤ 50 ∧ pps.natAbs ≤ 1000 ∧ s.cal.run = none) ∧
    (∃ s : State, s.tidy = true ∧ s.ready = true ∧ s.cal.run = none ∧ s.on F.CAL_CTRL_PER_EN = true ∧ s.perDue = true ∧
      s.cal.due.any (·.periodic) = false) ∧
    (∃ s : State, s.tidy = true ∧ s.ready = true ∧ s.cal.run = none ∧ s.on F.CAL_CTRL_AUTO_TRACE = true ∧ s.on
      F.CAL_REFMON_REF_QUAL = true ∧ s.on F.TB_STATUS_UNTRACED = true ∧ s.cal.autoDone = false) ∧
    (∃ (c : Cmd) (s : State), c.admitted s true ∧ s.tidy = true ∧ s.cal.run = none ∧ c.a.toNat % 16 ≠ 0 ∧ c.reservedOk 0x1F 0 (2
      ^ 32 - 1) false = true ∧ c.cAt 0 4 < 2 ^ s.fuses.variant.ports) ∧
    (∃ s : State, s.get F.REC_OPSEC_OPSEC < s.cal.perAt + 60 * max 1 (s.get F.CAL_CTRL_PERIOD)) ∧
    (∃ (r : CalRun) (s : State), s.mainUp = true ∧ s.cal.run = some r ∧ s.on F.CAL_CTRL_PER_EN = true ∧ s.perDue = true ∧
      s.cal.due.any (·.periodic) = false) ∧
    (∃ (r : CalRun) (s : State), s.mainUp = true ∧ s.cal.run = some r ∧ s.on F.CAL_CTRL_AUTO_TRACE = true ∧ s.on
      F.CAL_REFMON_REF_QUAL = true ∧ s.on F.TB_STATUS_UNTRACED = true ∧ s.cal.autoDone = false) :=
  ⟨⟨50, -1000, stb, by decide +kernel⟩,
    ⟨fix up [(F.CAL_CTRL_PER_EN, 1, 0), (F.CAL_CTRL_PERIOD, 1, 0), (F.REC_OPSEC_OPSEC, 60, 0)], by decide +kernel⟩,
    ⟨fix up [(F.CAL_CTRL_AUTO_TRACE, 1, 0), (F.CAL_REFMON_REF_QUAL, 1, 0), (F.TB_STATUS_UNTRACED, 1, 0)], by decide +kernel⟩,
    ⟨{ cmd with a := 0x1F, c := 0xFFFFFFFF }, up, admitted_ring 0 rfl (by decide +kernel), by decide +kernel⟩,
    ⟨fix up [(F.CAL_CTRL_PERIOD, 1, 0), (F.REC_OPSEC_OPSEC, 59, 0)], by decide +kernel⟩,
    ⟨pcr, calm [(F.CAL_CTRL_PER_EN, 1, 0), (F.CAL_CTRL_PERIOD, 1, 0), (F.REC_OPSEC_OPSEC, 60, 0)], by decide +kernel⟩,
    ⟨pcr, calm [(F.CAL_CTRL_AUTO_TRACE, 1, 0), (F.CAL_REFMON_REF_QUAL, 1, 0), (F.TB_STATUS_UNTRACED, 1, 0)], by decide +kernel⟩⟩

theorem witness_CalibrationRunsEnd :
    (∃ (r : CalRun) (s : State), s.tidy = true ∧ s.cal.run = some r ∧ r.kind ≠ 1 ∧ s.cal.due = []) ∧
    (∃ (x : CalStore) (s : State), s.tidy = true ∧ s.cal.store = some x ∧ s.cal.storeNext = []) :=
  ⟨⟨{ pcr with kind := 2 }, { up with cal := { up.cal with run := some { pcr with kind := 2 } } }, by decide +kernel⟩,
    ⟨⟨1, 7, none⟩, { up with cal := { up.cal with store := some ⟨1, 7, none⟩ } }, by decide +kernel⟩⟩

theorem witness_RebaseIsContinuous :
    ∃ (e : Epoch) (s : State), s.mainUp = true ∧ s.tb.cur = some e ∧ (∀ v ∈ s.tb.revisions, v.begun = true) :=
  ⟨epoch0, timed, by decide +kernel⟩

theorem witness_TimebaseEventsAct :
    (∃ (s : State), s.tidy = true ∧ s.mainUp = true ∧ s.tbState = tbAcquiring ∧ s.swProposes = false ∧ s.srv.acc ≠ []) ∧
    (∃ (w : Slew) (s : State), s.tidy = true ∧ s.tb.slew = some w) ∧
    (∃ (s : State), s.tidy = true ∧ s.mainUp = true ∧ (s.tbState = tbAcquiring ∨ s.tbState = tbLocked ∨ s.tbState = tbReroute)) ∧
    (∃ (v : Revision) (l : List Revision) (s : State), s.tidy = true ∧ s.tb.revisions = v :: l ∧ (∀ x ∈ v :: l, x.begun = true)) ∧
    (∃ (raw : Raw) (m : Int) (u : State) (c : Epoch) (s : State), u = s.reach raw ∧ m = meanMeas s.srv.acc ∧ s.tidy = true ∧ s.mainUp =
      true ∧ s.tbState = tbAcquiring ∧ s.swProposes = false ∧ s.srv.acc ≠ [] ∧ (m.natAbs : Int) ≤ s.jumpThr ∧ s.srv.synt = false ∧ s.tb.cur =
      some c ∧ c.raw0 / tapsPerCycle < u.raw / tapsPerCycle ∧ u.adjAfter u.pubInterval = u.synAdj) ∧
    (∃ (w : Slew) (c : Epoch) (s : State), s.tidy = true ∧ s.tb.slew = some w ∧ s.tb.cur = some c ∧ c.raw0 / tapsPerCycle < (s.reach
      w.stop).raw / tapsPerCycle) :=
  ⟨⟨{ inState tbAcquiring with srv := { up.srv with acc := [⟨5, 1⟩] } }, by decide +kernel⟩,
    ⟨⟨5, 0, 9⟩, { up with tb := { up.tb with slew := some ⟨5, 0, 9⟩ } }, by decide +kernel⟩,
    ⟨inState tbReroute, by decide +kernel⟩,
    ⟨⟨5, 0, 9, 9, 1, 0, 1, 0, true⟩, [], { up with tb := { up.tb with revisions := [⟨5, 0, 9, 9, 1, 0, 1, 0, true⟩] } },
      by decide +kernel⟩,
    ⟨30000000000, _, _, epoch0, { fix timed [(F.TB_STATUS_STATE, tbAcquiring, 0)] with srv := { up.srv with acc := [⟨5, 1⟩] } }, rfl, rfl,
      by decide +kernel⟩,
    ⟨⟨5, 0, 30000000000⟩, epoch0, { timed with tb := { timed.tb with slew := some ⟨5, 0, 30000000000⟩ } }, by decide +kernel⟩⟩

theorem witness_TbReadConvertsNow :
    (∃ (c : Cmd) (s : State), ∃ e, c.admitted s true ∧ c.readOk (c.begun s) 32 ∧ c.reservedOk 0 0 0 true = true ∧ s.liveEpoch =
      some e) ∧
    (∃ (c : Cmd) (s : State), c.admitted s true ∧ c.readOk (c.begun s) 32 ∧ c.reservedOk 0 0 0 true = true ∧ s.tb.cur = none) :=
  ⟨⟨cmd, timed, epoch0, admitted_ring 0 rfl (by decide +kernel), readOk_ring 0 rfl rfl, by decide +kernel⟩,
    ⟨cmd, up, admitted_ring 0 rfl (by decide +kernel), readOk_ring 0 rfl rfl, by decide +kernel⟩⟩

theorem witness_TimebaseCommandsComplete :
    (∃ (c : Cmd) (s : State), c.admitted s true ∧ c.readOk (c.begun s) (32 * c.a.toNat) ∧ c.reservedOk 0x7FF 0 0 true = true ∧ 1
      ≤ c.a.toNat ∧ c.a.toNat ≤ 1024) ∧
    (∃ (c : Cmd) (e : Epoch) (l : HistSlot) (s : State), ∃ h : HistSlot,
      let w := c.afterRead (c.begun s) 32
      let b := (c.input w 32).take 32
      c.admitted s true ∧ c.readOk (c.begun s) 32 ∧ c.reservedOk 0x7FF 0 0 true = true ∧ c.a.toNat = 1 ∧ s.tb.cur = some e ∧
        s.liveHist.head? = some l ∧ leAt b 0 10 % 2 ^ 73 ≤ s.raw ∧ slotAt (leAt b 0 10 % 2 ^ 73) s.liveHist = some h ∧
        h.pub.index = e.index ∧ (leAt b 10 1).testBit 0 = false) ∧
    (∃ (c : Cmd) (e : Epoch) (l : HistSlot) (s : State),
      let w := c.afterRead (c.begun s) 32
      let b := (c.input w 32).take 32
      c.admitted s true ∧ c.readOk (c.begun s) 32 ∧ c.reservedOk 0x7FF 0 0 true = true ∧ c.a.toNat = 1 ∧ s.tb.cur = some e ∧
        s.liveHist.head? = some l ∧ s.raw < leAt b 0 10 % 2 ^ 73) ∧
    (∃ (c : Cmd) (s : State), c.admitted s true ∧ s.tidy = true ∧ c.reservedOk 0xFFFF 0 0 false = true ∧ s.on
      F.TB_STATUS_STEP_PEND = true ∧ s.tbState ≠ tbDegraded ∧ c.a.toNat = s.get F.TB_PEND_ID_PEND_ID ∧ (s.tbState = tbSeeded ∨ 0
      ≤ s.int F.TB_PEND_OFS_PEND_OFS ∨ s.on F.TB_CTRL_MONO = false)) ∧
    (∃ (c : Cmd) (s : State), c.admitted s true ∧ s.tidy = true ∧ c.reservedOk 0xFFFF 0 0 false = true ∧ s.on
      F.TB_STATUS_STEP_PEND = true ∧ s.tbState ≠ tbDegraded ∧ c.a.toNat = s.get F.TB_PEND_ID_PEND_ID ∧ s.tbState ≠ tbSeeded ∧
      s.int F.TB_PEND_OFS_PEND_OFS < 0 ∧ s.on F.TB_CTRL_MONO = true) ∧
    (∃ (b : Bytes) (e : Epoch) (l h : HistSlot) (hist : List HistSlot) (s : State), s.tb.cur = some e ∧ hist.head? = some l ∧
      leAt b 0 10 % 2 ^ 73 ≤ s.raw ∧ slotAt (leAt b 0 10 % 2 ^ 73) hist = some h ∧ h.pub.index = e.index ∧ (leAt b 10 1).testBit
      0 = false) :=
  ⟨⟨{ cmd with a := 1024 }, up, admitted_ring 0 rfl (by decide +kernel), readOk_ring 0 rfl rfl, by decide +kernel⟩,
    ⟨{ cmd with a := 1, data := List.replicate 32 0 }, epoch0, ⟨epoch0, epoch0, 0⟩, timed, ⟨epoch0, epoch0, 0⟩, admitted_ring 0
      rfl (by decide +kernel), readOk_ring 0 rfl rfl, by decide +kernel⟩,
    ⟨{ cmd with a := 1, data := [0, 4] ++ List.replicate 30 0 }, epoch0, ⟨epoch0, epoch0, 0⟩, timed, admitted_ring 0 rfl
      (by decide +kernel), readOk_ring 0 rfl rfl, by decide +kernel⟩,
    ⟨{ cmd with a := 0xFFFF }, fix up [(F.TB_STATUS_STEP_PEND, 1, 0), (F.TB_PEND_ID_PEND_ID, 0xFFFF, 0)], admitted_ring 0 rfl
      (by decide +kernel), by decide +kernel⟩,
    ⟨{ cmd with a := 0xFFFF }, fix timed [(F.TB_STATUS_STATE, tbLocked, 0), (F.TB_CTRL_MONO, 1, 0), (F.TB_STATUS_STEP_PEND, 1,
      0), (F.TB_PEND_ID_PEND_ID, 0xFFFF, 0), (F.TB_PEND_OFS_PEND_OFS, toBits F.TB_PEND_OFS_PEND_OFS.width (-1), 0)],
      admitted_ring 0 rfl (by decide +kernel), by decide +kernel⟩,
    ⟨List.replicate 32 0, epoch0, ⟨epoch0, epoch0, 0⟩, ⟨epoch0, epoch0, 0⟩, [⟨epoch0, epoch0, 0⟩], timed, by decide +kernel⟩⟩

theorem witness_SourceSelectionCommandsComplete :
    (∃ (k : Nat) (s : State), s.tidy = true ∧ k < 8 ∧ s.mainUp = true ∧ s.eligible k = true) ∧
    (∃ (b : Nat) (s : State), s.tidy = true ∧ s.bestSrc = some b ∧ s.on F.SRV_STATUS_WTR_RUN = true ∧ s.on F.SRV_CTRL_REVERT =
      true ∧ s.on F.SRV_STATUS_FORCED = false ∧ s.better b (s.get F.SRV_STATUS_SEL) = true) ∧
    (∃ (c : Cmd) (s : State), c.admitted s true ∧ s.tidy = true ∧ c.reservedOk 0xFF 0 0 false = true ∧ c.a.toNat = 0xFF) ∧
    (∃ (c : Cmd) (s : State), c.admitted s true ∧ s.tidy = true ∧ c.reservedOk 0xFF 0 0 false = true ∧ c.a.toNat < 8 ∧
      s.qualified c.a.toNat = true) ∧
    (∃ (c : Cmd) (s : State), c.admitted s true ∧ s.tidy = true ∧ c.reservedOk 3 (2 ^ 64 - 1) (2 ^ 40 - 1 + (2 ^ 32 - 1) * 2 ^
      64) false = true ∧ s.swProposes = true ∧ c.a.toNat = 2 ∧ s.tbState ≠ tbReroute ∧ s.tbState ≠ tbDegraded ∧ (signed 40 (c.cAt
      0 5)).natAbs < 2 ^ 39) ∧
    (∃ (c : Cmd) (s : State), c.admitted s true ∧ s.tidy = true ∧ c.reservedOk 3 (2 ^ 64 - 1) (2 ^ 40 - 1 + (2 ^ 32 - 1) * 2 ^
      64) false = true ∧ s.swProposes = true ∧ c.a.toNat = 1 ∧ s.tbState = tbAcquiring ∧ (c.b.toInt.natAbs : Int) ≤ s.jumpThr) ∧
    (∃ (c : Cmd) (s : State), c.admitted s true ∧ s.tidy = true ∧ c.reservedOk 0 0 0 false = true ∧ s.taintHeld = false) ∧
    (∃ (c : Cmd) (s : State), c.admitted s true ∧ s.tidy = true ∧ c.reservedOk 0 0 0 false = true ∧ s.taintHeld = true) :=
  ⟨⟨7, eligible7, by decide +kernel⟩,
    ⟨0, fix up [(F.SRV_STATUS_WTR_RUN, 1, 0), (F.SRV_CTRL_REVERT, 1, 0), (F.SRV_STATUS_QUAL, 1, 0), (F.SRV_STATUS_SEL, 7, 0)],
      by decide +kernel⟩,
    ⟨{ cmd with a := 0xFF }, up, admitted_ring 0 rfl (by decide +kernel), by decide +kernel⟩,
    ⟨{ cmd with a := 7 }, fix up [(F.SRV_STATUS_QUAL, 0x80, 0)], admitted_ring 0 rfl (by decide +kernel), by decide +kernel⟩,
    ⟨{ cmd with a := 2, c := 0x7FFFFFFFFF }, proposes 0, admitted_ring 0 rfl (by decide +kernel), by decide +kernel⟩,
    ⟨{ cmd with a := 1, b := 1 }, proposes tbAcquiring, admitted_ring 0 rfl (by decide +kernel), by decide +kernel⟩,
    ⟨cmd, fix up [(F.MON_STICKY_MS, 0, 0)], admitted_ring 0 rfl (by decide +kernel), by decide +kernel⟩,
    ⟨cmd, fix up [(F.MON_STICKY_MS, 1, 0), (F.MON_SRCA_CTRL_RESP, rTaint, 0)], admitted_ring 0 rfl (by decide +kernel),
      by decide +kernel⟩⟩

theorem witness_SynthesizerLockIsTracked :
    (∃ s : State, s.tidy = true ∧ s.mainUp = true ∧ s.tbState ≠ tbCold) ∧
    (∃ s : State, s.tidy = true ∧ s.mainUp = true ∧ s.tbState = tbCold) ∧
    (∃ s : State, ∃ errs : List Int, s.tidy = true ∧ s.mainUp = true ∧ s.on F.CK_STATUS_RELOCKING = false ∧ (s.lockRun errs).lost
      = true ∧ s.tbState ≠ tbCold) ∧
    (∃ s : State, ∃ errs : List Int, s.tidy = true ∧ s.mainUp = true ∧ s.on F.CK_STATUS_RELOCKING = false ∧ (s.lockRun errs).lost
      = false) ∧
    (∃ s : State, ∃ errs : List Int, s.tidy = true ∧ s.mainUp = true ∧ s.on F.CK_STATUS_SYN_LOCK = true ∧ (∀ x ∈ errs, s.eff
      F.CK_LOCK_WIN < x.natAbs) ∧ (s.fuses.variant = .zn4832 ∧ errs.length = 4 ∨ s.fuses.variant ≠ .zn4832 ∧ s.ck.det.blk = 0 ∧
      s.ck.det.blkOut = 0 ∧ errs.length = s.eff F.CK_LOCK_N)) ∧
    (∃ s : State, ∃ errs : List Int, s.tidy = true ∧ s.mainUp = true ∧ s.on F.CK_STATUS_SYN_LOCK = true ∧ (∀ x ∈ errs, s.eff
      F.CK_LOCK_WIN < x.natAbs) ∧ (s.fuses.variant = .zn4832 ∧ errs.length = 4 ∨ s.fuses.variant ≠ .zn4832 ∧ s.ck.det.blk = 0 ∧
      s.ck.det.blkOut = 0 ∧ errs.length = s.eff F.CK_LOCK_N)) ∧
    (∃ (s : State), s.tidy = true ∧ s.mainUp = true ∧ (s.on F.CK_STATUS_REF_LOSS = false ∨ s.tbState = tbCold ∨ s.tbState =
      tbDegraded)) ∧
    (∃ s : State, s.tidy = true ∧ s.on F.CK_CTRL_RELOCK_EN = true ∧ s.on F.CK_STATUS_SYN_UNLOCK = true ∧ s.on
      F.CK_STATUS_REF_LOSS = false) ∧
    (∃ (errs : List Int) (s : State), s.tidy = true ∧ s.on F.CK_STATUS_RELOCKING = true ∧ s.halted = false ∧ s.on
      F.CK_STATUS_REF_LOSS = false ∧ s.ck.det.blk = 0 ∧ s.ck.det.blkOut = 0 ∧ errs.length = s.eff F.CK_LOCK_N ∧ (∀ x ∈ errs,
      x.natAbs ≤ s.eff F.CK_LOCK_WIN) ∧ s.tbState = tbDegraded) :=
  ⟨⟨inState tbLocked, by decide +kernel⟩,
    ⟨up, by decide +kernel⟩,
    ⟨fix (inState tbLocked) [(F.CK_STATUS_SYN_LOCK, 1, 0)], List.replicate 4 (2 ^ 40), by decide +kernel⟩,
    ⟨up, [], by decide +kernel⟩,
    ⟨fix up [(F.CK_STATUS_SYN_LOCK, 1, 0)], List.replicate 4 (2 ^ 40), by decide +kernel⟩,
    ⟨{ fix up [(F.CK_STATUS_SYN_LOCK, 1, 0)] with fuses := { up.fuses with variant := .zn4808 } }, List.replicate (up.eff
      F.CK_LOCK_N) (-2 ^ 40), by decide +kernel⟩,
    ⟨fix up [(F.CK_STATUS_REF_LOSS, 1, 0)], by decide +kernel⟩,
    ⟨fix up [(F.CK_CTRL_RELOCK_EN, 1, 0), (F.CK_STATUS_SYN_UNLOCK, 1, 0)], by decide +kernel⟩,
    ⟨List.replicate (up.eff F.CK_LOCK_N) 0, fix (inState tbDegraded) [(F.CK_STATUS_RELOCKING, 1, 0)], by decide +kernel⟩⟩

theorem witness_FrequencySourcesAndCheckerAct :
    (∃ (err : Int) (s : State), s.tidy = true ∧ s.mainUp = true ∧ 200000 < err.natAbs) ∧
    (∃ (err : Int) (s : State), s.tidy = true ∧ s.mainUp = true ∧ err.natAbs ≤ 200000 ∧ s.halted = false) ∧
    (∃ (err : Int) (s : State), s.tidy = true ∧ s.mainUp = true ∧ err.natAbs ≤ 150000 ∧ s.halted = true ∧ 99 ≤ s.ck.goodWins) ∧
    (∃ (k : Nat) (s : State), k < 4 ∧ s.mainUp = true ∧ s.fsrcEligible k = true) ∧
    (∃ (b : Nat) (s : State), s.tidy = true ∧ s.fsrcBest = some b ∧ s.ck.wtrRun = true ∧ s.on F.CK_FSEL_REVERT = true ∧
      s.fsrcBetter b (s.get F.CK_STATUS_FSEL) = true) ∧
    (∃ (ferr : Int) (l : List Int) (s : State), s.tidy = true ∧ s.mainUp = true ∧ ({ s with ck := { s.ck with measured := l }
      }.fsrcReview).get F.CK_STATUS_DPLL = dpllLocking ∧ ferr.natAbs ≤ 10) ∧
    (∃ (ferr : Int) (l : List Int) (s : State), s.tidy = true ∧ s.mainUp = true ∧ ({ s with ck := { s.ck with measured := l }
      }.fsrcReview).get F.CK_STATUS_DPLL = dpllLocked ∧ 100 < ferr.natAbs) ∧
    (∃ (s : State), s.tidy = true ∧ s.mainUp = true ∧ s.tbState ≠ tbCold) ∧
    (∃ s : State, s.tidy = true ∧ s.mainUp = true) ∧
    (∃ (d : Nat) (s : State), s.tidy = true ∧ d < 88 ∧ s.dllLocked d = true ∧ s.cal.run = none) ∧
    (∃ (d : Nat) (s : State), s.tidy = true ∧ d < 88 ∧ s.mainUp = true ∧ s.fuses.variant.dllBonded d = true) ∧
    (∃ (d : Nat) (s : State), s.tidy = true ∧ d < 88 ∧ s.fuses.variant.dllBonded d = false) :=
  ⟨⟨-200001, up, by decide +kernel⟩,
    ⟨200000, up, by decide +kernel⟩,
    ⟨150000, { fix up [(F.CK_STATUS_HALT, 1, 0)] with ck := { up.ck with goodWins := 99 } }, by decide +kernel⟩,
    ⟨3, fix up [(F.CK_FSRC_EN, 1, 3), (F.CK_STATUS_SYN_LOCK, 1, 0)], by decide +kernel⟩,
    ⟨0, { fix up [(F.CK_FSEL_REVERT, 1, 0), (F.CK_STATUS_FSEL, 3, 0)] with ck := { up.ck with qual := 1, wtrRun := true } },
      by decide +kernel⟩,
    ⟨-10, [0, 0, 0, 0], dpll dpllLocking, by decide +kernel⟩,
    ⟨101, [0, 0, 0, 0], dpll dpllLocked, by decide +kernel⟩,
    ⟨inState tbLocked, by decide +kernel⟩,
    ⟨up, by decide +kernel⟩,
    ⟨87, fix up [(F.CK_DLL_LOCK_LOCK, 2 ^ 87, 0)], by decide +kernel⟩,
    ⟨87, up, by decide +kernel⟩,
    ⟨87, { up with fuses := { up.fuses with variant := .zn4816 } }, by decide +kernel⟩⟩

theorem witness_GeneratorsStart :
    (∃ (g w : Nat) (s : State), s.tidy = true ∧ g < 24 ∧ (s.gen g).waiting = some w ∧ (s.gen g).high = false ∧ s.genEn g = true ∧
      s.halted = false ∧ (s.genTime g = true → s.tbState ≠ tbCold) ∧ g < 8) ∧
    (∃ (g w : Nat) (s : State), s.tidy = true ∧ g < 24 ∧ (s.gen g).waiting = some w ∧ (s.gen g).high = false ∧ s.genEn g = true ∧
      s.halted = false ∧ (s.genTime g = true → s.tbState ≠ tbCold) ∧ 8 ≤ g) ∧
    (∃ (g w : Nat) (s : State), s.tidy = true ∧ g < 24 ∧ (s.gen g).waiting = some w ∧ (s.gen g).high = false ∧ s.genEn g = true ∧
      s.halted = false ∧ (s.genTime g = true → s.tbState ≠ tbCold) ∧ 8 ≤ g) :=
  ⟨⟨7, 0, waiting 7 [(F.CK_CKO_CTRL_EN, 1, 7)], by decide +kernel⟩,
    ⟨23, 0, waiting 23 [(F.TA_PG_CTRL_EN, 1, 15)], by decide +kernel⟩,
    ⟨8, 0, waiting 8 [(F.TA_PG_CTRL_EN, 1, 0)], by decide +kernel⟩⟩

theorem witness_PortsFollowTheirStreams :
    (∃ (n : Nat) (s : State), s.tidy = true ∧ s.mainUp = true ∧ s.bonded n = true ∧ s.pstate n ≠ psDisabled) ∧
    (∃ (n : Nat) (sd : Side) (x : LossCause) (s : State), s.tidy = true ∧ s.mainUp = true ∧ s.bonded n = true ∧ s.live n sd =
      true ∧ x = .highBer) ∧
    (∃ (n : Nat) (sd : Side) (s : State), s.tidy = true ∧ s.mainUp = true ∧ s.bonded n = true ∧ s.live n sd = true ∧ (s.pstate n
      = psUp ∨ s.pstate n = psAcquire)) ∧
    (∃ (n : Nat) (sd : Side) (s : State), s.tidy = true ∧ s.mainUp = true ∧ s.bonded n = true ∧ s.live n sd = true ∧ s.pstate n =
      psUp) ∧
    (∃ (n : Nat) (sd : Side) (s : State), s.tidy = true ∧ s.mainUp = true ∧ s.bonded n = true ∧ s.on F.STR_CTRL_LT_PASS n = true
      ∧ (s.rx n sd).lock = false ∧ (s.pstate n = psAcquire ∨ s.pstate n = psUp)) ∧
    (∃ (n : Nat) (s : State), s.tidy = true ∧ s.mainUp = true ∧ s.bonded n = true ∧ s.pstate n = psTraining) ∧
    (∃ (n : Nat) (sd : Side) (s : State), s.tidy = true ∧ s.mainUp = true ∧ s.bonded n = true ∧ s.pstate n = psTraining ∧ s.live n
      sd.other = false ∧ (s.rx n sd.other).lock = true) ∧
    (∃ (n : Nat) (sd : Side) (s : State), s.tidy = true ∧ s.mainUp = true ∧ s.bonded n = true ∧ s.live n sd = false ∧ (s.rx n sd).lock =
      true ∧ s.pstate n = psUp) :=
  ⟨⟨31, fix up [(F.STR_STATUS_STATE, psAcquire, 31), (F.STR_STATUS_H_LOCK, 1, 31)], by decide +kernel⟩,
    ⟨31, .line, .highBer, port 31 [], by decide +kernel⟩,
    ⟨31, .host, port 31 [], by decide +kernel⟩,
    ⟨31, .host, port 31 [], by decide +kernel⟩,
    ⟨31, .line, port 31 [(F.STR_CTRL_LT_PASS, 1, 31)], by decide +kernel⟩,
    ⟨0, fix up [(F.STR_STATUS_STATE, psTraining, 0)], by decide +kernel⟩,
    ⟨31, .line, (fix up [(F.STR_STATUS_STATE, psTraining, 31)]).modRx 31 .host (fun r => { r with lock := true }), by decide +kernel⟩,
    ⟨31, .host, (fix up [(F.STR_STATUS_STATE, psUp, 31)]).modRx 31 .host (fun r => { r with lock := true }), by decide +kernel⟩⟩

theorem witness_FramesPassAndDepart :
    (∃ (n : Nat) (sd : Side) (f : RxFrame) (tx : Stamp) (s : State),
      s.mainUp = true ∧ s.bonded n = true ∧ s.receives n sd = true ∧ s.pstate n ≠ psTraining ∧ f.decoded (s.fec n sd) = [] ∧
        f.overflow = none ∧ s.elasStart n ≤ f.fill ∧ f.data.length ≤ s.eff F.STR_MAXFRM_MAXFRM n ∧ frameClass (s.parseCfg n)
        f.data = 4 ∧ (parseFrame (s.parseCfg n) f.data).etype ≠ 0x88B5 ∧ 0 < idleBlocks (s.egress n sd.other).tail (s.gapAt n
        sd.other tx)) ∧
    (∃ (n : Nat) (sd : Side) (f : RxFrame) (tx : Stamp) (s : State),
      let y := s.lineStart n sd.other f.fill tx
      s.mainUp = true ∧ s.bonded n = true ∧ s.receives n sd = true ∧ s.pstate n ≠ psTraining ∧ f.decoded (s.fec n sd) = [] ∧
        f.overflow = none ∧ s.elasStart n ≤ f.fill ∧ f.data.length ≤ s.eff F.STR_MAXFRM_MAXFRM n ∧ frameClass (s.parseCfg n)
        f.data = 4 ∧ (parseFrame (s.parseCfg n) f.data).etype ≠ 0x88B5 ∧ 5 ≤ s.gapAt n sd.other y ∧ s.frameWaits n sd.other =
        false ∧ (s.reach f.stamp.w).guardOk n sd.other f.data.length y = true) ∧
    (∃ (n : Nat) (sd : Side) (f : RxFrame) (tx : Stamp) (s : State),
      let y := s.lineStart n sd.other f.fill tx
      (∀ x : Side, (s.egress n x).leaving = [] ∧ (s.egress n x).arriving = []) ∧ s.mainUp = true ∧ s.bonded n = true ∧ s.receives n sd = true ∧ s.pstate n ≠
        psTraining ∧ f.decoded (s.fec n sd) = [] ∧ f.overflow = none ∧ s.elasStart n ≤ f.fill ∧ f.data.length ≤ s.eff
        F.STR_MAXFRM_MAXFRM n ∧ frameClass (s.parseCfg n) f.data = 4 ∧ (parseFrame (s.parseCfg n) f.data).etype ≠ 0x88B5 ∧ s.tidy
        = true ∧ s.gapAt n sd.other y < 5 ∧ 0 < s.resvLeft n ∧ s.grantCell ≠ none) ∧
    (∃ (n : Nat) (sd : Side) (f : RxFrame) (s : State), s.mainUp = true ∧ s.bonded n = true ∧ s.receives n sd = true ∧ s.pstate n
      ≠ psTraining ∧ f.overflow = none ∧ (parseFrame (s.parseCfg n) f.data).etype = 0x88B5 ∧ f.data.length ≤ s.eff
      F.STR_MAXFRM_MAXFRM n) ∧
    (∃ (n : Nat) (sd : Side) (s : State), s.tidy = true ∧ s.mainUp = true ∧ s.bonded n = true ∧ s.receives n sd = true ∧ s.pstate
      n ≠ psTraining) ∧
    (∃ (n : Nat) (s : State), s.mainUp = true ∧ s.bonded n = true ∧ s.pstate n = psTraining) ∧
    (∃ (n : Nat) (sd : Side) (s : State), s.pstate n ≠ psTraining ∧ s.receives n sd = false) ∧
    (∃ (n : Nat) (sd : Side) (st : Stamp) (f : PFrame) (r : List PFrame) (s : State),
      let y := s.lineStart n sd (s.get (fillFld sd.other) n) st
      (∀ x : Side, (s.egress n x).arriving = []) ∧ s.tidy = true ∧ s.mainUp = true ∧ s.bonded
      n = true ∧ s.forwarding n sd = true ∧ 9 + ((s.egress n sd).dic : Int) ≤ s.gapAt n sd y ∧ (s.egress n sd).orig = [] ∧
      (s.reach st.w).guardOk n sd f.data.length y = true ∧ f.stamp = none ∧ (∀ k ∈ descKeys f.cells ++ cellKeys f.cells (frameWords f.data.length),
      s.wordErrs k = 0 ∧ s.poisoned k = false) ∧ (s.egress n sd).held = f :: r ∧ f.src = .held ∧ frameClass (s.parseCfg n) f.data
      ≠ 0) ∧
    (∃ (n : Nat) (sd : Side) (st : Stamp) (f : PFrame) (r : List PFrame) (s : State), ∃ (src : Src) (tag : Nat) (quiet : Bool),
      let y := s.lineStart n sd (s.get (fillFld sd.other) n) st
      (∀ x : Side, (s.egress n x).arriving = []) ∧ s.tidy = true ∧ s.mainUp = true ∧ s.bonded n = true ∧ s.forwarding n sd = true ∧ 9 + ((s.egress n sd).dic : Int) ≤ s.gapAt
      n sd y ∧ (s.egress n sd).orig = [] ∧ (s.reach st.w).guardOk n sd f.data.length y = true ∧ f.stamp = none ∧ (∀ k ∈
      descKeys f.cells ++ cellKeys f.cells (frameWords f.data.length), s.wordErrs k = 0 ∧ s.poisoned k = false) ∧ (s.egress n sd).held = [] ∧
      (s.egress n sd).inj = f :: r ∧ f.src = .host src tag quiet ∧ (f.cap = true ∨ (s.frameOps n sd f).capture = false)) ∧
    (∃ (c : Cmd) (r : Fin 32) (s : State), c.src = .ring r ∧ c.admitted s true ∧ c.reservedOk 0x3FFF01FF 0 0 true = true ∧ 64 ≤
      bits c.a.toNat 16 14 ∧ bits c.a.toNat 16 14 ≤ s.eff F.STR_MAXFRM_MAXFRM (bits c.a.toNat 0 5) ∧ s.bonded (bits c.a.toNat 0
      5) = true ∧ s.forwarding (bits c.a.toNat 0 5) (if c.a.toNat.testBit 5 then .host else .line) = false) ∧
    (∃ (c : Cmd) (r : Fin 32) (s : State), c.src = .ring r ∧ c.admitted s true ∧ c.reservedOk 0x3FFF01FF 0 0 true = true ∧ 64 ≤
      bits c.a.toNat 16 14 ∧ bits c.a.toNat 16 14 ≤ s.eff F.STR_MAXFRM_MAXFRM (bits c.a.toNat 0 5) ∧ s.bonded (bits c.a.toNat 0
      5) = true ∧ s.forwarding (bits c.a.toNat 0 5) (if c.a.toNat.testBit 5 then .host else .line) = true ∧ c.dmaErr = false ∧
      (c.begun s).takeFrame (bits c.a.toNat 0 5) (bits c.a.toNat 16 14) = none) ∧
    (∃ (c : Cmd) (r : Fin 32) (s : State), c.src = .ring r ∧ c.admitted s true ∧ c.reservedOk 0x3FFF01FF 0 0 true = true ∧ 64 ≤
      bits c.a.toNat 16 14 ∧ bits c.a.toNat 16 14 ≤ s.eff F.STR_MAXFRM_MAXFRM (bits c.a.toNat 0 5) ∧ s.bonded (bits c.a.toNat 0
      5) = true ∧ s.forwarding (bits c.a.toNat 0 5) (if c.a.toNat.testBit 5 then .host else .line) = true ∧ c.dmaErr = false ∧
      ((c.begun s).takeFrame (bits c.a.toNat 0 5) (bits c.a.toNat 16 14)).isSome = true) :=
  ⟨⟨31, .line, rx frameC4, at0, port 31 [], by decide +kernel⟩,
    ⟨31, .host, rx frameC4, at0, port 31 [], by decide +kernel⟩,
    ⟨0, .host, rx frameC4, at0, (port 0 []).modEgress 0 .line (fun e => { e with busyUntil := at0.w + 100000 }), fun x => by
      cases x <;> decide +kernel, by decide +kernel⟩,
    ⟨0, .line, rx frame88B5, port 0 [], by decide +kernel⟩,
    ⟨0, .line, port 0 [], by decide +kernel⟩,
    ⟨0, fix (port 0 []) [(F.STR_STATUS_STATE, psTraining, 0)], by decide +kernel⟩,
    ⟨0, .line, up, by decide +kernel⟩,
    ⟨31, .host, at0, ⟨frameC4, [], [], 0, false, none, .held⟩, [], (port 31 []).modEgress 31 .host (fun e => { e with held :=
      [⟨frameC4, [], [], 0, false, none, .held⟩] }), fun x => by cases x <;> decide +kernel, by decide +kernel⟩,
    ⟨0, .line, at0, ⟨frameC4, [], [], 0, true, none, .host (.ring 0) 5 false⟩, [], (port 0 []).modEgress 0 .line (fun e => { e
      with inj := [⟨frameC4, [], [], 0, true, none, .host (.ring 0) 5 false⟩] }), .ring 0, 5, false,
      fun x => by cases x <;> decide +kernel, by decide +kernel⟩,
    ⟨{ cmd with a := 0x400025 }, 0, up, rfl, admitted_ring 0 rfl (by decide +kernel), by decide +kernel⟩,
    ⟨{ cmd with a := 0x400025 }, 0, port 5 [(F.STR_POOL_STAT_RESV_USED, 64, 5), (F.MEM_POOL_FREE_FREE, 0, 0)], rfl, admitted_ring
      0 rfl (by decide +kernel), by decide +kernel⟩,
    ⟨{ cmd with a := 0x400025 }, 0, port 5 [], rfl, admitted_ring 0 rfl (by decide +kernel), by decide +kernel⟩⟩

theorem witness_PtpMessagesComeAndGo :
    (∃ (n : Nat) (f : RxFrame) (p : Parsed) (m : Bytes) (now : Raw) (s : State), p = parseFrame (s.parseCfg n) f.data ∧ m = sub
      f.data p.ptpOff (p.msgLen f.data) ∧ now = s.rxStamp n .line f.stamp ∧ s.tidy = true ∧ s.mainUp = true ∧ s.bonded n = true ∧
      s.spxLive n = true ∧ s.damaged n .line f = false ∧ fcsOk f.data = true ∧ s.consumes n (p.msgType f.data) = false) ∧
    (∃ (n : Nat) (f : RxFrame) (p : Parsed) (m : Bytes) (now : Raw) (s : State), ∃ tlv, p = parseFrame (s.parseCfg n) f.data ∧ m
      = sub f.data p.ptpOff (p.msgLen f.data) ∧ now = s.rxStamp n .line f.stamp ∧ s.tidy = true ∧ s.mainUp = true ∧ s.bonded n =
      true ∧ s.spxLive n = true ∧ s.damaged n .line f = false ∧ fcsOk f.data = true ∧ frameClass (s.parseCfg n) f.data ≤ 1 ∧
      p.encap = some .ethernet ∧ beAt f.data (p.ptpOff + 4) 1 = s.get F.PTP_CTRL_DOMAIN ∧ beAt f.data p.ptpOff 1 / 16 =
      s.majorSdo ∧ beAt f.data (p.ptpOff + 5) 1 = s.get F.PTP_CTRL_MINOR_SDO ∧ s.consumes n (p.msgType f.data) = true ∧ checkPtp
      m = some tlv ∧ s.authPass m tlv = true ∧ beAt m 0 1 % 16 = 0 ∧ (beAt m 6 1).testBit 1 = true ∧ (s.ptp n).master = some (sub
      m 20 10)) ∧
    (∃ (n : Nat) (f : RxFrame) (p : Parsed) (m : Bytes) (now : Raw) (s : State), ∃ tlv, p = parseFrame (s.parseCfg n) f.data ∧ m
      = sub f.data p.ptpOff (p.msgLen f.data) ∧ now = s.rxStamp n .line f.stamp ∧ s.tidy = true ∧ s.mainUp = true ∧ s.bonded n =
      true ∧ s.spxLive n = true ∧ s.damaged n .line f = false ∧ fcsOk f.data = true ∧ frameClass (s.parseCfg n) f.data ≤ 1 ∧
      p.encap = some .ethernet ∧ beAt f.data (p.ptpOff + 4) 1 = s.get F.PTP_CTRL_DOMAIN ∧ beAt f.data p.ptpOff 1 / 16 =
      s.majorSdo ∧ beAt f.data (p.ptpOff + 5) 1 = s.get F.PTP_CTRL_MINOR_SDO ∧ s.consumes n (p.msgType f.data) = true ∧ checkPtp
      m = some tlv ∧ s.authPass m tlv = false) ∧
    (∃ (n : Nat) (f : RxFrame) (p : Parsed) (m : Bytes) (now : Raw) (s : State), p = parseFrame (s.parseCfg n) f.data ∧ m = sub
      f.data p.ptpOff (p.msgLen f.data) ∧ now = s.rxStamp n .line f.stamp ∧ s.tidy = true ∧ s.mainUp = true ∧ s.bonded n = true ∧
      s.spxLive n = true ∧ s.damaged n .line f = false ∧ fcsOk f.data = true ∧ frameClass (s.parseCfg n) f.data ≤ 1 ∧ p.encap =
      some .ethernet ∧ beAt f.data (p.ptpOff + 4) 1 = s.get F.PTP_CTRL_DOMAIN ∧ beAt f.data p.ptpOff 1 / 16 = s.majorSdo ∧ beAt
      f.data (p.ptpOff + 5) 1 = s.get F.PTP_CTRL_MINOR_SDO ∧ s.consumes n (p.msgType f.data) = true ∧ checkPtp m = none) ∧
    (∃ (k : Nat) (s : State), s.tidy = true ∧ s.mainUp = true ∧ k < 8 ∧ s.bonded (s.srcPort k) = true) ∧
    (∃ (c : Cmd) (t : Bytes) (s : State), c.admitted s true ∧ c.readOk (c.begun s) 64 ∧ t = c.input (c.afterRead (c.begun s) 64)
      64 ∧ c.reservedOk 0 0 0 true = true ∧ leAt t 0 1 % 16 = 0xB ∧ beAt t 2 2 = 64) ∧
    (∃ (c : Cmd) (t : Bytes) (s : State), c.admitted s true ∧ c.readOk (c.begun s) 64 ∧ t = c.input (c.afterRead (c.begun s) 64)
      64 ∧ c.reservedOk 0 0 0 true = true ∧ (leAt t 0 1 % 16 ≠ 0xB ∨ beAt t 2 2 ≠ 64)) ∧
    (∃ (n : Nat) (s : State), s.tidy = true ∧ s.mainUp = true ∧ s.bonded n = true ∧ s.role n = 2 ∧ s.tbState = tbCold ∧ (s.egress
      n .line).backlog ≤ s.get F.STR_INJ_INJ_HOLD n) ∧
    (∃ (n : Nat) (s : State), s.tidy = true ∧ s.mainUp = true ∧ s.bonded n = true ∧ s.role n = 1 ∧ s.p2p n = false ∧ (s.egress n
      .line).backlog ≤ s.get F.STR_INJ_INJ_HOLD n ∧ s.forwarding n .line = true ∧ s.on F.PTP_AUTH_GEN = false ∧ 0 < s.resvLeft n ∧ s.grantCell ≠ none ∧
      (s.egress n .line).arriving = [] ∧ (s.egress n .host).arriving = []) :=
  ⟨⟨0, sync, _, _, _, port 0 [], rfl, rfl, rfl, by decide +kernel⟩,
    ⟨31, sync, _, _, _, slave 31 [], none, rfl, rfl, rfl, by decide +kernel⟩,
    ⟨0, sync, _, _, _, slave 0 [(F.PTP_AUTH_MODE, 2, 0)], none, rfl, rfl, rfl, by decide +kernel⟩,
    ⟨0, badSync, _, _, _, slave 0 [], rfl, rfl, rfl, by decide +kernel⟩,
    ⟨7, fix up [(F.SRV_SRC_PORT, 31, 7)], by decide +kernel⟩,
    ⟨{ cmd with data := [0x1B, 2] ++ be 2 64 }, _, up, admitted_ring 0 rfl (by decide +kernel), readOk_ring 0 rfl rfl, rfl,
      by decide +kernel⟩,
    ⟨cmd, _, up, admitted_ring 0 rfl (by decide +kernel), readOk_ring 0 rfl rfl, rfl, by decide +kernel⟩,
    ⟨31, fix up [(F.PTP_PCTRL_ROLE, 2, 31)], by decide +kernel⟩,
    ⟨31, slave 31 [], by decide +kernel⟩⟩

theorem witness_SpxSessionsOpenAndClose :
    (∃ (n : Nat) (s : State), s.tidy = true ∧ s.bonded n = true ∧ s.sess n = sessProbe ∧ 8 ≤ (s.spx n).hellos) ∧
    (∃ (n : Nat) (s : State), s.tidy = true ∧ s.bonded n = true ∧ s.sess n = sessProbe ∧ (s.spx n).hellos < 8 ∧ s.forwarding n
      .line = true ∧ (s.egress n .line).backlog ≤ s.get F.STR_INJ_INJ_HOLD n ∧ 0 < s.resvLeft n ∧ s.grantCell ≠ none ∧ (s.egress
      n .line).arriving = [] ∧ (s.egress n .host).arriving = []) ∧
    (∃ (n : Nat) (s : State), s.tidy = true ∧ s.bonded n = true ∧ s.sess n = sessRun) ∧
    (∃ (n : Nat) (s : State), s.tidy = true ∧ s.bonded n = true ∧ ∃ p ∈ [(sessWait, Instr.waitExpiry n), (sessFallback,
      .fallbackExpiry n)], s.sess n = p.1) ∧
    (∃ (n : Nat) (s : State), s.tidy = true ∧ s.bonded n = true ∧ ∃ p ∈ [(sessWait, Instr.waitExpiry n), (sessFallback,
      .fallbackExpiry n)], s.sess n = p.1) ∧
    (∃ (n : Nat) (f : RxFrame) (s : State), s.tidy = true ∧ s.mainUp = true ∧ s.bonded n = true ∧ s.spxLive n = true ∧ s.damaged
      n .line f = false ∧ fcsOk f.data = true ∧ f.data.length = 64 ∧ beAt f.data 14 2 = 0x5350 ∧ beAt f.data 16 1 = 1 ∧ beAt
      f.data 28 4 ≠ 0 ∧ (sub f.data 38 22).all (fun b => decide (b = 0)) = true ∧ beAt f.data 17 1 = discBye ∧ (s.sess n =
      sessCaps ∨ s.sess n = sessRun)) ∧
    (∃ (n : Nat) (f : RxFrame) (s : State), s.tidy = true ∧ s.mainUp = true ∧ s.bonded n = true ∧ s.spxLive n = true ∧ s.damaged
      n .line f = false ∧ fcsOk f.data = true ∧ f.data.length = 64 ∧ beAt f.data 14 2 = 0x5350 ∧ beAt f.data 16 1 = 1 ∧ beAt
      f.data 28 4 ≠ 0 ∧ (sub f.data 38 22).all (fun b => decide (b = 0)) = true ∧ beAt f.data 17 1 = discHello ∧ s.sess n =
      sessProbe ∧ beAt f.data 32 4 = (s.spx n).nonce) ∧
    (∃ (n : Nat) (f : RxFrame) (s : State), s.tidy = true ∧ s.mainUp = true ∧ s.bonded n = true ∧ s.spxLive n = true ∧ s.damaged
      n .line f = false ∧ fcsOk f.data = true ∧ f.data.length = 64 ∧ beAt f.data 14 2 = 0x5350 ∧ beAt f.data 16 1 = 1 ∧ beAt
      f.data 28 4 ≠ 0 ∧ (sub f.data 38 22).all (fun b => decide (b = 0)) = true ∧ beAt f.data 17 1 ≠ discBye ∧ beAt f.data 17 1 ≠
      discHello) ∧
    (∃ (n : Nat) (s : State), s.tidy = true ∧ s.bonded n = true ∧ s.sess n = sessCaps ∧ s.forwarding n .line = true ∧ (s.spx
      n).holdsWords = false) ∧
    (∃ (n : Nat) (s : State), s.tidy = true ∧ s.bonded n = true ∧ s.sess n = sessCaps ∧ s.forwarding n .line = true ∧ (s.spx
      n).holdsWords = true ∧ (s.spx n).caps.any (fun p => p.1 = 3 && p.2.testBit 0) = true) ∧
    (∃ (n : Nat) (b : SpxBlock) (s : State), s.tidy = true ∧ s.mainUp = true ∧ s.bonded n = true ∧ s.sess n = sessCaps ∧ b.isSpx
      = true ∧ b.kind = 3 ∧ b.tail = false ∧ s.get F.TST_SPXDROP_K n = 0 ∧ b.seq = 1 ∧ capsBad 1 b.payload = false ∧ (s.spx
      n).ackSent = false) ∧
    (∃ (n : Nat) (b : SpxBlock) (s : State), s.tidy = true ∧ s.mainUp = true ∧ s.bonded n = true ∧ s.sess n = sessCaps ∧ b.isSpx
      = true ∧ b.kind = 3 ∧ b.tail = false ∧ s.get F.TST_SPXDROP_K n = 0 ∧ capsBad b.seq b.payload = true) ∧
    (∃ (n : Nat) (b : SpxBlock) (s : State), s.tidy = true ∧ s.mainUp = true ∧ s.bonded n = true ∧ s.sess n = sessCaps ∧ b.isSpx
      = true ∧ b.kind = 3 ∧ b.tail = false ∧ s.get F.TST_SPXDROP_K n = 0 ∧ capsBad b.seq b.payload = true) ∧
    (∃ (ag : Agent) (i : Nat) (v : Word) (s : State), s.reaches ag (0xA0000 + 0x400 * i) ∧ s.tidy = true ∧ i < 32 ∧
      v.toNat.testBit 0 = false) ∧
    (∃ (ag : Agent) (i : Nat) (v : Word) (s : State), s.reaches ag (0xA0000 + 0x400 * i) ∧ s.tidy = true ∧ i < 32 ∧
      v.toNat.testBit 0 = true ∧ s.sess i = sessOff ∧ s.spxLive i = true) :=
  ⟨⟨31, inSess 31 sessProbe (fun x => { x with hellos := 8 }), by decide +kernel⟩,
    ⟨31, inSess 31 sessProbe (fun x => { x with hellos := 7 }), by decide +kernel⟩,
    ⟨0, inSess 0 sessRun id, by decide +kernel⟩,
    ⟨0, inSess 0 sessWait id, by decide +kernel, by decide +kernel, (sessWait, .waitExpiry 0), by simp, by decide +kernel⟩,
    ⟨0, inSess 0 sessFallback id, by decide +kernel, by decide +kernel, (sessFallback, .fallbackExpiry 0), by simp,
      by decide +kernel⟩,
    ⟨31, disc discBye 7 0, inSess 31 sessRun id, by decide +kernel⟩,
    ⟨0, disc discHello 7 1234, inSess 0 sessProbe (fun x => { x with nonce := 1234 }), by decide +kernel⟩,
    ⟨0, disc 3 7 0, inSess 0 sessProbe id, by decide +kernel⟩,
    ⟨0, inSess 0 sessCaps (fun x => { x with caps := [(0, 5), (1, 6)] }), by decide +kernel⟩,
    ⟨0, inSess 0 sessCaps (fun x => { x with caps := [(0, 5), (1, 6), (2, 0), (3, 1)] }), by decide +kernel⟩,
    ⟨0, block 3 1 7, inSess 0 sessCaps id, by decide +kernel⟩,
    ⟨0, block 3 4 0, inSess 0 sessCaps id, by decide +kernel⟩,
    ⟨0, block 3 1 8, inSess 0 sessCaps id, by decide +kernel⟩,
    ⟨.host, 31, 0, up, reach _ _ (by decide +kernel), by decide +kernel⟩,
    ⟨.host, 31, 1, port 31 [], reach _ _ (by decide +kernel), by decide +kernel⟩⟩

theorem witness_SpxExchangesRun :
    (∃ (n : Nat) (st : Stamp) (tx : Raw) (s : State), tx = s.txStamp n .line st.laneZero ∧ s.tidy = true ∧ s.bonded n = true ∧
      s.sess n = sessRun ∧ s.forwarding n .line = true ∧ (s.spx n).nackDue = [] ∧ (s.spx n).exchange = [] ∧ s.blockIdle n st =
      true ∧ (∀ t, (s.spx n).lastMark = some t → t + s.spxPeriod n ≤ st.w)) ∧
    (∃ (n : Nat) (st : Stamp) (tx : Raw) (s : State), ∃ p q, tx = s.txStamp n .line st.laneZero ∧ s.tidy = true ∧ s.mainUp = true
      ∧ s.bonded n = true ∧ s.sess n = sessRun ∧ s.forwarding n .line = true ∧ s.frameWaits n .line = false ∧ s.blockIdle n st =
      true ∧ (s.spx n).nackDue = p :: q) ∧
    (∃ (n : Nat) (st : Stamp) (tx : Raw) (s : State), ∃ p q, tx = s.txStamp n .line st.laneZero ∧ s.tidy = true ∧ s.mainUp = true
      ∧ s.bonded n = true ∧ s.sess n = sessRun ∧ s.forwarding n .line = true ∧ s.frameWaits n .line = false ∧ s.blockIdle n st =
      true ∧ (s.spx n).nackDue = [] ∧ (s.spx n).exchange = p :: q) ∧
    (∃ (n : Nat) (b : SpxBlock) (fr : List SpxBlock) (r : Nat) (s : State), s.tidy = true ∧ s.mainUp = true ∧ s.bonded n = true ∧
      s.sess n = sessRun ∧ s.get F.TST_SPXDROP_K n = 0 ∧ s.on F.SPX_STATUS_STARVED n = false ∧ (s.spx n).asm = none ∧ (∀ l,
      (s.spx n).rxSeq = some l → b.seq = (l + 1) % 16) ∧ b.kind = 1 ∧ bits b.payload 8 2 = 0 ∧ b.payload.testBit 15 = false ∧
      s.get F.SPX_PINFO_SRC n = bits b.payload 10 1 ∧ (b :: fr).all (fun x => x.isSpx && !x.tail) = true ∧ fr.map (·.kind) = [8,
      9, 10, 11, 12, 13] ∧ fr.map (·.seq) = List.replicate 3 b.seq ++ List.replicate 3 r) ∧
    (∃ (n : Nat) (b : SpxBlock) (s : State), s.tidy = true ∧ s.mainUp = true ∧ s.bonded n = true ∧ s.sess n = sessRun ∧ s.get
      F.TST_SPXDROP_K n = 0 ∧ b.isSpx = true ∧ b.tail = false ∧ (s.spx n).asm = none ∧ b.kind = 9) ∧
    (∃ (n : Nat) (b : SpxBlock) (s : State), s.tidy = true ∧ s.mainUp = true ∧ s.bonded n = true ∧ s.sess n = sessRun ∧ s.get
      F.TST_SPXDROP_K n = 0 ∧ b.isSpx = true ∧ b.tail = false ∧ b.kind = 2 ∧ b.seq = (s.spx n).words.length ∧ b.seq < 15) ∧
    (∃ (n : Nat) (b : SpxBlock) (s : State), s.tidy = true ∧ s.mainUp = true ∧ s.bonded n = true ∧ s.sess n = sessRun ∧ s.get
      F.TST_SPXDROP_K n = 0 ∧ b.isSpx = true ∧ b.tail = false ∧ b.kind = 2 ∧ b.seq = (s.spx n).words.length ∧ b.seq = 15) ∧
    (∃ (n : Nat) (b : SpxBlock) (s : State), s.tidy = true ∧ s.mainUp = true ∧ s.bonded n = true ∧ s.sess n = sessRun ∧ s.get
      F.TST_SPXDROP_K n = 0 ∧ b.isSpx = true ∧ b.tail = false ∧ b.kind = 4) ∧
    (∃ (n : Nat) (s : State), s.tidy = true ∧ s.mainUp = true ∧ s.bonded n = true ∧ s.live n .line = true ∧ (s.spx n).phBase =
      none) ∧
    (∃ (n : Nat) (s : State), s.tidy = true ∧ s.on F.SPX_STATUS_ROUTE_PEND n = true ∧ s.on F.SPX_STATUS_RRT_HOLD n = false) ∧
    (∃ (c : Cmd) (s : State), c.admitted s true ∧ s.tidy = true ∧ c.reservedOk 0x11F 0 (2 ^ 64 - 1) false = true ∧ s.bonded
      (c.a.toNat % 32) = true ∧ c.cAt 4 4 ≤ 65535 ∧ c.a.toNat.testBit 8 = true) ∧
    (∃ (c : Cmd) (s : State), c.admitted s true ∧ s.tidy = true ∧ c.reservedOk 0x11F 0 (2 ^ 64 - 1) false = true ∧ s.bonded
      (c.a.toNat % 32) = true ∧ c.cAt 4 4 ≤ 65535 ∧ c.a.toNat.testBit 8 = false) ∧
    (∃ (c : Cmd) (s : State), c.admitted s true ∧ s.tidy = true ∧ c.reservedOk 0x1F 0 0 false = true ∧ s.bonded c.a.toNat = true
      ∧ s.on F.SPX_STATUS_RRT_HOLD c.a.toNat = false) ∧
    (∃ (c : Cmd) (s : State), c.admitted s true ∧ s.tidy = true ∧ c.reservedOk 0x1F 0 0 false = true ∧ s.bonded c.a.toNat = true
      ∧ s.on F.SPX_STATUS_RRT_HOLD c.a.toNat = true) :=
  ⟨⟨31, at0, _, inSess 31 sessRun id, rfl, by decide +kernel⟩,
    ⟨31, at0, _, inSess 31 sessRun (fun x => { x with nackDue := [(3, 1)] }), (3, 1), [], rfl, by decide +kernel⟩,
    ⟨0, at0, _, inSess 0 sessRun (fun x => { x with exchange := [(8, 5, 1)] }), (8, 5, 1), [], rfl, by decide +kernel⟩,
    ⟨0, block 1 5 0x407, [block 8 5 1, block 9 5 2, block 10 5 3, block 11 9 4, block 12 9 5, block 13 9 6], 9, fix (inSess 0
      sessRun id) [(F.SPX_PINFO_SRC, 1, 0)], by decide +kernel⟩,
    ⟨0, block 9 3 5, inSess 0 sessRun id, by decide +kernel⟩,
    ⟨0, block 2 14 77, inSess 0 sessRun (fun x => { x with words := List.replicate 14 0 }), by decide +kernel⟩,
    ⟨0, block 2 15 77, inSess 0 sessRun (fun x => { x with words := List.replicate 15 0 }), by decide +kernel⟩,
    ⟨31, block 4 5 0x20, inSess 31 sessRun id, by decide +kernel⟩,
    ⟨31, port 31 [], by decide +kernel⟩,
    ⟨31, fix up [(F.SPX_STATUS_ROUTE_PEND, 1, 31)], by decide +kernel⟩,
    ⟨{ cmd with a := 0x11F, c := 0xFFFFFFFFFFFF }, up, admitted_ring 0 rfl (by decide +kernel), by decide +kernel⟩,
    ⟨{ cmd with a := 0x1F, c := 0xFFFFFFFFFFFF }, up, admitted_ring 0 rfl (by decide +kernel), by decide +kernel⟩,
    ⟨{ cmd with a := 0x1F }, up, admitted_ring 0 rfl (by decide +kernel), by decide +kernel⟩,
    ⟨{ cmd with a := 0x1F }, fix up [(F.SPX_STATUS_RRT_HOLD, 1, 31)], admitted_ring 0 rfl (by decide +kernel), by decide +kernel⟩⟩

/-- A run of REF_ALIGN on the balls and the capture lines, in which each input is blind in its turn. -/
def balls : CalRun := ⟨2, 2 ^ stepRef, 0, false, false, true, none⟩
theorem blind_at {s : State} (h : s.cal.run = some balls) (h0 : s.cal.runAt = 0) (n : Nat) :
    (s.reach (msCycles (Config.tioBlind n % 42) * tapsPerCycle)).tioBlind n (msCycles (Config.tioBlind n % 42) * tapsPerCycle) = true := by
  have hb : balls.before (balls.phases.length - 1) = 0 := by decide +kernel
  have hs : balls.steps.testBit stepRef = true := by decide
  have hd : msCycles (Config.tioBlind n % 42) * tapsPerCycle / tapsPerCycle = msCycles (Config.tioBlind n % 42) := Nat.mul_div_cancel _ (by decide)
  unfold State.tioBlind
  rw [State.reach_cal, h]
  simp only [h0, hb, hs, hd]
  simp [balls, msCycles]

theorem witness_OccurrencesAndCapturesRun :
    (∃ (raw tgt : Raw) (i : Nat) (a : Action) (s : State), s.tidy = true ∧ s.mainUp = true ∧ s.ta.stage.length < 256 ∧ (s.reach
      raw).intakeFree = true ∧ (s.reach raw).commitPick raw = some (i, a, tgt) ∧ (s.readWords (actionKey i) 4).1 = false) ∧
    (∃ (raw tgt : Raw) (i : Nat) (a : Action) (s : State), s.tidy = true ∧ s.mainUp = true ∧ s.ta.stage.length < 256 ∧ (s.reach
      raw).intakeFree = true ∧ (s.reach raw).commitPick raw = some (i, a, tgt) ∧ (s.readWords (actionKey i) 4).1 = true) ∧
    (∃ (raw : Raw) (u : Raw × Nat × Nat) (k : Nat) (g : Staged) (s : State), s.tidy = true ∧ s.mainUp = true ∧ (s.reach
      raw).duePick raw = some (u, k) ∧ s.ta.stage[k]? = some g ∧ s.halted = true) ∧
    (∃ (raw : Raw) (u : Raw × Nat × Nat) (k : Nat) (g : Staged) (s : State), s.tidy = true ∧ s.mainUp = true ∧ (s.reach
      raw).duePick raw = some (u, k) ∧ s.ta.stage[k]? = some g ∧ (s.reach raw).dueRaw g = raw ∧ s.skipReason g = 0 ∧ s.ta.later =
      [] ∧ g.entry.parts.all (fun p => decide (p.op ≠ opLaunch)) = true) ∧
    (∃ (ball k : Nat) (rising : Bool) (s : State), s.tidy = true ∧ s.mainUp = true ∧ ball < s.fuses.variant.tios ∧ s.get
      F.TA_TIO_CTRL_MODE ball ≠ 0 ∧ k < 16 ∧ s.on F.TA_CU_CTRL_EN k = true ∧ s.get F.TA_CU_CTRL_SRC k = ball ∧ s.cuEdge k rising
      = true ∧ (s.cu k).lastRaw = none ∧ (s.cu k).phase = 0 ∧ (s.cu k).fifo.length < 64 ∧ (s.reach 0).tioBlind ball
      0 = false) ∧
    (∃ (k : Nat) (x : Capture) (r : List Capture) (s : State), s.tidy = true ∧ s.mainUp = true ∧ k < 16 ∧ (∀ j : Nat, j < 16 →
      s.cuReady j = decide (j = k)) ∧ (s.cu k).fifo = x :: r) ∧
    (∃ (raw : Raw) (b ofs : Nat) (g : Staged) (s : State), s.ta.stage[0]? = some g ∧ (s.reach raw).dueRaw g = raw ∧ g.entry.parts
      = [⟨opEdgeHi, b, ofs, 0⟩] ∧ g.entry.evt = false ∧ g.last = false ∧ s.on F.TA_TIO_CTRL_LEVEL b = false ∧ Store.get 0
      s.ta.lastEdge b ≠ raw / 512 + 1 ∧ s.ta.falls = [] ∧ (s.reach raw).laterAt ⟨g, 0, ⟨opEdgeHi, b, ofs, 0⟩, false, false, 0⟩ = (raw, false)) ∧
    (∃ (ball k : Nat) (rising : Bool) (w : Raw) (s : State), s.tidy = true ∧ s.mainUp = true ∧ ball < s.fuses.variant.tios ∧ s.get
      F.TA_TIO_CTRL_MODE ball ≠ 0 ∧ k < 16 ∧ s.on F.TA_CU_CTRL_EN k = true ∧ s.get F.TA_CU_CTRL_SRC k = ball ∧ s.cuEdge k rising
      = true ∧ (s.cu k).lastRaw = none ∧ (s.reach w).tioBlind ball w = true) :=
  ⟨⟨30000000000, 30000000000, 5, act0, armed [], by decide +kernel⟩,
    ⟨30000000000, 30000000000, 5, act0, armed [(actionKey 5, 7)], by decide +kernel⟩,
    ⟨30000000000, (30000000000, 5, 0), 0, occ0, staged 1, by decide +kernel⟩,
    ⟨30000000000, (30000000000, 5, 0), 0, occ0, staged 0, by decide +kernel⟩,
    ⟨15, 15, false, captures, by decide +kernel⟩,
    ⟨15, ⟨true, 1, 0, 5⟩, [], delivers, by decide +kernel⟩,
    ⟨30000000000, 3, 0, occ0, staged 0, by decide +kernel⟩,
    ⟨15, 15, false, _, { captures with cal := { captures.cal with run := some balls } }, by decide +kernel, by decide +kernel, by decide +kernel,
      by decide +kernel, by decide +kernel, by decide +kernel, by decide +kernel, by decide +kernel, by decide +kernel, blind_at rfl rfl 15⟩⟩

theorem witness_TimedActionCommandsComplete :
    (∃ (c : Cmd) (first n : Nat) (w : State) (l : List (Bool × Action)) (s : State), c.admitted s true ∧ c.readOk (c.begun s) (64
      * n) ∧ w = c.afterRead (c.begun s) (64 * n) ∧ l = (List.range n).map (fun i => w.parseAction (sub (c.input w (64 * n)) (64
      * i) 64)) ∧ s.tidy = true ∧ c.reservedOk 0x7FFF3FFF 0 0 true = true ∧ actionRange c.a.toNat 256 = some (first, n) ∧ l.any
      (fun x => !x.1) = true) ∧
    (∃ (c : Cmd) (first n : Nat) (w : State) (l : List (Bool × Action)) (s : State), ∃ p, c.admitted s true ∧ c.readOk (c.begun
      s) (64 * n) ∧ w = c.afterRead (c.begun s) (64 * n) ∧ l = (List.range n).map (fun i => w.parseAction (sub (c.input w (64 *
      n)) (64 * i) 64)) ∧ s.tidy = true ∧ c.reservedOk 0x7FFF3FFF 0 0 true = true ∧ actionRange c.a.toNat 256 = some (first, n) ∧
      l.any (fun x => !x.1) = false ∧ w.partConflict c.agent (l.map Prod.snd) = some p) ∧
    (∃ (c : Cmd) (first n : Nat) (w : State) (l : List (Bool × Action)) (s : State), c.admitted s true ∧ c.readOk (c.begun s) (64
      * n) ∧ w = c.afterRead (c.begun s) (64 * n) ∧ l = (List.range n).map (fun i => w.parseAction (sub (c.input w (64 * n)) (64
      * i) 64)) ∧ s.tidy = true ∧ c.reservedOk 0x7FFF3FFF 0 0 true = true ∧ actionRange c.a.toNat 256 = some (first, n) ∧ l.any
      (fun x => !x.1) = false ∧ w.partConflict c.agent (l.map Prod.snd) = none) ∧
    (∃ (c : Cmd) (first n : Nat) (s : State), c.admitted s true ∧ s.tidy = true ∧ c.reservedOk 0x7FFF3FFF 0 0 false = true ∧
      actionRange c.a.toNat 16384 = some (first, n)) ∧
    (∃ (c : Cmd) (r : Fin 32) (first n : Nat) (s : State), c.src = .ring r ∧ c.admitted s true ∧ c.dmaErr = false ∧ c.reservedOk
      0x7FFF3FFF 0 0 true = true ∧ actionRange c.a.toNat 256 = some (first, n) ∧ ((c.begun s).readWords (actionKey first) (4 *
      n)).1 = false) ∧
    (∃ (c : Cmd) (r : Fin 32) (first n : Nat) (s : State), c.src = .ring r ∧ c.admitted s true ∧ c.dmaErr = false ∧ c.reservedOk
      0x7FFF3FFF 0 0 true = true ∧ actionRange c.a.toNat 256 = some (first, n) ∧ ((c.begun s).readWords (actionKey first) (4 *
      n)).1 = true) ∧
    (∃ (c : Cmd) (r : Fin 32) (s : State), s.tidy = true ∧ c.admitted s true ∧ c.src = .ring r ∧ c.dmaErr = false ∧ c.reservedOk
      0x3FFF007F 0 0x0FFFC00F true = true ∧ s.bonded (bits c.a.toNat 0 7 / 4) = true ∧ 64 ≤ bits c.a.toNat 16 14 ∧ bits c.a.toNat
      16 14 ≤ s.eff F.STR_MAXFRM_MAXFRM (bits c.a.toNat 0 7 / 4) ∧ s.on F.TA_LQ_CTRL_EN (bits c.a.toNat 0 7) = true ∧ (c.cAt 0
      4).testBit 3 = false ∧ s.eff F.TA_LQ_CTRL_DEPTH (bits c.a.toNat 0 7) ≤ (s.lq (bits c.a.toNat 0 7)).frames.length) ∧
    (∃ (c : Cmd) (r : Fin 32) (s : State), s.tidy = true ∧ c.admitted s true ∧ c.src = .ring r ∧ c.dmaErr = false ∧ c.reservedOk
      0x3FFF007F 0 0x0FFFC00F true = true ∧ s.bonded (bits c.a.toNat 0 7 / 4) = true ∧ 64 ≤ bits c.a.toNat 16 14 ∧ bits c.a.toNat
      16 14 ≤ s.eff F.STR_MAXFRM_MAXFRM (bits c.a.toNat 0 7 / 4) ∧ s.on F.TA_LQ_CTRL_EN (bits c.a.toNat 0 7) = true ∧ (c.cAt 0
      4).testBit 3 = false ∧ (s.lq (bits c.a.toNat 0 7)).frames.length < s.eff F.TA_LQ_CTRL_DEPTH (bits c.a.toNat 0 7) ∧ (c.begun
      s).takeFrame (bits c.a.toNat 0 7 / 4) (bits c.a.toNat 16 14) ≠ none) ∧
    (∃ (c : Cmd) (r : Fin 32) (s : State), s.tidy = true ∧ c.admitted s true ∧ c.src = .ring r ∧ c.reservedOk 0x7F 0 0 false =
      true ∧ s.bonded (c.a.toNat / 4) = true) ∧
    (∃ (c : Cmd) (s : State), c.admitted s true ∧ s.tidy = true ∧ c.reservedOk 0xFF 0 0 false = true ∧ s.claimable c.a.toNat =
      false) ∧
    (∃ (c : Cmd) (s : State), c.admitted s true ∧ s.tidy = true ∧ c.reservedOk 0xFF 0 0 false = true ∧ s.claimable c.a.toNat =
      true) ∧
    (∃ (c : Cmd) (s : State), c.admitted s true ∧ s.tidy = true ∧ c.reservedOk 0xFF 0 0 false = true ∧ s.claimable c.a.toNat =
      true) ∧
    (∃ (c : Cmd) (s : State), c.admitted s true ∧ s.tidy = true ∧ c.reservedOk 0xFF 0 0 false = true ∧ s.claimable c.a.toNat =
      true) :=
  ⟨⟨image 1 8 0, 0, 1, _, _, up, admitted_ring 0 rfl (by decide +kernel), readOk_ring 0 rfl rfl, rfl, rfl, by decide +kernel⟩,
    ⟨image 1 opEdgeHi 3, 0, 1, _, _, up, ⟨opEdgeHi, 3, 0, 0⟩, admitted_ring 0 rfl (by decide +kernel), readOk_ring 0 rfl rfl,
      rfl, rfl, by decide +kernel⟩,
    ⟨image 2 opEdgeHi 3, 0, 2, _, _, fix up [(F.TA_TIO_CTRL_MODE, 2, 3), (F.TA_CLAIM_OWNER, 67, 3), (F.TA_CLAIM_HELD, 1, 3)],
      admitted_ring 0 rfl (by decide +kernel), readOk_ring 0 rfl rfl, rfl, rfl, by decide +kernel⟩,
    ⟨{ cmd with a := 0x13FFF }, 16383, 1, up, admitted_ring 0 rfl (by decide +kernel), by decide +kernel⟩,
    ⟨{ cmd with a := 0x10005 }, 0, 5, 1, up, rfl, admitted_ring 0 rfl (by decide +kernel), by decide +kernel⟩,
    ⟨{ cmd with a := 0x10005 }, 0, 5, 1, armed [(actionKey 5, 7)], rfl, admitted_ring 0 rfl (by decide +kernel),
      by decide +kernel⟩,
    ⟨{ cmd with a := 0x40007F }, 0, { fix up [(F.TA_LQ_CTRL_EN, 1, 127), (F.TA_LQ_CTRL_DEPTH, 1, 127)] with ta := { up.ta with
      lqs := [(127, ⟨[⟨[], [], [], 0, false, none, .launch 127⟩], none⟩)] } }, rfl, admitted_ring 0 rfl (by decide +kernel),
      by decide +kernel⟩,
    ⟨{ cmd with a := 0x40007F }, 0, fix up [(F.TA_LQ_CTRL_EN, 1, 127), (F.TA_LQ_CTRL_DEPTH, 2, 127), (F.STR_POOL_RESV, 64, 31)],
      rfl, admitted_ring 0 rfl (by decide +kernel), by decide +kernel⟩,
    ⟨{ cmd with a := 0x7F }, 0, up, rfl, admitted_ring 0 rfl (by decide +kernel), by decide +kernel⟩,
    ⟨{ cmd with a := 248 }, up, admitted_ring 0 rfl (by decide +kernel), by decide +kernel⟩,
    ⟨{ cmd with a := 247 }, up, admitted_ring 0 rfl (by decide +kernel), by decide +kernel⟩,
    ⟨{ cmd with a := 23 }, up, admitted_ring 0 rfl (by decide +kernel), by decide +kernel⟩,
    ⟨{ cmd with a := 39 }, up, admitted_ring 0 rfl (by decide +kernel), by decide +kernel⟩⟩

theorem witness_WritesFollowAccessCodes :
    (∃ (ag : Agent) (a : Nat) (s : State), s.reaches ag a) ∧
    (∃ (ag : Agent) (a i : Nat) (r : Reg) (x : Slice) (s : State), s.reaches ag a ∧ s.tidy = true ∧ (a / 0x10000 = 3 ∨ a /
      0x10000 = 15 ∨ a / 0x10000 = 16) ∧ a % 0x10000 ≠ 0 ∧ findReg a = some (r, i) ∧ r.wide = none ∧ x ∈ r.slices ∧ x.src = 0 ∧
      x.width = x.fld.width ∧ (r.slices.map (fun y => y.fld.place i)).Nodup ∧ x.fld.acc = .rw) ∧
    (∃ (ag : Agent) (a i : Nat) (r : Reg) (x : Slice) (s : State), s.reaches ag a ∧ s.tidy = true ∧ (a / 0x10000 = 3 ∨ a /
      0x10000 = 15 ∨ a / 0x10000 = 16) ∧ a % 0x10000 ≠ 0 ∧ findReg a = some (r, i) ∧ r.wide = none ∧ x ∈ r.slices ∧ x.src = 0 ∧
      x.width = x.fld.width ∧ (r.slices.map (fun y => y.fld.place i)).Nodup ∧ x.fld.acc = .w1c) ∧
    (∃ (ag : Agent) (a i : Nat) (r : Reg) (x : Slice) (s : State), s.reaches ag a ∧ s.tidy = true ∧ (a / 0x10000 = 3 ∨ a /
      0x10000 = 15 ∨ a / 0x10000 = 16) ∧ a % 0x10000 ≠ 0 ∧ findReg a = some (r, i) ∧ r.wide = none ∧ x ∈ r.slices ∧ x.src = 0 ∧
      x.width = x.fld.width ∧ (r.slices.map (fun y => y.fld.place i)).Nodup ∧ x.fld.acc = .ro) ∧
    (∃ (a : Nat) (s : State), s.tidy = true ∧ s.mainUp = true ∧ s.pwr.step8 = false ∧ a % 4 = 0 ∧ a < 0x200000) ∧
    (∃ (o : Nat) (s : State), s.tidy = true ∧ s.mainUp = true ∧ o % 4 = 0 ∧ o < 0x10000) ∧
    (∃ (o : Nat) (s : State), s.tidy = true ∧ s.mainUp = true ∧ o % 4 = 0 ∧ 0x10000 ≤ o ∧ o < 0x800000) ∧
    (∃ (c : Cmd) (r : Fin 32) (s : State), c.src = .ring r ∧ s.mainUp = true ∧ s.pwr.step10 = false ∧ s.mayBegin r.val
      c.tag.toNat c.fence = true) ∧
    (∃ (ag : Agent) (a i : Nat) (r : Reg) (x : Slice) (s : State), s.reaches ag a ∧ s.tidy = true ∧ ((a / 0x10000 = 3 ∨ a / 0x10000 = 15 ∨ a / 0x10000 = 16) ∧ a % 0x10000 ≠ 0
      ∨ a ∈ [0x10004, 0x20004, 0x200B0, 0x40024, 0x50008, 0xD0010, 0xD0014, 0xD0018, 0xD001C]
      ∨ (∃ n : Nat, n < 32 ∧ (a = 0x8000C + 0x1000 * n ∨ a = 0x80010 + 0x1000 * n ∨ a = 0xA0020 + 0x400 * n))
      ∨ (∃ n : Nat, n < 132 ∧ a = 0x1100C + 32 * n)) ∧ findReg a = some (r, i) ∧
      r.wide = none ∧ x ∈ r.slices ∧ x.src = 0 ∧ x.width = x.fld.width ∧ (r.slices.map (fun y => y.fld.place i)).Nodup ∧ x.fld.acc = .rwi ∧ s.idleAt x.fld.addr i = true) ∧
    (∃ (ag : Agent) (a i : Nat) (r : Reg) (x : Slice) (s : State), s.reaches ag a ∧ s.tidy = true ∧ ((a / 0x10000 = 3 ∨ a / 0x10000 = 15 ∨ a / 0x10000 = 16) ∧ a % 0x10000 ≠ 0
      ∨ a ∈ [0x10004, 0x20004, 0x200B0, 0x40024, 0x50008, 0xD0010, 0xD0014, 0xD0018, 0xD001C]
      ∨ (∃ n : Nat, n < 32 ∧ (a = 0x8000C + 0x1000 * n ∨ a = 0x80010 + 0x1000 * n ∨ a = 0xA0020 + 0x400 * n))
      ∨ (∃ n : Nat, n < 132 ∧ a = 0x1100C + 32 * n)) ∧ findReg a = some (r, i) ∧
      r.wide = none ∧ x ∈ r.slices ∧ x.src = 0 ∧ x.width = x.fld.width ∧ (r.slices.map (fun y => y.fld.place i)).Nodup ∧ x.fld.acc = .rwi ∧ s.idleAt x.fld.addr i = false ∧ 0x80000 ≤ a) ∧
    (∃ (ag : Agent) (a i : Nat) (r : Reg) (x : Slice) (s : State), s.reaches ag a ∧ s.tidy = true ∧ ((a / 0x10000 = 3 ∨ a / 0x10000 = 15 ∨ a / 0x10000 = 16) ∧ a % 0x10000 ≠ 0
      ∨ a ∈ [0x10004, 0x20004, 0x200B0, 0x40024, 0x50008, 0xD0010, 0xD0014, 0xD0018, 0xD001C]
      ∨ (∃ n : Nat, n < 32 ∧ (a = 0x8000C + 0x1000 * n ∨ a = 0x80010 + 0x1000 * n ∨ a = 0xA0020 + 0x400 * n))
      ∨ (∃ n : Nat, n < 132 ∧ a = 0x1100C + 32 * n)) ∧ findReg a = some (r, i) ∧
      r.wide = none ∧ x ∈ r.slices ∧ x.src = 0 ∧ x.width = x.fld.width ∧ (r.slices.map (fun y => y.fld.place i)).Nodup ∧ x.fld.acc = .rwi ∧ s.idleAt x.fld.addr i = false ∧ a < 0x80000) ∧
    (∃ (ag : Agent) (a i : Nat) (r : Reg) (x : Slice) (s : State), s.reaches ag a ∧ s.tidy = true ∧ ((a / 0x10000 = 3 ∨ a / 0x10000 = 15 ∨ a / 0x10000 = 16) ∧ a % 0x10000 ≠ 0
      ∨ a ∈ [0x10004, 0x20004, 0x200B0, 0x40024, 0x50008, 0xD0010, 0xD0014, 0xD0018, 0xD001C]
      ∨ (∃ n : Nat, n < 32 ∧ (a = 0x8000C + 0x1000 * n ∨ a = 0x80010 + 0x1000 * n ∨ a = 0xA0020 + 0x400 * n))
      ∨ (∃ n : Nat, n < 132 ∧ a = 0x1100C + 32 * n)) ∧ findReg a = some (r, i) ∧
      r.wide = none ∧ x ∈ r.slices ∧ x.src = 0 ∧ x.width = x.fld.width ∧ (r.slices.map (fun y => y.fld.place i)).Nodup ∧ (∃ xa st lo : Nat, x.fld.acc = .rwx xa st lo ∧ Store.get 0 (s.tbl x.fld.dom) ((xa + st * i) * 32 + lo) = 1)) ∧
    (∃ (ag : Agent) (a i : Nat) (r : Reg) (x : Slice) (s : State), s.reaches ag a ∧ s.tidy = true ∧ ((a / 0x10000 = 3 ∨ a / 0x10000 = 15 ∨ a / 0x10000 = 16) ∧ a % 0x10000 ≠ 0
      ∨ a ∈ [0x10004, 0x20004, 0x200B0, 0x40024, 0x50008, 0xD0010, 0xD0014, 0xD0018, 0xD001C]
      ∨ (∃ n : Nat, n < 32 ∧ (a = 0x8000C + 0x1000 * n ∨ a = 0x80010 + 0x1000 * n ∨ a = 0xA0020 + 0x400 * n))
      ∨ (∃ n : Nat, n < 132 ∧ a = 0x1100C + 32 * n)) ∧ findReg a = some (r, i) ∧
      r.wide = none ∧ x ∈ r.slices ∧ x.src = 0 ∧ x.width = x.fld.width ∧ (r.slices.map (fun y => y.fld.place i)).Nodup ∧ (∃ xa st lo : Nat, x.fld.acc = .rwx xa st lo ∧ Store.get 0 (s.tbl x.fld.dom) ((xa + st * i) * 32 + lo) = 0)) ∧
    (∃ (ag : Agent) (a i : Nat) (r : Reg) (x : Slice) (s : State), s.reaches ag a ∧ s.tidy = true ∧ ((a / 0x10000 = 3 ∨ a / 0x10000 = 15 ∨ a / 0x10000 = 16) ∧ a % 0x10000 ≠ 0
      ∨ a ∈ [0x10004, 0x20004, 0x200B0, 0x40024, 0x50008, 0xD0010, 0xD0014, 0xD0018, 0xD001C]
      ∨ (∃ n : Nat, n < 32 ∧ (a = 0x8000C + 0x1000 * n ∨ a = 0x80010 + 0x1000 * n ∨ a = 0xA0020 + 0x400 * n))
      ∨ (∃ n : Nat, n < 132 ∧ a = 0x1100C + 32 * n)) ∧ findReg a = some (r, i) ∧
      r.wide = none ∧ x ∈ r.slices ∧ x.src = 0 ∧ x.width = x.fld.width ∧ (r.slices.map (fun y => y.fld.place i)).Nodup ∧ summarySource a = true ∧ s.on F.HIF_CTRL_SUM_IRQ = false) ∧
    (∃ (ag : Agent) (s : State), s.tidy = true ∧ s.reaches ag 0x110024 ∧ s.on F.TST_STATUS_UNLOCKED = true) ∧
    (∃ (ag : Agent) (v : Word) (i n a : Nat) (c : Instr) (s : State), (a, n, c) ∈ [(0x8003C + 0x1000 * i, 32, Instr.strCntClr ag i v)] ∧ i < n ∧
      v.toNat.testBit 0 = false ∧ s.reaches ag a) ∧
    (∃ (o : Nat) (s : State), s.tidy = true ∧ s.mainUp = true ∧ o % 4 = 0 ∧ o < 0x800000 ∧ o + 4 = 0x800000) :=
  ⟨⟨.host, 0x17FFFC, up, reach _ _ (by decide +kernel)⟩,
    ⟨.host, 0x30008, 0, ⟨0x30008, 0, 1, none, [⟨F.TB_SLEW_SLEW_MAX, 0, 0, 11⟩]⟩, ⟨F.TB_SLEW_SLEW_MAX, 0, 0, 11⟩, up, reach _ _
      (by decide +kernel), by decide +kernel⟩,
    ⟨.host, 0x30024, 0, ((findReg 0x30024).getD (⟨0, 0, 0, none, []⟩, 0)).1, ⟨F.TB_EVT_LOCK_LOST, 0, 7, 1⟩, up, reach _ _
      (by decide +kernel), by decide +kernel⟩,
    ⟨.host, 0x30028, 0, ((findReg 0x30028).getD (⟨0, 0, 0, none, []⟩, 0)).1, ⟨F.TB_GEN_EPOCH_IDX, 0, 16, 16⟩, up, reach _ _
      (by decide +kernel), by decide +kernel⟩,
    ⟨0x80000, { up with pwr := { up.pwr with step8 := false } }, by decide +kernel⟩,
    ⟨0xFFFC, up, by decide +kernel⟩,
    ⟨0x10000, up, by decide +kernel⟩,
    ⟨cmd, 0, { up with pwr := { up.pwr with step10 := false } }, rfl, by decide +kernel⟩,
    ⟨.host, 0x8000C + 0x1000 * 31, 31, ((findReg (0x8000C + 0x1000 * 31)).getD (⟨0, 0, 0, none, []⟩, 0)).1, ⟨F.STR_MAXFRM_MAXFRM, 0, 0, 14⟩, up, reach _ _ (by decide +kernel),
      by decide +kernel, Or.inr (Or.inr (Or.inl ⟨31, by decide, by decide⟩)), by decide +kernel⟩,
    ⟨.host, 0x8000C + 0x1000 * 31, 31, ((findReg (0x8000C + 0x1000 * 31)).getD (⟨0, 0, 0, none, []⟩, 0)).1, ⟨F.STR_MAXFRM_MAXFRM, 0, 0, 14⟩, port 31 [], reach _ _ (by decide +kernel),
      by decide +kernel, Or.inr (Or.inr (Or.inl ⟨31, by decide, by decide⟩)), by decide +kernel⟩,
    ⟨.host, 0x1100C + 32 * 131, 131, ((findReg (0x1100C + 32 * 131)).getD (⟨0, 0, 0, none, []⟩, 0)).1, ⟨F.HIF_RING_PTR_MOD_US, 0, 16, 8⟩, fix up [(F.HIF_RING_CFG_EN, 1, 131)], reach _ _ (by decide +kernel),
      by decide +kernel, Or.inr (Or.inr (Or.inr ⟨131, by decide, by decide⟩)), by decide +kernel⟩,
    ⟨.host, 0x3000C, 0, ((findReg (0x3000C)).getD (⟨0, 0, 0, none, []⟩, 0)).1, ⟨F.TB_PUB_PUB_LOCKED, 0, 0, 11⟩, fix up [(F.TB_CTRL_XEN, 1, 0)], reach _ _ (by decide +kernel),
      by decide +kernel, Or.inl (by decide), by decide +kernel, by decide +kernel, by decide +kernel,
      by decide +kernel, by decide +kernel, by decide +kernel, ⟨0x30000, 0, 0, by decide +kernel⟩⟩,
    ⟨.host, 0x10004, 0, ((findReg (0x10004)).getD (⟨0, 0, 0, none, []⟩, 0)).1, ⟨F.HIF_XCTRL_INFLIGHT_MAX, 0, 0, 10⟩, up, reach _ _ (by decide +kernel),
      by decide +kernel, Or.inr (Or.inl (by decide)), by decide +kernel, by decide +kernel, by decide +kernel,
      by decide +kernel, by decide +kernel, by decide +kernel, ⟨0x10000, 0, 0, by decide +kernel⟩⟩,
    ⟨.host, 0x30024, 0, ((findReg (0x30024)).getD (⟨0, 0, 0, none, []⟩, 0)).1, ⟨F.TB_EVT_LOCK_LOST, 0, 7, 1⟩, up, reach _ _ (by decide +kernel),
      by decide +kernel, Or.inl (by decide), by decide +kernel⟩,
    ⟨.host, fix up [(F.TST_STATUS_UNLOCKED, 1, 0)], by decide +kernel, reach _ _ (by decide +kernel), by decide +kernel⟩,
    ⟨.host, 0xFFFFFFFE, 31, 32, 0x8003C + 0x1000 * 31, .strCntClr .host 31 0xFFFFFFFE, up, by decide, by decide, by decide,
      reach _ _ (by decide +kernel)⟩,
    ⟨0x7FFFFC, up, by decide +kernel⟩⟩

theorem witness_WideRegistersAndClears :
    (∃ (ag : Agent) (i : Nat) (s : State), s.reaches ag (0x11000 + 32 * i) ∧ s.reaches ag (0x11004 + 32 * i) ∧ s.tidy = true ∧ i
      < 132 ∧ s.idleAt 0x11000 i = true) ∧
    (∃ (ag : Agent) (i : Nat) (s : State), s.reaches ag (0x11000 + 32 * i) ∧ s.reaches ag (0x11004 + 32 * i) ∧ s.tidy = true ∧ i
      < 132 ∧ s.on F.HIF_RING_CFG_EN i = true) ∧
    (∃ (o : Nat) (s : State), s.mainUp = true ∧ o % 4 = 0 ∧ o < 0x10000 ∧ (s.wordErrs (mailboxKey (o / 16)) = 0 ∨ s.poisoned
      (mailboxKey (o / 16)) = true)) ∧
    (∃ (o : Nat) (s : State), s.mainUp = true ∧ o % 4 = 0 ∧ 0x11000 ≤ o ∧ o < 0x20000) ∧
    (∃ (o : Nat) (s : State), s.mainUp = true ∧ o % 4 = 0 ∧ 0x11000 ≤ o ∧ o < 0x20000) ∧
    (∃ (a : Nat) (s : State), s.mainUp = true ∧ a % 4 = 0 ∧ a < 0x200000 ∧ Store.get none s.lat.read (latchKey false a) = none) ∧
    (∃ (ag : Agent) (v : Word) (s : State), s.reaches ag 0x200FC ∧ s.tidy = true ∧ v.toNat.testBit 0 = true) ∧
    (∃ (ag : Agent) (v : Word) (s : State), s.reaches ag 0x20208 ∧ s.tidy = true ∧ v.toNat.testBit 0 = true) ∧
    (∃ (ag : Agent) (v : Word) (s : State), s.reaches ag 0xE0018 ∧ s.tidy = true ∧ v.toNat.testBit 31 = true) ∧
    (∃ (ag : Agent) (v : Word) (s : State), s.reaches ag 0xE0018 ∧ s.tidy = true ∧ v.toNat.testBit 31 = true) ∧
    (∃ (i : Nat) (v : Word) (s : State), s.tidy = true ∧ i < 32 ∧ v.toNat.testBit 0 = true ∧ s.reaches .host (0x8003C + 0x1000 *
      i) ∧ s.reaches .host (0xA007C + 0x400 * i) ∧ s.reaches .host (0x6103C + 64 * i) ∧ s.reaches .host 0x4007C ∧ s.reaches .host
      0x5007C) :=
  ⟨⟨.host, 131, up, reach _ _ (by decide +kernel), reach _ _ (by decide +kernel), by decide +kernel⟩,
    ⟨.host, 131, fix up [(F.HIF_RING_CFG_EN, 1, 131)], reach _ _ (by decide +kernel), reach _ _ (by decide +kernel),
      by decide +kernel⟩,
    ⟨0xFFFC, up, by decide +kernel⟩,
    ⟨0x11000, up, by decide +kernel⟩,
    ⟨0x1FFFC, up, by decide +kernel⟩,
    ⟨0x30040, up, by decide +kernel⟩,
    ⟨.host, 1, up, reach _ _ (by decide +kernel), by decide +kernel⟩,
    ⟨.host, 1, up, reach _ _ (by decide +kernel), by decide +kernel⟩,
    ⟨.host, 0x80000000, up, reach _ _ (by decide +kernel), by decide +kernel⟩,
    ⟨.sideband, 0x80000000, stb, State.reaches_sideband (by decide +kernel), by decide +kernel⟩,
    ⟨31, 1, up, by decide +kernel, by decide, by decide, reach _ _ (by decide +kernel), reach _ _ (by decide +kernel), reach _ _
      (by decide +kernel), reach _ _ (by decide +kernel), reach _ _ (by decide +kernel)⟩⟩

theorem witness_EnablesClaimAndAct :
    (∃ (i : Nat) (v : Word) (s : State), s.reaches .host (0x80000 + 0x1000 * i) ∧ s.tidy = true ∧ i < 32 ∧ s.mayTake .host
      (claimPort i) = true ∧ v.toNat.testBit 0 = true ∧ v.toNat.testBit 6 = false ∧ s.pstate i = psDisabled) ∧
    (∃ (i : Nat) (v : Word) (s : State), s.reaches .host (0x80000 + 0x1000 * i) ∧ s.tidy = true ∧ i < 32 ∧ s.mayTake .host
      (claimPort i) = true ∧ v.toNat.testBit 0 = false) ∧
    (∃ (ag : Agent) (i : Nat) (s : State), s.reaches ag (0x80030 + 0x1000 * i) ∧ s.tidy = true ∧ i < 32 ∧ s.pstate i ≠
      psDisabled) ∧
    (∃ (ag : Agent) (i : Nat) (v : Word) (s : State), s.reaches ag (0x80030 + 0x1000 * i) ∧ s.tidy = true ∧ i < 32 ∧ s.pstate i =
      psDisabled ∧ (2048 < v.toNat % 4096 ∨ 16384 < s.otherResv i + v.toNat % 4096)) ∧
    (∃ (ag : Agent) (i : Nat) (v : Word) (s : State), s.reaches ag (0x80030 + 0x1000 * i) ∧ s.tidy = true ∧ i < 32 ∧ s.pstate i =
      psDisabled ∧ v.toNat % 4096 ≤ 2048 ∧ s.otherResv i + v.toNat % 4096 ≤ 16384 ∧ v.toNat % 4096 ≠ 0 ∧ s.owner (claimPool i) =
      0) ∧
    (∃ (ag : Agent) (i : Nat) (v : Word) (s : State), s.reaches ag (0x50100 + 16 * i) ∧ s.tidy = true ∧ i < 16 ∧ s.mayTake ag
      (claimTio i) = true ∧ v.toNat % 4 = 2 ∧ s.get F.TA_TIO_CTRL_MODE i = 0 ∧ s.owner (claimTio i) = 0) ∧
    (∃ (ag : Agent) (i : Nat) (v : Word) (s : State), s.reaches ag (0x50100 + 16 * i) ∧ s.tidy = true ∧ i < 16 ∧ s.mayTake ag
      (claimTio i) = true ∧ v.toNat % 4 = 0 ∧ s.get F.TA_TIO_CTRL_MODE i = 2) ∧
    (∃ (ag : Agent) (i : Nat) (v : Word) (s : State), s.reaches ag (0x50300 + 32 * i) ∧ s.tidy = true ∧ i < 16 ∧ v.toNat.testBit
      0 = true ∧ s.on F.TA_PG_CTRL_EN i = false) ∧
    (∃ (ag : Agent) (i : Nat) (v : Word) (s : State), s.reaches ag (0x50300 + 32 * i) ∧ s.tidy = true ∧ i < 16 ∧ v.toNat.testBit
      0 = false ∧ s.on F.TA_PG_CTRL_EN i = true ∧ (s.gen (8 + i)).high = true) ∧
    (∃ (ag : Agent) (i : Nat) (v : Word) (s : State), s.reaches ag (0xC0080 + 16 * i) ∧ s.tidy = true ∧ i < 4 ∧ s.pwr.aonUp =
      true ∧ (ag ≠ .sideband → (Store.get (0, 0) s.ato.x6 (0xC0080 + 16 * i)).2 = 0) ∧ v.toNat.testBit 0 = true ∧ s.on
      F.AT_AL_CTRL_EN i = false ∧ s.tai < s.get F.AT_AL_TIME_TIME i) ∧
    (∃ (ag : Agent) (i : Nat) (v : Word) (s : State), s.reaches ag (0xC0080 + 16 * i) ∧ s.tidy = true ∧ i < 4 ∧ s.pwr.aonUp =
      true ∧ (ag ≠ .sideband → (Store.get (0, 0) s.ato.x6 (0xC0080 + 16 * i)).2 = 0) ∧ v.toNat.testBit 0 = true ∧ s.on
      F.AT_AL_CTRL_EN i = false ∧ s.get F.AT_AL_TIME_TIME i ≤ s.tai ∧ s.get F.AT_AL_REP_REP i ≠ 0 ∧ s.tai < 2 ^ 47) ∧
    (∃ s : State, s.tidy = true ∧ s.reaches .host (0x80000 + 0x1000 * 31) ∧ s.reaches .host (0x40100 + 32 * 7) ∧ s.reaches .host
      (0x50500 + 16 * 15) ∧ s.reaches .host (0x51000 + 16 * 127) ∧ ∀ p ∈ [(claimPort 31, F.STR_CTRL_EN, 31), (claimCko 7,
      F.CK_CKO_CTRL_EN, 7), (claimCu 15, F.TA_CU_CTRL_EN, 15), (claimLq 127, F.TA_LQ_CTRL_EN, 127)], s.mayTake .host p.1 = false
      ∧ s.on p.2.1 p.2.2 = true) ∧
    (∃ s : State, s.tidy = true ∧ s.reaches .host (0x80000 + 0x1000 * 31) ∧ s.reaches .host (0x40100 + 32 * 7) ∧ s.reaches .host
      (0x50500 + 16 * 15) ∧ s.reaches .host (0x51000 + 16 * 127) ∧ s.get F.TA_TIO_CTRL_MODE 0 ≠ 0 ∧ ∀ p ∈ [(claimPort 31,
      F.STR_CTRL_EN, 31), (claimCko 7, F.CK_CKO_CTRL_EN, 7), (claimCu 15, F.TA_CU_CTRL_EN, 15), (claimLq 127, F.TA_LQ_CTRL_EN,
      127)], s.owner p.1 = 0 ∧ s.mayTake .host p.1 = true ∧ s.on p.2.1 p.2.2 = true) :=
  ⟨⟨31, 1, up, reach _ _ (by decide +kernel), by decide +kernel⟩,
    ⟨31, 0, up, reach _ _ (by decide +kernel), by decide +kernel⟩,
    ⟨.host, 31, port 31 [], reach _ _ (by decide +kernel), by decide +kernel⟩,
    ⟨.host, 31, 2049, up, reach _ _ (by decide +kernel), by decide +kernel⟩,
    ⟨.host, 31, 2048, up, reach _ _ (by decide +kernel), by decide +kernel⟩,
    ⟨.host, 15, 2, up, reach _ _ (by decide +kernel), by decide +kernel⟩,
    ⟨.host, 15, 0, fix up [(F.TA_TIO_CTRL_MODE, 2, 15)], reach _ _ (by decide +kernel), by decide +kernel⟩,
    ⟨.host, 15, 1, up, reach _ _ (by decide +kernel), by decide +kernel⟩,
    ⟨.host, 15, 0, { fix up [(F.TA_PG_CTRL_EN, 1, 15)] with ck := { up.ck with gens := [(23, { Gen.idle with high := true })] }
      }, reach _ _ (by decide +kernel), by decide +kernel⟩,
    ⟨.host, 3, 1, fix (aon up) [(F.AT_AL_TIME_TIME, 5, 3)], reach _ _ (by decide +kernel), by decide +kernel⟩,
    ⟨.sideband, 3, 1, fix (aon lrnUp) [(F.AT_AL_REP_REP, 60, 3)], State.reaches_sideband (by decide +kernel), by decide +kernel⟩,
    ⟨claimed 129, by decide +kernel, reach _ _ (by decide +kernel), reach _ _ (by decide +kernel), reach _ _ (by decide +kernel),
      reach _ _ (by decide +kernel), by decide +kernel⟩,
    ⟨claimed 0, by decide +kernel, reach _ _ (by decide +kernel), reach _ _ (by decide +kernel), reach _ _ (by decide +kernel),
      reach _ _ (by decide +kernel), by decide +kernel, by decide +kernel⟩⟩

theorem witness_RingsMoveAsTabled :
    (∃ (r : Nat) (v : Word) (s : State), s.tidy = true ∧ s.mainUp = true ∧ r < 132 ∧ s.doorbellOk r v.toNat = true) ∧
    (∃ (r : Nat) (v : Word) (s : State), s.tidy = true ∧ s.mainUp = true ∧ r < 132 ∧ s.doorbellOk r v.toNat = false) ∧
    (∃ (d : Bytes) (r : Nat) (s : State), s.tidy = true ∧ s.mainUp = true ∧ s.hif.inflight.length < s.eff
      F.HIF_XCTRL_INFLIGHT_MAX ∧ s.nextCr = some r ∧ s.on F.TST_ECC_CTRL_ARM = false ∧ s.ready = true ∧ opcodes.contains (leAt d 0 1) = true) ∧
    (∃ (d : Bytes) (r : Nat) (s : State), s.tidy = true ∧ s.mainUp = true ∧ s.hif.inflight.length < s.eff
      F.HIF_XCTRL_INFLIGHT_MAX ∧ s.nextCr = some r ∧ s.on F.TST_ECC_CTRL_ARM = false ∧ s.ready = true ∧ opcodes.contains (leAt d 0 1) = false) ∧
    (∃ (r : Nat) (f : Flight) (e : Bytes) (l : List Flight) (s : State), s.ringFull r = false ∧ s.hif.inflight = f :: l ∧ f.stage
      = .held r e) ∧
    (∃ (r : Nat) (s : State), s.tidy = true ∧ Store.get 0 s.hif.unsig r ≠ 0 ∧ s.get F.HIF_RING_PTR_MOD_US r ≠ 0 ∧ s.on
      F.MSIX_CTRL_MASK (s.get F.HIF_RING_CFG_VEC r) = false ∧ s.hif.cfg.msixOn = true ∧ s.hif.cfg.mask = false) ∧
    (∃ (r : Nat) (s : State), s.tidy = true ∧ Store.get 0 s.hif.unsig r ≠ 0 ∧ s.get F.HIF_RING_PTR_MOD_US r ≠ 0 ∧ s.on
      F.MSIX_CTRL_MASK (s.get F.HIF_RING_CFG_VEC r) = true ∧ s.hif.cfg.msixOn = true) ∧
    (∃ (ag : Agent) (i : Nat) (v : Word) (s : State), s.reaches ag (0x11008 + 32 * i) ∧ s.tidy = true ∧ i < 132 ∧ v.toNat.testBit
      0 = true ∧ s.on F.HIF_RING_CFG_EN i = false) ∧
    (∃ (speed width : Nat) (s : State), s.tidy = true ∧ s.mainUp = true ∧ 1 ≤ speed ∧ speed ≤ 4 ∧ (width = 1 ∨ width = 2 ∨ width
      = 4) ∧ width ≤ s.fuses.variant.lanes) ∧
    (∃ (r : Nat) (s : State), s.tidy = true ∧ Store.get 0 s.hif.unsig r ≠ 0 ∧ s.get F.HIF_RING_PTR_MOD_US r ≠ 0 ∧ s.hif.cfg.msixOn = false) ∧
    (∃ (r : Nat) (s : State), s.tidy = true ∧ Store.get 0 s.hif.unsig r ≠ 0 ∧ s.get F.HIF_RING_PTR_MOD_US r ≠ 0 ∧ s.hif.cfg.msixOn = true ∧
      s.hif.cfg.mask = true) :=
  ⟨⟨131, 3, fix up [(F.HIF_RING_CFG_EN, 1, 131), (F.HIF_RING_CFG_LOG2, 4, 131), (F.HIF_RING_PTR_DEVPTR, 3, 131)],
      by decide +kernel⟩,
    ⟨131, 0xFFFFFFFF, up, by decide +kernel⟩,
    ⟨padTo 32 [0x60], 31, rung 31, by decide +kernel⟩,
    ⟨padTo 32 [0x61], 0, rung 0, by decide +kernel⟩,
    ⟨63, ⟨1, 5, 0, 2, .held 63 []⟩, [], [], { rung 63 with hif := { (rung 63).hif with inflight := [⟨1, 5, 0, 2, .held 63 []⟩] }
      }, by decide +kernel⟩,
    ⟨131, { fix up [(F.HIF_RING_PTR_MOD_US, 1, 131), (F.MSIX_CTRL_MASK, 0, 0), (F.HIF_RING_CFG_VEC, 0, 131)] with hif := { up.hif
      with unsig := [(131, 1)], cfg := { up.hif.cfg with msixOn := true } } }, by decide +kernel⟩,
    ⟨131, { fix up [(F.HIF_RING_PTR_MOD_US, 1, 131), (F.MSIX_CTRL_MASK, 1, 0), (F.HIF_RING_CFG_VEC, 0, 131)] with hif := { up.hif
      with unsig := [(131, 1)], cfg := { up.hif.cfg with msixOn := true } } }, by decide +kernel⟩,
    ⟨.host, 131, 1, up, reach _ _ (by decide +kernel), by decide +kernel⟩,
    ⟨4, 4, up, by decide +kernel⟩,
    ⟨131, { fix up [(F.HIF_RING_PTR_MOD_US, 1, 131)] with hif := { up.hif with unsig := [(131, 1)] } }, by decide +kernel⟩,
    ⟨131, { fix up [(F.HIF_RING_PTR_MOD_US, 1, 131)] with
      hif := { up.hif with unsig := [(131, 1)], cfg := { up.hif.cfg with msixOn := true, mask := true } } }, by decide +kernel⟩⟩

theorem witness_CommandsCompleteInOneEntry :
    (∃ (c : Cmd) (s : State), c.admitted s false ∧ c.reservedOk 0 0 0 false = true) ∧
    (∃ (c : Cmd) (r : Fin 32) (cp : Nat) (s : State), c.admitted s false ∧ c.src = .ring r ∧ c.reservedOk 0 0 0 false = true ∧
      s.inFlight r.val c.tag.toNat = false ∧ cp = 32 + s.get F.HIF_RING_CFG_CPSEL r.val ∧ c.quiet = false ∧ s.ringFull cp =
      false) ∧
    (∃ (c : Cmd) (r : Fin 32) (cp : Nat) (s : State), c.admitted s false ∧ c.src = .ring r ∧ c.reservedOk 0 0 0 false = true ∧
      s.inFlight r.val c.tag.toNat = false ∧ cp = 32 + s.get F.HIF_RING_CFG_CPSEL r.val ∧ c.quiet = true) ∧
    (∃ (c : Cmd) (s : State), c.admitted s false ∧ s.tidy = true ∧ c.src = .sideband ∧ c.reservedOk 0 0 0 false = true) ∧
    (∃ (c : Cmd) (s : State), c.admitted s true ∧ s.stbyUp = true ∧ c.a.toNat = 0x5A5A ∧ c.reservedOk 0x5A5A 0 0 false = true ∧
      (∀ r, c.src = .ring r → c.quiet = true ∨ s.ringFull (32 + s.get F.HIF_RING_CFG_CPSEL r.val) = false)) ∧
    (∃ (c : Cmd) (r : Fin 32) (cp : Nat) (s : State), c.admitted s true ∧ s.stbyUp = true ∧ c.a.toNat = 0x5A5A ∧ c.reservedOk 0x5A5A 0 0 false =
      true ∧ c.src = .ring r ∧ cp = 32 + s.get F.HIF_RING_CFG_CPSEL r.val ∧ c.quiet = false ∧ s.ringFull cp = true ∧ s.inFlight r.val
      c.tag.toNat = false) ∧
    (∃ (r : Nat) (f : Flight) (e : Bytes) (l : List Flight) (s : State), s.stbyUp = true ∧ s.ringFull r = false ∧ s.hif.inflight = f :: l ∧
      f.stage = .heldReset r e) :=
  ⟨⟨cmd, up, admitted_ring 0 rfl (by decide +kernel), by decide +kernel⟩,
    ⟨cmd, 0, 32, rung 32, admitted_ring 0 rfl (by decide +kernel), by decide +kernel⟩,
    ⟨{ cmd with flags := 2 }, 0, 32, up, admitted_ring 0 rfl (by decide +kernel), by decide +kernel⟩,
    ⟨sbCmd, stb, ⟨by decide +kernel, by decide +kernel, nofun⟩, by decide +kernel⟩,
    ⟨{ cmd with a := 0x5A5A }, rung 0, admitted_ring 0 rfl (by decide +kernel), by decide +kernel, by decide +kernel, by decide +kernel,
      fun r h => by cases h; exact Or.inr (by decide +kernel)⟩,
    ⟨{ cmd with a := 0x5A5A }, 0, 32, up, admitted_ring 0 rfl (by decide +kernel), by decide +kernel⟩,
    ⟨63, ⟨1, 5, 0, 2, .heldReset 63 []⟩, [], [], { rung 63 with hif := { (rung 63).hif with inflight := [⟨1, 5, 0, 2, .heldReset 63 []⟩] } },
      by decide +kernel⟩⟩

theorem witness_SidebandTransactionsAnswer :
    (∃ (s : State), s.sbAnswers = true ∧ s.on F.HIF_SB_CTRL_PEC_REQ = true) ∧
    (∃ (a : Nat) (s : State), s.sbAnswers = true ∧ s.reaches .sideband a) ∧
    (∃ (a : Nat) (s : State), s.sbAnswers = true ∧ a % 4 = 0 ∧ sidebandMay a = false ∧ s.servicedAt a = none) ∧
    (∃ s : State, s.tidy = true ∧ s.sbAnswers = true ∧ s.sb.readAddr < 0x180000 ∧ s.sb.readAddr % 4 = 0 ∧ mainReg s.sb.readAddr =
      true ∧ s.mainUp = false) ∧
    (∃ s : State, s.tidy = true ∧ s.sbAnswers = true ∧ s.alertLow = true) ∧
    (∃ (d : Bytes) (s : State), s.sbAnswers = true ∧ d.length = 32 ∧ ∃ f, cmdMeaning (leAt d 0 1) = some f) ∧
    (∃ (d : Bytes) (s : State), s.sbAnswers = true ∧ d.length = 32 ∧ cmdMeaning (leAt d 0 1) = none ∧ s.on F.HIF_SB_STAT_CMD_BUSY
      = false) ∧
    (∃ (d : Bytes) (s : State), s.sbAnswers = true ∧ d.length = 32 ∧ s.on F.HIF_SB_STAT_CMD_BUSY = true) ∧
    (∃ (off : Nat) (s : State), s.sbAnswers = true ∧ off % 16 = 0) ∧
    (∃ (off : Nat) (s : State), s.sbAnswers = true ∧ off % 16 ≠ 0) ∧
    (∃ (d : Bytes) (s : State), s.tidy = true ∧ s.sbAnswers = true ∧ (d.length = 16 ∨ d.length = 32) ∧ s.mainUp = false) ∧
    (∃ (d : Bytes) (s : State), ∃ (j : Nat), s.tidy = true ∧ s.sbAnswers = true ∧ (d.length = 16 ∨ d.length = 32) ∧ s.mainUp =
      true ∧ 16 * j < d.length) ∧
    (∃ s : State, s.tidy = true ∧ s.sbAnswers = true ∧ s.mainUp = false) ∧
    (∃ s : State, s.tidy = true ∧ s.sbAnswers = true ∧ s.mainUp = true ∧ (s.mailboxCheck s.sb.mbPtr 32).1 = false) ∧
    (∃ s : State, s.tidy = true ∧ s.sbAnswers = true ∧ s.mainUp = true ∧ (s.mailboxCheck s.sb.mbPtr 32).1 = true) ∧
    (∃ (c : Cmd) (b : Bytes) (j : Nat) (x : Bytes) (s : State), s.tidy = true ∧ c.src = .sideband ∧ c.clash = some (j, x) ∧
      16 * j < b.length ∧ b.length ≤ 65520) ∧
    (∃ (a q : Nat) (s : State), s.tidy = true ∧ s.sbAnswers = true ∧ a % 4 = 0 ∧ s.servicedAt a = some q) ∧
    (∃ (code : Nat) (s : State), s.sbAnswers = true ∧ sbCodes.contains code = false) :=
  ⟨⟨fix lrn [(F.HIF_SB_CTRL_PEC_REQ, 1, 0)], by decide +kernel⟩,
    ⟨0xD0000, lrn, by decide +kernel, State.reaches_sideband (by decide +kernel)⟩,
    ⟨0, lrn, by decide +kernel⟩,
    ⟨sbDown 0x30008, by decide +kernel⟩,
    ⟨fix lrn [(F.HIF_SB_ALERT_ALERT, 1, 0), (F.HIF_SB_CTRL_AMASK, 1, 0)], by decide +kernel⟩,
    ⟨List.replicate 32 0, lrn, by decide +kernel, by decide +kernel, execNop, rfl⟩,
    ⟨List.replicate 32 0xFF, lrn, by decide +kernel⟩,
    ⟨List.replicate 32 0, fix lrn [(F.HIF_SB_STAT_CMD_BUSY, 1, 0)], by decide +kernel⟩,
    ⟨65520, lrn, by decide +kernel⟩,
    ⟨8, lrn, by decide +kernel⟩,
    ⟨List.replicate 16 0, lrn, by decide +kernel⟩,
    ⟨List.replicate 32 0, lrnUp, 1, by decide +kernel⟩,
    ⟨lrn, by decide +kernel⟩,
    ⟨lrnUp, by decide +kernel⟩,
    ⟨{ lrnUp with mem := { lrnUp.mem with errs := [(mailboxKey 0, 7)] } }, by decide +kernel⟩,
    ⟨{ sbCmd with clash := some (1, [7]) }, List.replicate 32 0, 1, [7], lrnUp, by decide +kernel⟩,
    ⟨0x9F000, 3, fix lrnUp [(F.PSM_STAT_SERVICE, 1, 3)], by decide +kernel⟩,
    ⟨0xFF, lrn, by decide +kernel⟩⟩


end Sys2Proof.Tests
end

section
/-!
PROOFS of the family 01_architecture (R30).

O12 is refuted by a state that no run reaches. A learning update that is on its way over X2 (`At.learnt`) commits on the first 32 kHz
edge before the seed, and `State.tidy` does not bound the table point that it names. The registers of AT_TBL stand at equal strides
below MON_AT_STAT, so a point far beyond the table's 64 has CAL_INV's own place, and its update clears the mark before the seed looks
at it.
-/
namespace Sys2Proof.Machine

/-- The table point, beyond the 64 of R239, whose register would stand where MON_AT_STAT does. -/
def calInvPoint : Nat := (F.MON_AT_STAT_CAL_INV.addr - F.AT_TBL_E.addr) / F.AT_TBL_E.stride

/-- That point's error field and MON_AT_STAT.CAL_INV are one place of domain AON. -/
theorem tblE_place_calInvPoint : F.AT_TBL_E.place calInvPoint = F.MON_AT_STAT_CAL_INV.place := by decide

/-- The power-up run (kind 1) without REF_ALIGN. -/
def powerUpRun : CalRun :=
  { kind := 1, steps := 7, ports := 0, nostore := false, periodic := false, refQual := false, cmd := none }

/-- The end of start-up step 9 in COLD: the cell sound, the power-on flag clear, the calendar marked invalid; and an update of 0 to
`calInvPoint` on its way to the Atoll. -/
def doubtfulAtoll : State :=
  let s : State :=
    { State.reset with
      pwr := { Pwr.reset with stby := .up, mainRun := true, step8 := true, synStarted := true }
      cal := { Cal.reset with run := some powerUpRun }
      ato := { At.reset with learnt := some (calInvPoint, 0) } }
  ((s.lower F.AT_STAT_CELL_LOSS).lower F.AT_STAT_APOR).raise F.MON_AT_STAT_CAL_INV

/-- The state meets every premise of O12, by the third of its three doubts. -/
theorem doubtfulAtoll_premises :
    doubtfulAtoll.tidy = true ∧ doubtfulAtoll.mainUp = true ∧ doubtfulAtoll.cal.run = some powerUpRun
      ∧ doubtfulAtoll.pwr.step10 = false ∧ doubtfulAtoll.tbState = tbCold ∧ doubtfulAtoll.tb.cur = none
      ∧ doubtfulAtoll.on F.MON_AT_STAT_CAL_INV = true := by decide +kernel

/-- One untrimmed cycle before the captured edge the update commits, and CAL_INV reads 0. -/
theorem doubtfulAtoll_calInv_lost : (doubtfulAtoll.toSeedEdge 0 1).on F.MON_AT_STAT_CAL_INV = false := by decide +kernel

/-- POWER_UP_CAL_END one cycle on ends in SEEDED. -/
theorem doubtfulAtoll_seeded :
    ∃ t, exec (.powerUpCalEnd [] 0 1) doubtfulAtoll = .next t ∧ t.tbState = tbSeeded := by
  refine ⟨_, rfl, ?_⟩
  decide +kernel

/-- Refutes O12: a learning update that names a point outside the table clears CAL_INV in the cycle before the seed, and the timebase
is SEEDED at step 10. -/
theorem not_noSeedFromADoubtfulAtoll : ¬ Obligations.NoSeedFromADoubtfulAtoll := by
  unfold Obligations.NoSeedFromADoubtfulAtoll
  intro h
  obtain ⟨htidy, hup, hrun, h10, hcold, hcur, hinv⟩ := doubtfulAtoll_premises
  obtain ⟨t, ht, -, htcold, -⟩ := h [] 0 1 powerUpRun doubtfulAtoll htidy hup hrun rfl h10 hcold hcur (.inr (.inr hinv))
  obtain ⟨t', ht', hseeded⟩ := doubtfulAtoll_seeded
  have htt : t = t' := Host.Outcome.next.inj (ht.symm.trans ht')
  rw [htt, hseeded] at htcold
  exact absurd htcold (by decide)

end Sys2Proof.Machine
end

section
/-!
PROOFS of the family 02_timebase (R47).

A read or write of a code word leaves the timebase: RAWCT, what it holds beyond its registers, and every register of its block. So an
epoch that is the first of its cycle is the record that `State.newEpoch` names, whatever its slot's code words hold.
-/
namespace Sys2Proof.Machine

/-! ### Blocks of the register map -/

/-- The 64-KiB block of BAR0 in which the field of index `i` stands. -/
def Fld.block (f : Fld) (i : Nat) : Nat := f.key i / 2 ^ 21

/-- The block of the timebase's registers (R69). -/
abbrev tbBlock : Nat := 3

theorem State.get_set_other_block (s : State) {f g : Fld} {i j : Nat} (v : Nat) (h : g.block j ≠ f.block i) :
    (s.set f v i).get g j = s.get g j :=
  State.get_set_ne s f g v i j (.inr fun hk => h (congrArg (· / 2 ^ 21) hk))

/-! ### What leaves the timebase -/

/-- RAWCT, what the timebase holds beyond its registers, and the registers of its block are as they were. -/
def State.timebaseKept (s t : State) : Prop :=
  t.cyc = s.cyc ∧ t.tb = s.tb ∧ ∀ (g : Fld) (j : Nat), g.block j = tbBlock → t.get g j = s.get g j

theorem State.timebaseKept_refl (s : State) : s.timebaseKept s := ⟨rfl, rfl, fun _ _ _ => rfl⟩

theorem State.timebaseKept.trans {s t u : State} (h : s.timebaseKept t) (h' : t.timebaseKept u) : s.timebaseKept u := by
  obtain ⟨hcyc, htb, hget⟩ := h
  obtain ⟨hcyc', htb', hget'⟩ := h'
  exact ⟨hcyc'.trans hcyc, htb'.trans htb, fun g j hg => (hget' g j hg).trans (hget g j hg)⟩

theorem State.timebaseKept_set (s : State) {f : Fld} {i : Nat} (v : Nat) (h : f.block i ≠ tbBlock) :
    s.timebaseKept (s.set f v i) :=
  ⟨by simp, by simp, fun _ _ hg => State.get_set_other_block s v fun he => h (he ▸ hg)⟩

theorem State.timebaseKept_bump (s : State) {f : Fld} {i : Nat} (n : Nat) (h : f.block i ≠ tbBlock) :
    s.timebaseKept (s.bump f i n) := by
  refine (s.timebaseKept_set (satAdd f.width (s.get f i) n) h).trans ?_
  unfold State.bump
  cases f.quantity with
  | none => exact State.timebaseKept_refl _
  | some q => exact ⟨rfl, rfl, fun _ _ _ => rfl⟩

/-- A register field reads alike whatever the timebase holds beyond its registers. -/
theorem State.get_withTb (s : State) (tb : Tb) (f : Fld) (i : Nat) : ({ s with tb := tb } : State).get f i = s.get f i := rfl

/-! ### Code words -/

theorem State.timebaseKept_setWord (s : State) (k m : Nat) (p : Bool) : s.timebaseKept (s.setWord k m p) :=
  ⟨rfl, rfl, fun _ _ _ => rfl⟩

theorem State.timebaseKept_storeWord (s : State) (k m : Nat) (p : Bool) : s.timebaseKept (s.storeWord k m p) := by
  unfold State.storeWord
  split
  · exact (s.timebaseKept_set 0 (by decide)).trans (State.timebaseKept_setWord _ ..)
  · exact s.timebaseKept_setWord ..

theorem State.timebaseKept_writeWords : ∀ (n : Nat) (s : State) (k : Nat), s.timebaseKept (s.writeWords k n)
  | 0, s, _ => s.timebaseKept_refl
  | n + 1, s, k => (s.timebaseKept_storeWord k 0 false).trans (State.timebaseKept_writeWords n _ (k + 2))

/-- The errors of a word are counted under kind 0 or 1, so in the block of the memory. -/
theorem State.block_wordKind_ne (s : State) (k : Nat) :
    F.MEM_ECC_CE_CE.block (s.wordKind k) ≠ tbBlock ∧ F.MEM_ECC_UE_UE.block (s.wordKind k) ≠ tbBlock := by
  unfold State.wordKind
  split <;> decide

theorem State.timebaseKept_eccLast (s : State) (addr kind : Nat) : s.timebaseKept (s.eccLast addr kind) :=
  (s.timebaseKept_set 1 (by decide)).trans <| (State.timebaseKept_set _ addr (by decide)).trans <|
    (State.timebaseKept_set _ kind (by decide)).trans (State.timebaseKept_set _ _ (by decide))

theorem State.timebaseKept_readWord (s : State) (k : Nat) : s.timebaseKept (s.readWord k).2 := by
  obtain ⟨hce, hue⟩ := s.block_wordKind_ne k
  unfold State.readWord
  dsimp only
  split
  case isTrue => exact s.timebaseKept_refl
  split
  case isTrue => exact s.timebaseKept_refl
  split
  case isTrue =>
    refine ((s.timebaseKept_bump 1 hce).trans (State.timebaseKept_setWord _ k 0 false)).trans ?_
    split
    · exact State.timebaseKept_set _ 1 (by decide)
    · exact State.timebaseKept_refl _
  case isFalse =>
    exact ((s.timebaseKept_bump 1 hue).trans (State.timebaseKept_setWord ..)).trans (State.timebaseKept_eccLast ..)

theorem State.timebaseKept_readEach : ∀ (ks : List Nat) (s : State), s.timebaseKept (s.readEach ks).2
  | [], s => s.timebaseKept_refl
  | k :: ks, s => (s.timebaseKept_readWord k).trans (State.timebaseKept_readEach ks _)

/-! ### RAWCT at an event -/

@[simp] theorem State.passTo_cyc (s : State) (c : Nat) : (s.passTo c).cyc = c := by
  unfold State.passTo
  dsimp only
  split <;> simp

theorem State.reach_cyc_of_up {s : State} (hup : s.mainUp = true) (r : Raw) :
    (s.reach r).cyc = max s.cyc (r / tapsPerCycle) := by
  have hrun : s.pwr.mainRun = true := hup
  unfold State.reach
  by_cases hlt : s.cyc < r / tapsPerCycle
  · rw [hrun, decide_eq_true hlt, Bool.and_self, if_pos rfl, State.passTo_cyc, Nat.max_eq_right (Nat.le_of_lt hlt)]
  · rw [decide_eq_false hlt, Bool.and_false, if_neg Bool.false_ne_true, Nat.max_eq_left (Nat.le_of_not_lt hlt)]

/-- The first cycle from `c` on that is not before the tap `r`. -/
theorem le_max_ceil_cycle {c r : Nat} (h : c * tapsPerCycle ≤ r) :
    r ≤ max c ((r + (tapsPerCycle - 1)) / tapsPerCycle) * tapsPerCycle
      ∧ max c ((r + (tapsPerCycle - 1)) / tapsPerCycle) * tapsPerCycle < r + tapsPerCycle := by
  dsimp only [tapsPerCycle] at h ⊢
  omega

/-- An event at a raw time that is not past is met in the first cycle that is not before it. -/
theorem State.reach_raw_of_up {s : State} (hup : s.mainUp = true) {r : Raw} (hr : s.raw ≤ r) :
    r ≤ (s.reach (r + (tapsPerCycle - 1))).raw ∧ (s.reach (r + (tapsPerCycle - 1))).raw < r + tapsPerCycle := by
  unfold State.raw
  rw [State.reach_cyc_of_up hup]
  exact le_max_ceil_cycle hr

@[simp] theorem State.reach_tb_cur (s : State) (r : Raw) : (s.reach r).tb.cur = s.tb.cur := by rw [State.reach_tb]
@[simp] theorem State.reach_tb_nextIndex (s : State) (r : Raw) : (s.reach r).tb.nextIndex = s.tb.nextIndex := by
  rw [State.reach_tb]
@[simp] theorem State.reach_tb_sumOfs (s : State) (r : Raw) : (s.reach r).tb.sumOfs = s.tb.sumOfs := by rw [State.reach_tb]

/-- The generation moves on only where a revision asked for begins (R56, R58). -/
theorem State.reach_get_of_begun {s : State} (h : ∀ v ∈ s.tb.revisions, v.begun = true) (r : Raw) (f : Fld) (i : Nat) :
    (s.reach r).get f i = s.get f i := by
  unfold State.reach
  split
  · rw [State.passTo_of_begun (List.all_eq_true.2 h)]
    rfl
  · rfl

/-! ### Conversion -/

theorem Epoch.convert_raw0 (e : Epoch) : e.convert e.raw0 = e.offset := by
  simp [Epoch.convert, elapsed]

theorem State.zt_of_raw0_le {s : State} {e : Epoch} {r : Raw} (hcur : s.tb.cur = some e) (hr : e.raw0 ≤ r) :
    s.zt r = e.convert r := by
  simp [State.zt, hcur, hr]

/-! ### An epoch that is the first of its cycle -/

/-- The record with which cause `kind` begins an epoch at `r` in a cycle that has begun none: its first time is the conversion of `r` so
far, and the offset applied (R45, R46). -/
def State.newEpoch (s : State) (kind : Nat) (r : Raw) (delta : Int) : Epoch :=
  ⟨r, s.epochRate kind, s.zt r + delta, s.tbState, s.tb.calset, s.on F.TB_STATUS_UNTRACED, kind, s.tb.nextIndex, s.get F.TB_GEN_GEN⟩

@[simp] theorem State.takeModDelays_cyc (s : State) : s.takeModDelays.cyc = s.cyc := by
  simp only [State.takeModDelays]
@[simp] theorem State.takeModDelays_cur (s : State) : s.takeModDelays.tb.cur = s.tb.cur := by
  simp only [State.takeModDelays]
@[simp] theorem State.takeModDelays_sumOfs (s : State) : s.takeModDelays.tb.sumOfs = s.tb.sumOfs := by
  simp only [State.takeModDelays]
@[simp] theorem State.takeModDelays_get (s : State) (f : Fld) (i : Nat) : s.takeModDelays.get f i = s.get f i :=
  State.get_withTb s _ f i

/-- A record put into the history takes force; RAWCT, the offsets applied and the generation stay. -/
theorem State.pushHist_spec (s : State) (e : Epoch) :
    (s.pushHist e).cyc = s.cyc ∧ (s.pushHist e).tb.cur = some e ∧ (s.pushHist e).tb.sumOfs = s.tb.sumOfs
      ∧ (s.pushHist e).get F.TB_GEN_GEN = s.get F.TB_GEN_GEN := by
  unfold State.pushHist
  obtain ⟨hcyc, htb, hget⟩ := State.timebaseKept_writeWords 4 _ (slotKey e.index)
  rw [hcyc, htb, hget F.TB_GEN_GEN 0 (by decide)]
  dsimp only
  split
  case isTrue =>
    exact ⟨by simp, rfl, by simp, State.get_set_ne s F.TB_EVT_HIST_WRAP F.TB_GEN_GEN 1 0 0 (by decide)⟩
  case isFalse => exact ⟨rfl, rfl, rfl, rfl⟩

/-- An epoch begun in another cycle than the one in force is the record of `State.newEpoch`. -/
theorem State.beginEpoch_spec {s : State} {c : Epoch} {kind : Nat} {r : Raw} {delta : Int} (hcur : s.tb.cur = some c)
    (hr : c.raw0 / tapsPerCycle ≠ r / tapsPerCycle) :
    (s.beginEpoch kind r delta).cyc = s.cyc ∧ (s.beginEpoch kind r delta).tb.cur = some (s.newEpoch kind r delta)
      ∧ (s.beginEpoch kind r delta).tb.sumOfs = s.tb.sumOfs + delta
      ∧ (s.beginEpoch kind r delta).get F.TB_GEN_GEN = s.get F.TB_GEN_GEN := by
  unfold State.beginEpoch
  extract_lets st base rate tb₀ s₁ fresh push tb₁ s₂ tb₂ s₃
  have hnew : s₂ = push s₁ := by
    have hcur₁ : s₁.tb.cur = some c := hcur
    simp only [s₂, hcur₁, if_neg hr]
  have hpush : (push s₁).cyc = s₁.cyc ∧ (push s₁).tb.cur = some fresh ∧ (push s₁).tb.sumOfs = s₁.tb.sumOfs
      ∧ (push s₁).get F.TB_GEN_GEN = s₁.get F.TB_GEN_GEN := by
    simp only [push, State.get_withTb]
    exact State.pushHist_spec s₁ fresh
  have hnote : s₃.cyc = s₂.cyc ∧ s₃.tb.cur = s₂.tb.cur ∧ s₃.tb.sumOfs = s₂.tb.sumOfs
      ∧ s₃.get F.TB_GEN_GEN = s₂.get F.TB_GEN_GEN := by
    simp only [s₃]
    split <;> exact ⟨rfl, rfl, rfl, rfl⟩
  rw [hnew] at hnote
  obtain ⟨hcyc, hcur', hsum, hgen⟩ := hpush
  obtain ⟨hcyc₃, hcur₃, hsum₃, hgen₃⟩ := hnote
  simp only [State.takeModDelays_cyc, State.takeModDelays_cur, State.takeModDelays_sumOfs, State.takeModDelays_get]
  exact ⟨hcyc₃.trans hcyc, hcur₃.trans hcur', hsum₃.trans hsum, hgen₃.trans hgen⟩

/-! ### REBASE -/

theorem State.epochRate_rebase {s : State} {e : Epoch} (hcur : s.tb.cur = some e) : s.epochRate kRebase = e.rate := by
  simp [State.epochRate, hcur]

/-- A raw time 2^40 units or more after raw0 lies in a later cycle. -/
theorem cycle_ne_of_rebase {a r : Nat} (h : a + 2 ^ 40 ≤ r) : a / tapsPerCycle ≠ r / tapsPerCycle := by
  dsimp only [tapsPerCycle]
  omega

theorem execRebase_of_cur {s : State} {e : Epoch} (hcur : s.tb.cur = some e) :
    exec .rebase s = .next ((s.reach (max s.raw (e.raw0 + 2 ^ 40) + (tapsPerCycle - 1))).beginEpoch kRebase
      (max s.raw (e.raw0 + 2 ^ 40)) 0) := by
  show execRebase s = _
  simp only [execRebase, hcur]

/-- Settles O40: when the cycle of r comes, the epoch in force is still the one from whose raw0 r was counted, and that raw0 lies in an
earlier cycle, so REBASE begins the record of `State.newEpoch` with offset 0. -/
theorem rebaseIsContinuous : Obligations.RebaseIsContinuous := by
  unfold Obligations.RebaseIsContinuous
  intro e s hup hcur
  obtain ⟨r, hrdef⟩ : ∃ r, r = max s.raw (e.raw0 + 2 ^ 40) := ⟨_, rfl⟩
  obtain ⟨u, hu⟩ : ∃ u, u = s.reach (r + (tapsPerCycle - 1)) := ⟨_, rfl⟩
  have hnow : s.raw ≤ r := hrdef ▸ Nat.le_max_left ..
  have hlate : e.raw0 + 2 ^ 40 ≤ r := hrdef ▸ Nat.le_max_right ..
  have hucur : u.tb.cur = some e := by rw [hu, State.reach_tb_cur, hcur]
  obtain ⟨hcyc, hcur', hsum, hgen⟩ := State.beginEpoch_spec (kind := kRebase) (delta := 0) hucur (cycle_ne_of_rebase hlate)
  obtain ⟨hge, hlt⟩ := State.reach_raw_of_up hup hnow
  rw [← hu] at hge hlt
  have hraw : (u.beginEpoch kRebase r 0).raw = u.raw := congrArg (· * tapsPerCycle) hcyc
  have hofs : (u.newEpoch kRebase r 0).offset = e.convert r := by
    show u.zt r + 0 = _
    rw [State.zt_of_raw0_le hucur (Nat.le_trans (Nat.le_add_right _ _) hlate), Int.add_zero]
  have hrate : (u.newEpoch kRebase r 0).rate = e.rate := State.epochRate_rebase hucur
  refine ⟨u.beginEpoch kRebase r 0, u.newEpoch kRebase r 0, r, hrdef, fun h => hrdef.trans (Nat.max_eq_right h), ?_, hcur', rfl,
    Nat.le_trans hge (Nat.le_of_eq hraw.symm), Nat.lt_of_le_of_lt (Nat.le_of_eq hraw) hlt, rfl, hrate, hofs,
    (Epoch.convert_raw0 _).trans hofs, ?_, hgen.symm, ?_, ?_⟩
  · rw [execRebase_of_cur hcur, hu, hrdef]
  · show u.tb.nextIndex = _
    rw [hu, State.reach_tb_nextIndex]
  · intro hbegun
    rw [hgen, hu, State.reach_get_of_begun hbegun]
  · rw [hsum, hu, State.reach_tb_sumOfs, Int.add_zero]

end Sys2Proof.Machine
end

section
/-!
PROOFS of the family 02_timebase (R27, R53): TB_READ, on a ring and on the sideband. Neither the start of a command nor the octets that it
reads touch the timebase, so it converts with the epoch that `State.liveEpoch` gave before it: R27's in the publication cycle of a later
epoch, and in that of the very first the choice of assumption 47.
-/
namespace Sys2Proof.Machine

/-! ### A command that is admitted -/

/-- An admitted command that the sideband accepts too runs its rule, or completes with BAD_PARAM. -/
theorem run_of_admitted {c : Cmd} {s : State} {main ok : Bool} {k : State → State} (h : c.admitted s main) :
    c.run s ⟨true, main⟩ ok k = if ok then k (c.begun s) else c.done (c.begun s) stBadParam := by
  cases hsrc : c.src with
  | ring r => exact run_ring r hsrc main h
  | sideband => simpa using run_sideband (n := ⟨true, main⟩) hsrc h

theorem xfer_of_readOk {c : Cmd} {s : State} {n : Nat} {k : State → State} (h : c.readOk s n) :
    c.xfer s n k = k (c.afterRead s n) := by
  unfold Cmd.readOk at h
  unfold Cmd.xfer Cmd.afterRead
  cases hsrc : c.src with
  | ring r => simp only [hsrc] at h ⊢; simp [h]
  | sideband => simp only [hsrc] at h ⊢; simp [h]

/-- A command's flight record, or CMD_BUSY in the standby domain's host interface, is no part of the timebase. -/
theorem timebaseKept_begun (c : Cmd) (s : State) : s.timebaseKept (c.begun s) := by
  unfold Cmd.begun
  cases c.src with
  | ring r => exact ⟨rfl, rfl, fun _ _ _ => rfl⟩
  | sideband => exact s.timebaseKept_set 1 (by decide)

theorem timebaseKept_afterRead (c : Cmd) (s : State) (n : Nat) : s.timebaseKept (c.afterRead s n) := by
  unfold Cmd.afterRead
  cases c.src with
  | ring r => exact s.timebaseKept_refl
  | sideband => exact State.timebaseKept_readEach _ s

/-! ### What a conversion sees of the timebase -/

theorem State.timebaseKept.raw_eq {s t : State} (h : s.timebaseKept t) : t.raw = s.raw := congrArg (· * tapsPerCycle) h.1

theorem State.timebaseKept.liveEpoch_eq {s t : State} (h : s.timebaseKept t) : t.liveEpoch = s.liveEpoch := by
  obtain ⟨hcyc, htb, -⟩ := h
  unfold State.liveEpoch
  rw [hcyc, htb]

theorem State.timebaseKept.on_eq {s t : State} (h : s.timebaseKept t) {g : Fld} {j : Nat} (hg : g.block j = tbBlock) :
    t.on g j = s.on g j := by
  obtain ⟨-, -, hget⟩ := h
  unfold State.on
  rw [hget g j hg]

theorem State.liveEpoch_of_cold {s : State} (h : s.tb.cur = none) : s.liveEpoch = none := by
  simp [State.liveEpoch, h]

/-! ### The layout of an entry (R52) -/

theorem le_length : ∀ n v : Nat, (le n v).length = n
  | 0, _ => rfl
  | n + 1, v => congrArg (· + 1) (le_length n (v / 256))

theorem rawBytes_length (r : Raw) : (rawBytes r).length = 10 := le_length 10 _

/-- An entry is its raw time in octets 0 to 9, ZTIME in octets 16 to 27, and 32 octets long. -/
theorem convEntry_layout {mode expired extra step : Bool} {raw zt : Bytes} {e : Epoch} (hraw : raw.length = 10)
    (hzt : zt.length = 12) :
    (convEntry mode expired extra step raw e zt).length = 32 ∧ (convEntry mode expired extra step raw e zt).take 10 = raw
      ∧ ((convEntry mode expired extra step raw e zt).drop 16).take 12 = zt := by
  unfold convEntry
  refine ⟨by simp [le_length, hraw, hzt], by simp [hraw], ?_⟩
  rw [List.append_assoc, List.drop_left' (by simp [le_length, hraw]), List.take_left' hzt]

/-! ### TB_READ -/

/-- What has happened to the timebase when an admitted command's octets have arrived: nothing. -/
theorem timebaseKept_transfer (c : Cmd) (s : State) (n : Nat) : s.timebaseKept (c.afterRead (c.begun s) n) :=
  (timebaseKept_begun c s).trans (timebaseKept_afterRead c _ n)

/-- TB_READ's own rule, once it may begin and its octets arrive. -/
theorem execTbRead_of_admitted {c : Cmd} {s : State} (hadm : c.admitted s true) (hres : c.reservedOk 0 0 0 true = true)
    (hread : c.readOk (c.begun s) 32) {w : State} (hw : w = c.afterRead (c.begun s) 32) {mode : Bool}
    (hmode : mode = (leAt (c.input w 32) 10 1).testBit 0) :
    (∀ e, s.liveEpoch = some e → exec (.tbRead c) s = .next (c.deliver w
        (convEntry mode false false (s.on F.TB_STATUS_STEP_PEND) (rawBytes s.raw) e (ztBytes (e.convert s.raw))) stOk
        (s.cyc % 2 ^ 64)))
      ∧ (s.liveEpoch = none → exec (.tbRead c) s = .next (c.deliver (w.convNone mode false (rawBytes s.raw)).2
        (w.convNone mode false (rawBytes s.raw)).1 stNotReady (s.cyc % 2 ^ 64))) := by
  have hkept : s.timebaseKept w := hw ▸ timebaseKept_transfer c s 32
  have hstep : w.on F.TB_STATUS_STEP_PEND = s.on F.TB_STATUS_STEP_PEND := hkept.on_eq (by decide)
  have hcyc : w.cyc = s.cyc := hkept.1
  have hrule : exec (.tbRead c) s = execTbRead c s := rfl
  rw [hrule, execTbRead, run_of_admitted hadm, if_pos hres, xfer_of_readOk hread, ← hw, hkept.liveEpoch_eq, hkept.raw_eq, hcyc,
    hstep, ← hmode]
  exact ⟨fun e he => by rw [he], fun he => by rw [he]⟩

/-- Settles O42: neither the start of the command nor the octets that it reads touch the timebase, so it converts RAWCT with the live
epoch that the command finds, and in COLD there is none. -/
theorem tbReadConvertsNow : Obligations.TbReadConvertsNow := by
  unfold Obligations.TbReadConvertsNow
  intro c s hadm hres hread
  obtain ⟨hlive, hcold⟩ := execTbRead_of_admitted hadm hres hread rfl rfl
  obtain ⟨hlen, hraw, hzt⟩ := convEntry_layout (rawBytes_length s.raw) (le_length 12 0)
  exact ⟨hlive, fun hcur => ⟨_, _, hcold (State.liveEpoch_of_cold hcur), hlen, hraw, hzt⟩⟩

end Sys2Proof.Machine
end
